-- ==== Sys2Proof/Word.lean ====
section
/-! DEFINITION. The word of the BAR0 register space (R390: one aligned 32-bit word) and the plainest arithmetic on
bit fields given as natural numbers. -/
namespace Sys2Proof

/-- One BAR0 register word (R390). -/
abbrev Word := BitVec 32

/-- The bits `[lo+w-1:lo]` of `x`. -/
def bits (x lo w : Nat) : Nat := x / 2 ^ lo % 2 ^ w

/-- A flag as a bit. -/
def bit (b : Bool) : Nat := if b then 1 else 0

/-- Whether bit `k` of `x` is set. -/
def hasBit (x k : Nat) : Bool := x / 2 ^ k % 2 == 1

/-- `x + n`, held at `top` (a saturating count). -/
def satAdd (x n top : Nat) : Nat := min (x + n) top

end Sys2Proof
end

