-- ==== Sys2Proof/Types.lean ====
section
/-! DEFINITION. The plain records that commands carry and that the state holds: NoC packets (R25), messages in the
buffer (R68), directory requests and entries (R99, R103), table entries (R93, R137, R140, R143, R157, R168, R171,
R175, R182, R270, R351, R358, R359), descriptors and completions of the Skidder (R189, R202), Pyrjan commands (R328),
Catalogue images (R226). A table is a list of keyed entries in one canonical form (keys rising, no entry equal to the
table's reset value); Machine/Table.lean holds its operations. -/
namespace Sys2Proof.Machine

/-- A table: entries that differ from the reset value, by key. -/
abbrev Tbl (α : Type) := List (Nat × α)

/-- What a checker found in a unit it checked (SECDED or FEC): nothing, a corrected error, an uncorrectable one. -/
inductive Ecc where | none | single | double
  deriving DecidableEq, Repr

/-- A NoC packet: the header fields of R25 and the 128-bit data flits. -/
structure Packet where
  dstCol : Nat := 0
  dstRow : Nat := 0
  dstPort : Nat := 0
  srcCol : Nat := 0
  srcRow : Nat := 0
  srcPort : Nat := 0
  vc : Bool := false
  typ : Nat := 0
  tag : Nat := 0
  poison : Bool := false
  e2e : Bool := false
  ret : Bool := false
  err : Nat := 0
  dwcnt : Nat := 1
  addr : Nat := 0
  crc : Nat := 0
  data : List Nat := []
  deriving DecidableEq, Repr

/-- The request sources that time their NoC requests (R32). -/
inductive NocSrc where | bridge | curator | skidder | tally
  deriving DecidableEq, Repr

/-- An outstanding NoC request of a source (R32). -/
structure NocReq where
  src : NocSrc
  tag : Nat
  write : Bool
  addr : Nat
  since : Nat
  deriving DecidableEq, Repr

/-- A BAR0 access in the bridge (R34, R402). -/
structure Bar0Req where
  write : Bool
  off : Nat
  be : Nat
  value : Nat
  tag : Nat
  deriving DecidableEq, Repr

/-- The state of a switched power domain (R22). -/
inductive DomState where | on | entering | gated | waking
  deriving DecidableEq, Repr

/-! ### What the block sends -/

/-- The places the block sends to. -/
inductive Chan where
  | host (p : Nat) | mem (p : Nat) | xep (p : Nat) | mirror | bar0 | noc (r : Nat)
  | hostMem (p : Nat) | prinMem (p : Nat) | curMem | nor | sideband | mgmt | debug | pins | sq (k : Nat)
  deriving DecidableEq, Repr

/-- What the block sends. The arguments of each are given where it is emitted. -/
inductive Op where
  | cmp | cmpS | cmpE | cmpM | memData | memDataPoison | bisnpInv | bisnpData | bisnpCur | biConflictAck
  | memRd | memWr | memWrPoison | atomicOp | gpf1 | gpf2 | homeWrite | homeRead | witnessRead
  | ioCpl | ioCplCa | ioCplCrs | ioCplPoison | ioReq | msg | msgPoison | ptmRsp | ptmReq | credit
  | bar0Cpl | bar0Ca | msix
  | dlogEntry | cplEntry | headWb | dumpBlock | landRec | snapRec | eventEntry | pyrCpl
  | ringRead | imgRead | fragRead | burstRead | burstWrite | verifyRead | readBack
  | linkTrain | linkDisable | linkRetrain | linkPm | linkRate | prbs | doeRsp | ideKey
  | xReq | xRsp | xCap
  | frame | dirReq | fenceRead | fenceWrite | jrnRecord | jrnErase | jrnBaseline | norProgram
  | pin | gateDrive | fmRsp | fmUnsupported | sbData | spdm | tapRsp | dbgData | dbgErr | arrive | bucketMove
  deriving DecidableEq, Repr

/-- The service classes (R161). -/
inductive Cls where | sc0 | sc1 | sc2 | sc3 | scp
  deriving DecidableEq, Repr

/-- The source of a message in the sense of R79. `xep`: a message that came over link p for an originator of another device (R251), `io` one of
CXL.io. `peer`: HOST port oidx of the pair's partner, over the MIRROR port m (R128). -/
inductive Src where
  | host (p : Nat)
  | io (p : Nat)
  | skid (q : Nat)
  | xep (p odev : Nat) (oq : Bool) (oidx : Nat) (io : Bool)
  | peer (m odev oidx : Nat)
  | dev
  deriving DecidableEq, Repr

/-- What a message is, as the rules of R85, R161, R164 tell messages apart. -/
inductive MsgKind where
  | memRead | memWrite | memInv | memWb | atomic
  | ioRead | ioWrite | ioCplData | ioCpl
  | data | cpl | snoop | snpRsp | biConflict | mapref
  deriving DecidableEq, Repr

/-- A Xepin REQ or RSP message header (R251). -/
structure XMsg where
  status : Nat := 0
  op : Nat := 1
  cls : Nat := 0
  poison : Bool := false
  odev : Nat := 0
  oq : Bool := false
  oidx : Nat := 0
  slice : Nat := 0
  sys : Bool := false
  len : Nat := 0
  mv : Nat := 3
  hops : Nat := 0
  tag : Nat := 0
  addr : Nat := 0
  be : Nat := 2 ^ 64 - 1
  data : Nat := 0
  deriving DecidableEq, Repr

/-- A message in the shared buffer. `ask` is the data a read asks for, `bytes` the data it carries, `touch` the cells
it touches (R68), `alt` whether its target has an alternate head (R85). `chg`: cells charged to its slice; `resp`: cells held for its response;
`sysPu`, `sysN`: cells charged to a port unit's system reserve (R71); `stage`: 0 at the policer, 1 in its queue, 2 at the directory, 3 arrived and not yet
taken by its command; `arr`: its number among the arrivals (0: made in the device); `saf`: its header came in store-and-forward mode, `unrel`: units that carry
it and are not yet released (R78); `stomp`: its data leaves stomped on Xepin (R77, R88); `x`: its header on a Xepin link; `pool`: its pool address; `mv`: MetaValue 0 I, 1 S, 2 A, 3 none; `home`: an access the directory makes for a request
(of a write the request is completed already); `paid`: an access of the Skidder, whose worst case is charged while it is in flight (R71); `got`: the lines of a request for several
that have been answered, with their data; `part`: which part of a split CXL.io request it is or answers, 0 the first (R146); `flaw`: inverted check bits in a stored word (R302): 1, 2 one or two in the data, 3, 4 one or two in the header; `op`, `args`:
what is sent when it leaves. -/
structure Msg where
  id : Nat := 0
  src : Src := .dev
  pu : Nat := 0
  slice : Option Nat := none
  cls : Cls := .sc0
  kind : MsgKind := .memRead
  addr : Nat := 0
  bytes : Nat := 0
  ask : Nat := 0
  egress : Nat := 0
  cells : List Nat := []
  touch : Nat := 1
  hdr : Bool := true
  dataIn : Bool := true
  hdrLeft : Bool := false
  arr : Nat := 0
  saf : Bool := false
  unrel : Nat := 0
  poison : Bool := false
  stomp : Bool := false
  x : Option XMsg := none
  gen : Nat := 0
  tag : Nat := 0
  alt : Bool := false
  since : Nat := 0
  chg : Nat := 0
  resp : Nat := 0
  sysPu : Option Nat := none
  sysN : Nat := 0
  stage : Nat := 1
  pool : Nat := 0
  flaw : Nat := 0
  mv : Nat := 0
  home : Bool := false
  paid : Bool := false
  got : Tbl Nat := []
  part : Nat := 0
  op : Op := .msg
  args : List Nat := []
  deriving DecidableEq, Repr

/-- A request the device has sent on a port and that is not answered yet (R86). `got`: of the two answers a caching read gets from the partner
(R105), one has come. -/
structure OutReq where
  idx : Nat
  epoch : Nat
  msg : Msg
  got : Bool := false
  deriving DecidableEq, Repr

/-- The format of an arriving verification unit (R74). -/
inductive UnitFmt where | flit256Lo | flit256 | flit68 | xepin
  deriving DecidableEq, Repr

/-- An arriving verification unit (R74): its sequence number and half, whether it passed its check, whether it failed
an IDE check, the messages whose header it holds (`dataIn`: with all their data), the arrival numbers of messages whose data it completes and of messages it
carries data of without completing them, and the bank the allocator takes for its cell (any bank R64 admits; the choice is the command's). -/
structure RxUnit where
  fmt : UnitFmt
  seq : Nat
  half : Nat
  good : Bool
  bank : Nat
  carries : Bool
  heads : List Msg
  completes : List Nat
  goesOn : List Nat := []
  deriving DecidableEq, Repr

/-- What a partner shows in training (R39, R46, R53, R63). -/
structure Partner where
  cxl : Bool := true
  cache : Bool := false
  type12 : Bool := false
  only68 : Bool := false
  lopt : Bool := false
  maxRate : Nat := 5
  eqByp : Bool := false
  lrev : Bool := false
  gpf : Bool := false
  deriving DecidableEq, Repr

/-- A partner's power management request (R51). -/
inductive PmReq where | l1 | l0p (width : Nat)
  deriving DecidableEq, Repr

/-- The credit kinds of R69. -/
inductive CreditKind where
  | memReq | memData | ioPHdr | ioNpHdr | ioCplHdr | ioPData | ioNpData | ioCplData
  deriving DecidableEq, Repr

/-- Credits granted to a host and not yet seen used (R69). -/
structure Credits where
  memReq : Nat := 0
  memData : Nat := 0
  ioPHdr : Nat := 0
  ioNpHdr : Nat := 0
  ioCplHdr : Nat := 0
  ioPData : Nat := 0
  ioNpData : Nat := 0
  ioCplData : Nat := 0
  deriving DecidableEq, Repr

/-- The DOE protocols served (R38, R56, R337). -/
inductive DoeProto where | cmaSpdm | securedCma | ideKm | cdat
  deriving DecidableEq, Repr

/-! ### Coherence -/

/-- The request classes of R103. -/
inductive ReqCls where | rds | rda | inv | wb | ncr | ncw | atom
  deriving DecidableEq, Repr

/-- MetaValue of a CXL.mem message. -/
inductive Mv where | i | s | a | none
  deriving DecidableEq, Repr

/-- The AtomicOps of R119. -/
inductive AtomKind where | fadd32 | fadd64 | swap32 | swap64 | cas32 | cas64 | cas128
  deriving DecidableEq, Repr

/-- A request that reaches the directory: its pool address, the data it carries (a 512-bit line), its byte mask. For an
AtomicOp, `op` and the operands. `age` is its age stamp (R115) and `ord` its place among the arrivals at its slice, 0 before its first; `gen`: its slice's
generation when it was admitted (R149); `sys`: it belongs to no slice; `part`: which part of a split CXL.io request it is (R146). -/
structure DirReq where
  src : Src
  cls : ReqCls
  pool : Nat
  mv : Mv := .none
  slice : Nat := 0
  tag : Nat := 0
  data : Nat := 0
  be : Nat := 2 ^ 64 - 1
  poison : Bool := false
  op : AtomKind := .fadd32
  arg : Nat := 0
  cmp : Nat := 0
  age : Nat := 0
  seen : Bool := false
  ord : Nat := 0
  gen : Nat := 0
  sys : Bool := false
  part : Nat := 0
  deriving DecidableEq, Repr

/-- Directory states (R100). -/
inductive DirSt where | i | s | e | m | b
  deriving DecidableEq, Repr

/-- Busy types (R101). -/
inductive BType where | mem | inv | own | cur | wr | evict | atom | rcl
  deriving DecidableEq, Repr

/-- A directory entry (R99); `flaw` is a detected-at-next-read check-bit error of a half (R302): 0 none, 1 the low
half corrected, 2 the low half uncorrectable, 3 the high half corrected, 4 the high half uncorrectable. -/
structure DirEntry where
  tag : Nat := 0
  st : DirSt := .i
  bt : BType := .mem
  owner : Nat := 0
  pred : Nat := 0
  ac : Bool := false
  win : Nat := 0
  sharers : Nat := 0
  lru : Nat := 0
  flaw : Nat := 0
  deriving DecidableEq, Repr

/-- Snoop responses (R104). -/
inductive SnpRsp where | i | s | e
  deriving DecidableEq, Repr

/-- A transaction tracker (R102): the line it holds busy, the busy type, the request served, the ports still to answer, the owner snooped, whether memory
data is awaited and in answer to which message (`memId`), what has come: memory's data, the owner's with its byte enables. `old` is the entry before the line
became busy, `way` the way it lies in (16: none), `rcl` a tracker of the recall engine, `bcast` a REBUILD broadcast, `pass` an AtomicOp that memory runs (R120),
`ue`: its entry's sharers were lost meanwhile (R130). -/
structure Tracker where
  line : Nat
  bt : BType
  req : DirReq
  waits : List Nat := []
  owner : Option Nat := none
  memWait : Bool := false
  memData : Option (Nat × Bool) := none
  ownData : Option (Nat × Nat × Bool) := none
  lost : Bool := false
  rsp : Option SnpRsp := none
  bitag : Option Nat := none
  expired : Bool := false
  old : DirEntry := {}
  way : Nat := 16
  rcl : Bool := false
  bcast : Bool := false
  swept : List Nat := []
  memId : Nat := 0
  pass : Bool := false
  ue : Bool := false
  since : Nat := 0
  deriving DecidableEq, Repr

/-- What a parked request waits for (R115, R95); `held`: a request that has not reached its slice yet (R23, R291). -/
inductive ParkWhy where | line | way | tracker | disable | atomUnit | held
  deriving DecidableEq, Repr

/-- A park entry (R115). `key` is the source of its reserved entries: a port unit, or 64 for the Skidder. `rcl`: a parked recall, on a tracker of the recall
engine (R125). -/
structure Park where
  req : DirReq
  shared : Bool
  key : Nat
  why : ParkWhy
  rcl : Bool := false
  deriving DecidableEq, Repr

/-- A line of an atomic cache (R123); `lru` is the last use. -/
structure AcLine where
  line : Nat
  data : Nat
  lru : Nat
  flaw : Nat := 0
  deriving DecidableEq, Repr

/-- A message awaited by the directory (R111). -/
inductive Awaited where | bi (p : Nat) | mem
  deriving DecidableEq, Repr

/-! ### Table entries -/

/-- A decoder window (R137). -/
structure Window where
  base : Nat := 0
  ext : Nat := 0
  num : Nat := 0
  en : Bool := false
  deriving DecidableEq, Repr

/-- A slice entry (R137). -/
structure SliceE where
  st : Nat := 0
  port : Nat := 0
  gen : Nat := 0
  pasid : Nat := 0
  pasidEn : Bool := false
  defRd : Bool := false
  defWr : Bool := false
  defAtom : Bool := false
  lost : Bool := false
  dlogEn : Bool := false
  ioDef : Bool := false
  pend : Nat := 0
  gdisc : Nat := 0
  pWin : Nat := 0
  pPort : Nat := 0
  pPasidEn : Bool := false
  pPasid : Nat := 0
  win0 : Window := {}
  win1 : Window := {}
  win2 : Window := {}
  win3 : Window := {}
  pBase0 : Nat := 0
  pBase1 : Nat := 0
  pBase2 : Nat := 0
  pBase3 : Nat := 0
  deriving DecidableEq, Repr

/-- An extent entry (R140). `st`: 0 FREE, 1 MAPPED, 2 SCRUB, 3 BAD. -/
structure ExtentE where
  valid : Bool := false
  st : Nat := 0
  vol : Bool := false
  cat : Bool := false
  altEn : Bool := false
  altPartner : Bool := false
  port : Nat := 0
  altPort : Nat := 0
  ld : Nat := 0
  dcd : Bool := false
  dpa : Nat := 0
  atomOk : Bool := false
  mapcnt : Nat := 0
  deriving DecidableEq, Repr

/-- A region rule (R143). -/
structure RuleE where
  en : Bool := false
  rd : Bool := false
  wr : Bool := false
  atom : Bool := false
  src : Nat := 0
  lock : Bool := false
  base : Nat := 0
  limit : Nat := 0
  deriving DecidableEq, Repr

/-- A coherent window (R93). -/
structure CWinE where
  first : Nat := 0
  num : Nat := 0
  en : Bool := false
  home : Bool := false
  rebuild : Bool := false
  atomPass : Bool := false
  predEn : Bool := false
  acacheEn : Bool := false
  elig : Nat := 0
  deriving DecidableEq, Repr

/-- A dirty-page log entry of the DLOG table (R157), with the ring pass the device keeps beside it. -/
structure DlogE where
  base : Nat := 0
  size : Nat := 0
  ovf : Bool := false
  pi : Nat := 0
  ci : Nat := 0
  phase : Bool := true
  deriving DecidableEq, Repr

/-- A POLICE entry (R168). -/
structure PoliceE where
  cir : Nat := 0
  pir : Nat := 0
  cbs : Nat := 0x10000
  pbs : Nat := 0x10000
  init : Bool := true
  w0 : Nat := 1
  w1 : Nat := 1
  w2 : Nat := 1
  w3 : Nat := 1
  b0 : Nat := 0x41
  b1 : Nat := 0x41
  b2 : Nat := 0x41
  b3 : Nat := 0x41
  deriving DecidableEq, Repr

/-- A CLASS entry (R171). -/
structure ClassE where
  rate : Nat := 0
  init : Bool := true
  weight : Nat := 0
  burst : Nat := 0x4000
  deriving DecidableEq, Repr

/-- A gate entry (R175). -/
structure GateE where
  open4 : Nat := 0xF
  dur : Nat := 0
  deriving DecidableEq, Repr

/-- A gate list bank (R175). -/
structure GclBank where
  base : Nat := 0
  last : Nat := 0
  entries : Tbl GateE := []
  deriving DecidableEq, Repr

/-- An entry of a HOST function's MSI-X table (R133): where a message goes, what it writes, whether it is masked, whether one waits for that (log entry 162). -/
structure MsixE where
  addr : Nat := 0
  data : Nat := 0
  mask : Bool := true
  pend : Bool := false
  deriving DecidableEq, Repr

/-- A Skidder queue entry (R182) with the CAT bit EN and the CORE bits of its QCTL and QSTS (R183).
`st`: 0 DISABLED, 1 ACTIVE, 2 STOPPING, 3 HALTED. -/
structure QueueE where
  st : Nat := 0
  fphase : Bool := true
  size : Nat := 6
  weight : Nat := 1
  burst : Nat := 4
  head : Nat := 0
  tail : Nat := 0
  okSeq : Nat := 0
  lastStatus : Nat := 0
  ring : Nat := 0
  cpl : Nat := 0
  hwb : Nat := 0
  en : Bool := false
  abort : Bool := false
  resume : Bool := false
  rej : Bool := false
  deriving DecidableEq, Repr

/-- The fabric table (R270): header, 64 x 8 buckets (key 64 g + b, VALID and port), membership words. -/
structure XgrpT where
  fabricId : Nat := 0
  rebal : Bool := true
  mseq : Nat := 0
  applied : Tbl Nat := []
  buckets : Tbl (Option Nat) := []
  members : Tbl Nat := []
  deriving DecidableEq, Repr

/-- An SDUMP entry (R358). -/
structure SdumpE where
  addr : Nat := 0
  en : Bool := false
  deriving DecidableEq, Repr

/-- A counter selector (R351). -/
structure CtrSelE where
  event : Nat := 0
  ovr : Bool := false
  en : Bool := false
  cmask : Nat := 0x1F
  thresh : Nat := 0
  deriving DecidableEq, Repr

/-- A queue sample (R359). -/
structure QsampE where
  msgs : Nat := 0
  cells : Nat := 0
  sweep : Nat := 0
  hdelay : Nat := 0
  deriving DecidableEq, Repr

/-! ### The Skidder -/

/-- A descriptor (R189). `rsv` says that a reserved field is not zero. -/
structure Desc where
  op : Nat := 0
  irq : Bool := false
  fence : Bool := false
  srcInd : Bool := false
  dstInd : Bool := false
  srcSp : Bool := false
  dstSp : Bool := false
  chk : Bool := false
  phase : Bool := true
  trig : Nat := 0
  timer : Nat := 0
  chainQ : Nat := 0
  rsv : Bool := false
  tag : Nat := 0
  len : Nat := 0
  src : Nat := 0
  dst : Nat := 0
  pattern : Nat := 0
  waitSeq : Nat := 0
  srcNfrag : Nat := 0
  dstNfrag : Nat := 0
  deriving DecidableEq, Repr

/-- A fragment (R191). `rsv` says that a reserved field is not zero. -/
structure Frag where
  addr : Nat
  len : Nat
  rsv : Bool := false
  deriving DecidableEq, Repr

/-- How a read the Skidder made ended. -/
inductive RdResult where | ok | poison | fail
  deriving DecidableEq, Repr

/-- A fetched descriptor: its slot, its generation, an uncorrectable error in its stored copy, whether its PHASE is that of the slot's pass, that pass (R185), which
fragment tables are being read, the tables read, whether one could not be. -/
structure FDesc where
  slot : Nat
  d : Desc
  gen : Nat
  ue : Bool := false
  pass : Bool := true
  exp : Bool := true
  srcAsk : Bool := false
  dstAsk : Bool := false
  srcFr : Option (List Frag) := none
  dstFr : Option (List Frag) := none
  fragErr : Bool := false
  deriving DecidableEq, Repr

/-- A started descriptor (R193, R201, R204): its fragments, its next offset, what was refused, the first failing burst with its status, whether it
issues no more bursts, whether it was aborted, its source CRC up to `crcAt` with data that came ahead of it, whether it wrote data and up to
where, whether its next burst waits for admission, the bursts of a SCRUB still to be read back, how far the read-back has come and whether it failed, the destination CRC so
far, its final status. -/
structure ADesc where
  q : Nat
  slot : Nat
  d : Desc
  gen : Nat
  srcFr : List Frag := []
  dstFr : List Frag := []
  off : Nat := 0
  refused : List (Nat × Nat) := []
  fail : Option (Nat × Nat) := none
  stopped : Bool := false
  aborted : Bool := false
  crc : Nat := 0xFFFFFFFF
  crcAt : Nat := 0
  ahead : List (Nat × List Nat) := []
  wrote : Bool := false
  top : Nat := 0
  waits : Bool := false
  verify : List (Nat × Nat) := []
  rbAt : Nat := 0
  rbFail : Bool := false
  dcrc : Nat := 0xFFFFFFFF
  status : Option Nat := none
  deriving DecidableEq, Repr

/-- What an access of the Skidder is for: descriptors (R184), a fragment table (R191), a burst's read and its write (R193), a read-back or verify read (R201). -/
inductive AccKind where | ring | frag (dst : Bool) | read | write | check
  deriving DecidableEq, Repr

/-- An access of the Skidder in flight: the descriptor it is for (of a ring read the first slot), its offset and length, its addresses as the queue gives them and,
where a side lies in pooled memory, as pool addresses, its generation, the cells charged for its worst case (R71, R194). Its answer has come (`here`), with data, and
whether it is good (0), poisoned (1) or an error (2). `void`: what asked for it has ended. -/
structure SkAcc where
  id : Nat
  q : Nat
  slot : Nat
  kind : AccKind
  off : Nat := 0
  n : Nat
  src : Nat := 0
  dst : Nat := 0
  sPool : Option Nat := none
  dPool : Option Nat := none
  gen : Nat
  cells : Nat
  here : Bool := false
  data : Nat := 0
  bad : Nat := 0
  void : Bool := false
  deriving DecidableEq, Repr

/-- A Skidder completion (R202). -/
structure SCpl where
  q : Nat
  slot : Nat
  tag : Nat
  status : Nat
  phase : Bool
  srcCrc : Nat
  residue : Nat
  failOff : Nat
  irq : Bool
  gen : Nat
  deriving DecidableEq, Repr

/-! ### Pyrjan commands -/

/-- A Pyrjan command (R328): the ring slot it lies in, its header fields, bytes 16 to 111 as one little-endian number
(R5), and the MAC of bytes 112 to 127. `opcode` is the value of byte 0. -/
structure PyrCmd where
  slot : Nat := 0
  opcode : Nat := 0
  crit : Bool := false
  irq : Bool := false
  sub : Nat := 0
  cid : Nat := 0
  prin : Nat := 0
  rsv : Nat := 0
  target : Nat := 0
  cnt : Nat := 0
  params : Nat := 0
  mac : Nat := 0
  deriving DecidableEq, Repr

/-- A commit record (R332): the command, the status its completion will carry, whether its action has finished. -/
structure CommitRec where
  prin : Nat := 0
  cmd : PyrCmd := {}
  status : Nat := 0
  code : Nat := 0
  result : Nat := 0
  done : Bool := false
  deriving DecidableEq, Repr

/-- A change item of a journal record or a PREP (R231): where it lies in BAR0, how many bytes, the new bytes. -/
structure Item where
  loc : Nat
  len : Nat
  bytes : Nat
  deriving DecidableEq, Repr

/-- A principal's ring attachment and pointers (R280, R325 to R327, R338, R341, R342): attached; the next slot to fetch; the first slot without
a written completion; the phase of that slot's pass; the confirmed feature word; the event ring with the levels last delivered (`evLast`,
the sources delivered as active), the system queues whose interrupt waits; the lifecycle nonce; slots completed ahead of HEAD. -/
structure RingE where
  attached : Bool := false
  fetch : Nat := 0
  head : Nat := 0
  phase : Bool := true
  feat : Option Nat := none
  evEn : Bool := false
  evBase : Nat := 0
  evSize : Nat := 8
  evSub : Nat := 0
  evPi : Nat := 0
  evPhase : Bool := true
  evLast : List Nat := []
  evSq : List Nat := []
  evLost : Bool := false
  nonce : Option Nat := none
  written : List Nat := []
  deriving DecidableEq, Repr

/-- A principal's key, counter and rights (R322, R337). `jcnt`: the counter in the newest change of this principal that a journal record holds
or will hold (R230). -/
structure KeyE where
  key : Option Nat := none
  cnt : Nat := 0
  jcnt : Nat := 0
  rights : Nat := 0
  deriving DecidableEq, Repr

/-- A Catalogue image (R226, R227): header fields and the sections' contents. The seal of R228 is the `sealed` flag: a
copy whose tag does not verify has it false. `iv`: the initialisation vector it is sealed with. -/
structure Image where
  format : Nat := 1
  devId : Nat := 0
  role : Bool := false
  source : Nat := 0
  cause : Nat := 0
  p1Late : Bool := false
  p2Miss : Bool := false
  cfgSeq : Nat := 0
  saveTime : Nat := 0
  lostLines : Nat := 0
  gpfOk : Nat := 0
  gpfMiss : Nat := 0
  p0t : Nat := 0
  p1t : Nat := 0
  p2t : Nat := 0
  len : Nat := 905232
  iv : Nat := 0
  aonKept : Bool := true
  sealed : Bool := true
  slices : Tbl SliceE := []
  extents : Tbl ExtentE := []
  rules : Tbl RuleE := []
  cwins : Tbl CWinE := []
  polices : Tbl PoliceE := []
  classes : Tbl ClassE := []
  gcls : Tbl GclBank := []
  dlogs : Tbl DlogE := []
  queues : Tbl QueueE := []
  regs : Tbl Nat := []
  xgrp : XgrpT := {}
  sdumps : Tbl SdumpE := []
  ctrsels : Tbl CtrSelE := []
  keys : Tbl KeyE := []
  rings : Tbl RingE := []
  commits : List CommitRec := []
  deriving DecidableEq, Repr

/-- A committed change not yet in NOR (R229, R231): when it was made, CFG_SEQ after it, whether the device made it or which principal's command, that
principal's counter after it, the configuration it left. -/
structure CatChg where
  at_ : Nat := 0
  seq : Nat := 0
  dev : Bool := true
  prin : Nat := 0
  cnt : Nat := 0
  after : Image := {}
  deriving DecidableEq, Repr

/-- The last write a MEM port completed in P1 (R219): where, how many bytes, the bytes with those that were enabled. -/
structure Witness where
  addr : Nat
  n : Nat := 64
  data : Nat
  be : Nat := 2 ^ 64 - 1
  deriving DecidableEq, Repr

/-- A journal record (R231): the change, the IV it is sealed with, its items. -/
structure JrnRec where
  chg : CatChg
  iv : Nat
  items : List Item
  deriving DecidableEq, Repr

/-- A command's result (R329, R334, R335): status, state code, RESULT. -/
structure Res where
  status : Nat := 0
  code : Nat := 0
  result : Nat := 0
  deriving DecidableEq, Repr

/-- A change the commit engine takes (R282): a command of a principal with what its exchange with the outside gave, the counter of a command
refused after its check (R331), a BAR0 write, the device's own change. -/
inductive Change where
  | cmd (p : Nat) (c : PyrCmd) (x : Nat) | refused (p : Nat) (c : PyrCmd) (r : Res) | reg (off value be : Nat) | dev (items : List Item)
  deriving DecidableEq, Repr

/-- How a home or the journal read back (R235): as written, unreadable, wrong format, tag failed, a table failed. -/
inductive HomeRead where | asWritten | unreadable | format | tag | table
  deriving DecidableEq, Repr

/-- What the Curator finds of the journal: how its baseline read, and how many records behind it read well (R231, R235). -/
structure JrnRead where
  read : HomeRead
  good : Nat
  deriving DecidableEq, Repr

/-! ### Xepin and the pair -/

/-- A frame half as it arrives (R246): which half, its octets, and the bank the allocator takes for its cell. -/
structure RxHalf where
  half : Fin 2
  bytes : List Nat
  bank : Fin 64
  deriving DecidableEq, Repr

/-- A lane's PRBS checker locks (R59) and counts these bit errors from then to the next command (log entry 8). -/
structure LaneLock where
  lane : Fin 4
  errs : Nat
  deriving DecidableEq, Repr

/-- What a MemWr brings of a line: its 64 octets and their byte enables (R110). -/
structure LineWr where
  data : Nat
  be : Nat
  deriving DecidableEq, Repr

/-- A Xepin capability record (R244). -/
structure CapRec where
  version : Nat := 1
  devId : Nat := 0
  fabricId : Nat := 0
  role : Nat := 3
  byp : Bool := false
  rxValid : Bool := false
  rxNext : Nat := 0
  inst : Nat := 0
  deriving DecidableEq, Repr

/-- How a received frame half checks (R247, R248). -/
inductive HalfCheck where | good | stomped | bad
  deriving DecidableEq, Repr

/-- A heartbeat (R279). -/
structure HbMsg where
  pstate : Nat
  role : Bool
  cnt : Nat
  cfgSeq : Nat
  deriving DecidableEq, Repr

/-- A partner PREP (R277, R278). -/
structure PrepMsg where
  mid : Nat
  cfgSeq : Nat
  prin : Nat
  dev : Bool
  cnt : Nat
  more : Bool
  items : List Item
  deriving DecidableEq, Repr

/-- Half of a fence line (R287). -/
structure FenceHalf where
  cnt : Nat := 0
  yield : Bool := false
  take : Bool := false
  deriving DecidableEq, Repr

/-- What a host asks in a CXL.io request (R133, R138): an MSI-X table entry's word k is its address, low and high half, its data, its mask. -/
inductive IoReq where
  | memRd (addr len : Nat) | memWr (addr len data : Nat) | atomic (addr : Nat) (op : AtomKind) (arg cmp : Nat)
  | cfg | doorbellRd (off : Nat) | doorbellWr (off value : Nat) | msixRd (entry k : Nat) | msixWr (entry k value : Nat)
  deriving DecidableEq, Repr

/-- Debug master accesses (R158). -/
inductive DbgAcc where
  | pool (write : Bool) (addr value : Nat) | cat (ext : Nat) | keyStore | curatorMem
  deriving DecidableEq, Repr

/-- Measured levels of a slot: VIN and VOUT in mV, IOUT in mA (R319). -/
structure SlotLevels where
  vin : Nat
  vout : Nat
  iout : Nat
  deriving DecidableEq, Repr

/-- FM API requests (R343). -/
inductive FmOp where
  | identify | physPortState | vcsInfo | ldInfo | tunnel | physPortControl | bindVppb | unbindVppb | setLd | dcMgmt | other
  deriving DecidableEq, Repr

/-- Where an FM API request arrives (R343). -/
inductive FmVia where | mailbox (port : Nat) | mctpSideband | mctpMgmt
  deriving DecidableEq, Repr

/-- Sideband transactions (R344). -/
inductive SbAcc where | mctp (op : FmOp) | spdm | regRead (off : Nat) | regWrite (off value : Nat)
  deriving DecidableEq, Repr

/-! ### What the block has sent -/

/-- One thing sent to the outside. -/
structure Emit where
  chan : Chan
  op : Op
  args : List Nat
  deriving DecidableEq, Repr

end Sys2Proof.Machine
end

