-- ==== Sys2Proof/Syntax.lean ====
section
/-! DEFINITION. The commands of the block, one constructor per row of spec/opcode_table.json. The table gives its rows no
operand bits; the operands here are what the row's rule says arrives with it. Indices are bounded types, so a command can name no
port, slice or queue that does not exist. -/
namespace Sys2Proof
open Sys2Proof.Machine

/-- One command of the table (spec/opcode_table.json). -/
inductive Instr where
  /-- BAR0_ACCESS (R402): The management function bridge decodes a BAR0 access and sends it as a NoC packet to the stop that serves it. -/
  | bar0Access (write : Bool) (off : Nat) (be : Nat) (value : Nat)
  /-- NOC_FLIT_ARRIVE (R30): A router checks an arriving flit with SECDED, corrects it, discards the packet, or poisons it, and forwards it by dimension order. -/
  | nocFlitArrive (r : Fin 36) (pkt : Packet) (flit : Nat) (err : Ecc)
  /-- CFG_RD (R26): A register read packet reaches its target, which answers with a read completion. -/
  | cfgRd (pkt : Packet)
  /-- CFG_WR (R31): A register write packet reaches its target, which checks any end-to-end CRC, performs the write and acknowledges it. -/
  | cfgWr (pkt : Packet)
  /-- TBL_RD (R392): A table-window read returns one entry as it stood in one CCLK cycle. -/
  | tblRd (pkt : Packet)
  /-- TBL_WR (R26): A table-window write reaches its target and takes effect if the window is writable. -/
  | tblWr (pkt : Packet)
  /-- RD_CPL (R26): A read completion with data returns to the requesting source. -/
  | rdCpl (pkt : Packet)
  /-- WR_ACK (R26): A write acknowledgement returns to the requesting source. -/
  | wrAck (pkt : Packet)
  /-- EVENT (R26): An event message reaches the event delivery logic. -/
  | event (pkt : Packet)
  /-- SNAP (R357): Counter snapshot data reaches Tally for writing into the snapshot ring. -/
  | snap (pkt : Packet)
  /-- NOC_RETURNED_REQUEST (R36): A request returned with RET = 1 and an error code reaches its source, which closes it with an error. -/
  | nocReturnedRequest (pkt : Packet)
  /-- NOC_REQUEST_TIMEOUT (R32): A NoC request unanswered after 100 µs is closed with an error, and the source router sets SRC_TMO. -/
  | nocRequestTimeout (src : NocSrc) (tag : Nat)
  /-- NOC_STALL (R36): A packet that waits 10 µs before a quiesced router is returned, if a request, or discarded, if a response, and STALL is set. -/
  | nocStall (r : Fin 36) (pkt : Packet)
  /-- DOMAIN_ON (R33): A waking domain comes on, clears GATE, sets WOKE, and the held packets leave in order. -/
  | domainOn (d : Fin 32)
  /-- WAKE_FAIL (R33): A domain not on 15 µs after its wake request makes the router return held requests with WAKE_FAIL and discard held responses. -/
  | wakeFail (d : Fin 32)
  /-- GATE_REQUEST (R20): A write of PWRCTL.GATE requests power gating or power-on of a stand or directory slice. -/
  | gateRequest (d : Fin 32) (gate : Bool)
  /-- DOMAIN_GATED (R22): A domain completes its entry into the gated state and GATED reads 1. -/
  | domainGated (d : Fin 32)
  /-- QUIESCE (R34): Setting NOC.CTL.QUIESCE makes the router stop accepting flits and deliver what it holds. -/
  | quiesce (r : Fin 36)
  /-- UNQUIESCE (R34): Clearing NOC.CTL.QUIESCE returns the router to service, and waiting accesses continue. -/
  | unquiesce (r : Fin 36)
  /-- QUIESCE_COMPLETE (R37): The router has delivered or returned all held packets and sets QUIESCED. -/
  | quiesceComplete (r : Fin 36)
  /-- LOCAL_EN_CHANGE (R35): A write changing NOC.CTL.LOCAL_EN takes effect only while QUIESCED is 1, and otherwise sets CFG_REJ. -/
  | localEnChange (r : Fin 36) (value : Word)
  /-- REFCLK_LOST (R18): No REFCLK edge for 100 ns declares REFCLK lost, and the root PLL enters holdover. -/
  | refclkLost
  /-- CLOCK_MONITOR_WINDOW (R17): At the end of each 10-µs window, the monitor raises a frequency fault for a derived clock more than 1 part in 1,000 off its ratio. -/
  | clockMonitorWindow (c : Int) (n : Int) (m : Int) (a : Int)
  /-- ROOT_PLL_LOCK (R378): The root PLL locks after PERST_N, and the dividers start. -/
  | rootPllLock
  /-- PLL_LOCK_TIMEOUT (R378): A root PLL not locked 2 ms after PERST_N rises holds non-AON logic in reset and drives ERR_N low. -/
  | pllLockTimeout
  /-- LINK_ENABLE (R44): PU.LNKCTL.ENABLE going from 0 to 1 checks the port configuration and starts bring-up or refuses it. -/
  | linkEnable (p : Fin 64)
  /-- LINK_DISABLE (R45): ENABLE written 0 takes the link to Disabled and the port to OFF, and expires any egress hold. -/
  | linkDisable (p : Fin 64)
  /-- RETRAIN (R45): Writing PU.LNKCTL.RETRAIN in UP retrains the link at the current rate; otherwise it clears at once. -/
  | retrain (p : Fin 64)
  /-- RECOVERY_EXIT (R45): Recovery exits to L0, and RETRAIN clears. -/
  | recoveryExit (p : Fin 64)
  /-- TRAINING_COMPLETE (R45): Training at 2.5 GT/s completes, and the protocol is accepted or refused. -/
  | trainingComplete (p : Fin 64) (partner : Partner)
  /-- RATE_STEP_COMPLETE (R46): A rate step completes, and the port begins the next step or reaches its target rate. -/
  | rateStepComplete (p : Fin 64) (preset : Nat)
  /-- EQ_FAIL (R48): Equalization fails at a rate, and the port keeps the highest rate that passed and goes UP. -/
  | eqFail (p : Fin 64)
  /-- TRAINING_FALLBACK (R45): Training falls back to Detect and restarts at 2.5 GT/s without declaring link-down. -/
  | trainingFallback (p : Fin 64)
  /-- LOCK_LOSS (R52): A lane's lock timer reaches LOCK_LOSS_TIME, and the lane is lost. -/
  | lockLoss (p : Fin 64) (lanes : Nat)
  /-- RECOVERY_TO_DETECT (R54): Recovery exits to Detect on a port in UP, which declares link-down. -/
  | recoveryToDetect (p : Fin 64)
  /-- L1_IDLE_TIMEOUT (R51): A HOST port idle for L1_IDLE µs initiates L1. -/
  | l1IdleTimeout (p : Fin 64)
  /-- PARTNER_PM_REQUEST (R51): A partner's L1 or L0p request is accepted. -/
  | partnerPmRequest (p : Fin 64) (req : PmReq)
  /-- L0P_WIDTH_CHANGE (R51): A change of PMCTL.L0P_WIDTH makes the device request L0p or return to full width. -/
  | l0pWidthChange (p : Fin 64) (width : Fin 8)
  /-- LINK_PM_EXIT (R49): A link exits L0p or L1 to full width in L0. -/
  | linkPmExit (p : Fin 64)
  /-- DOE_REQUEST (R56): A DOE request (CMA/SPDM, IDE_KM or CDAT) arrives and is answered. -/
  | doeRequest (fn : Nat) (proto : DoeProto) (key : Option Nat)
  /-- IDE_KEY_PROGRAM (R56): An IDE_KM key programming exchange completes and switches or installs key sets. -/
  | ideKeyProgram (p : Fin 64) (link : Bool) (ok : Bool)
  /-- IDE_INTEGRITY_FAIL (R57): An IDE integrity check fails: the streams are marked insecure, epoch flits are handled by mode, and link-down is declared. -/
  | ideIntegrityFail (p : Fin 64) (link : Bool) (forwarded : List Nat)
  /-- PRBS_RUN (R59): Setting PRBSCTL.RUN starts pattern generation and error counting in DIAG. -/
  | prbsRun (p : Fin 64)
  /-- EYE_SCAN_START (R60): Setting EYECTL.START starts an eye scan on the selected lane. -/
  | eyeScanStart (p : Fin 64) (lane : Fin 4)
  /-- EYE_SCAN_COMPLETE (R60): An eye scan ends and writes EYERES. -/
  | eyeScanComplete (p : Fin 64) (left : Nat) (right : Nat) (up : Nat) (down : Nat)
  /-- MARGINING_REQUEST (R60): A partner's lane margining request aborts a scan on that lane and sets the abort flag. -/
  | marginingRequest (p : Fin 64) (lane : Fin 4)
  /-- UNIT_RECEIVE (R74): A verification unit arrives, is checked for CRC and sequence, and is written into a buffer cell. -/
  | unitReceive (pu : Fin 64) (u : RxUnit)
  /-- SAF_RELEASE (R78): In store-and-forward mode, a written unit is released to egress one ingress flit time after its check. -/
  | safRelease (pu : Fin 64)
  /-- CREDIT_GRANT (R70): A HOST port returns a flow-control credit when the slice and pool test passes. -/
  | creditGrant (p : Fin 64) (kind : CreditKind)
  /-- RESERVATION_RETURN (R73): A disabled slice's reservation returns to the pool once its charge reaches zero. -/
  | reservationReturn (sl : Fin 512)
  /-- EGRESS_SELECT (R169): At each transmission opportunity, an egress port selects SCP or a shaped message and debits the shapers. -/
  | egressSelect (p : Fin 64) (err : Ecc)
  /-- HOLD_EXPIRE (R85): An egress hold expires: the epoch advances, and queued and outstanding messages are reissued, moved or failed. -/
  | holdExpire (p : Fin 64)
  /-- MEM_RESPONSE (R86): A response arrives on a MEM or XEPIN port and is matched by epoch and tag to an outstanding request. -/
  | memResponse (p : Fin 64) (tag : Nat) (kind : MsgKind) (data : Nat) (poison : Bool)
  /-- RDS (R104): A shared read reaches its directory slice and is granted, snooped or parked. -/
  | rds (req : DirReq)
  /-- RDA (R104): A read for ownership reaches its directory slice and is granted, snoops holders or parks. -/
  | rda (req : DirReq)
  /-- INV (R104): A MemInv reaches its directory slice and invalidates holders to grant ownership without data. -/
  | inv (req : DirReq)
  /-- WB (R104): A write-back from a listed holder is written to memory and updates the entry. -/
  | wb (req : DirReq)
  /-- NCR (R104): A non-caching read is served from memory or by BISnpCur to the owner. -/
  | ncr (req : DirReq)
  /-- NCW (R104): A non-caching write invalidates any holders and is written to memory. -/
  | ncw (req : DirReq)
  /-- SNOOP_DATA (R110): A MemWr from a port being snooped is taken as snoop data, written to memory and completed. -/
  | snoopData (p : Fin 64) (pool : Nat) (line : LineWr) (poison : Bool)
  /-- BIRSP (R110): A snoop response arrives, is matched by BITag, and may complete its transaction. -/
  | birsp (p : Fin 64) (bitag : Nat) (rsp : SnpRsp)
  /-- BICONFLICT (R112): A host's BIConflict is answered with BIConflictAck behind earlier completions. -/
  | biconflict (p : Fin 64) (pool : Nat)
  /-- RSP_TMO (R111): A message awaited by the directory expires and is taken as BIRspI or poisoned data. -/
  | rspTmo (pool : Nat) (what : Awaited)
  /-- BITAG_RETURN (R102): A BITag held after an expired snoop returns to the free list 2 × RSP_TMO after expiry. -/
  | bitagReturn (ds : Fin 16) (tag : Nat)
  /-- PARK_RETRY (R116): When a line leaves B or a tracker or way frees, the oldest parked request is retried. -/
  | parkRetry (ds : Fin 16)
  /-- RETURNED_REQUEST_PRESENT (R117): A port unit presents a returned request again when its reserved park entry frees. -/
  | returnedRequestPresent (ds : Fin 16) (key : Nat)
  /-- ATOMICOP (R119): An AtomicOp reaches its atomic unit, updates the predictor and runs in PASS, HOME or CACHE mode. -/
  | atomicop (req : DirReq)
  /-- PRED_CLR (R122): Writing DS.CTL.PRED_CLR sets every predictor table entry to 1. -/
  | predClr (ds : Fin 16)
  /-- RECALL_START (R125): Setting DS.RCLCTL.START starts the recall engine walk in the selected mode. -/
  | recallStart (ds : Fin 16) (mode : Fin 4) (win : Fin 256) (port : Fin 64)
  /-- RECALL_COMPLETE (R125): A recall ends once every parked recall has ended, and RCL_DONE is set. -/
  | recallComplete (ds : Fin 16)
  /-- WINDOW_CHANGE_COMPLETE (R94): The recall or atomic-cache write-back of a window change or disable ends, and the change takes effect. -/
  | windowChangeComplete (w : Fin 256)
  /-- SLICE_BIND (R136): Command 0x10 binds a slice or adds windows to a bound slice. -/
  | sliceBind (c : PyrCmd)
  /-- SLICE_UNBIND (R134): Command 0x11 unbinds a whole slice or one window through DRAIN, RECALL and ADVANCE. -/
  | sliceUnbind (c : PyrCmd)
  /-- SLICE_REBIND (R153): Command 0x12 moves a slice to a new HOST port through DRAIN, RECALL and ADVANCE. -/
  | sliceRebind (c : PyrCmd)
  /-- SLICE_RESET (R134): Command 0x13 resets a slice's queues, policer, counters and log and advances its generation. -/
  | sliceReset (c : PyrCmd)
  /-- RULE_SET (R144): Command 0x14 replaces all 8 region rules of a slice. -/
  | ruleSet (c : PyrCmd)
  /-- EXTENT_DEFINE (R141): Command 0x15 writes an extent entry. -/
  | extentDefine (c : PyrCmd)
  /-- SLICE_QOS (R168): Command 0x16 writes a slice's POLICE entry. -/
  | sliceQos (c : PyrCmd)
  /-- DLOG_CONFIG (R157): Command 0x17 writes a slice's dirty-page log BASE, SIZE and DLOG_EN. -/
  | dlogConfig (c : PyrCmd)
  /-- WINDOW_SET (R94): Command 0x18 enables, changes or disables a coherent window. -/
  | windowSet (c : PyrCmd)
  /-- SQ_ASSIGN (R181): Command 0x19 assigns system queue 4 to 15 to a principal or none. -/
  | sqAssign (c : PyrCmd)
  /-- QUEUE_QOS (R182): Command 0x1A sets a Skidder queue's WEIGHT and BURST. -/
  | queueQos (c : PyrCmd)
  /-- SLICE_DRAIN_COMPLETE (R134): A slice in DRAIN has no outstanding request and moves to RECALL. -/
  | sliceDrainComplete (sl : Fin 512)
  /-- DRAIN_TIMEOUT (R135): The drain timer reaches DRAIN_MS, and outstanding requests of the slice are abandoned. -/
  | drainTimeout (sl : Fin 512)
  /-- GENERATION_ADVANCE (R150): A slice in ADVANCE, 1 ms after its previous advance, increments GEN and takes the row its command names. -/
  | generationAdvance (sl : Fin 512)
  /-- SCRUB_COMPLETE (R151): An extent scrub ends, and the extent enters FREE or BAD. `ok`: which of the two; one that is not the scrub's verdict ends nothing. -/
  | scrubComplete (ext : Fin 65536) (ok : Bool)
  /-- VIO_CLEAR (R147): Writing 1 to PVSTS.VIO clears VIO, OVF and CNT together. -/
  | vioClear (chk : Fin 18)
  /-- DLOG_CI_WRITE (R157): Software advances the log consumer index through the doorbell page. -/
  | dlogCiWrite (port : Fin 64) (sl : Fin 512) (value : Nat)
  /-- FLT_CLR (R156): Writing DLOG_FLT.FLT_CLR clears the slice's duplicate filter. -/
  | fltClr (port : Fin 64) (sl : Fin 512)
  /-- CXLIO_REQUEST (R138): A CXL.io request on a HOST port is attributed to a slice, checked and forwarded. -/
  | cxlioRequest (p : Fin 64) (pasid : Option Nat) (req : IoReq)
  /-- PTM_REQUEST (R268): A host's PTM request on a HOST port is answered with fabric time. -/
  | ptmRequest (p : Fin 64)
  /-- POLICER_ADMIT (R166): A slice's head message at its policer is admitted to its queue or held on the peak bucket. -/
  | policerAdmit (sl : Fin 512)
  /-- POLICER_RETRY (R166): A held message is retried at its computed time. -/
  | policerRetry (sl : Fin 512)
  /-- CLASS_ENTRY_COMMIT (R171): A write of bytes 12 to 15 of a CLASS entry puts the entry into effect. -/
  | classEntryCommit (p : Fin 64) (cls : Fin 4)
  /-- PORT_SHAPER_WRITE (R173): A write to SCH.PSHP or SCH.PBURST reconfigures the port shaper bucket. -/
  | portShaperWrite (p : Fin 64) (burst : Bool) (value : Word)
  /-- GATE_LIST_ENABLE (R176): Setting SCH.GCTL.EN checks the operational bank and starts gating or sets GCL_REJ. -/
  | gateListEnable (p : Fin 64)
  /-- GATE_LIST_SWAP (R177): Writing SCH.GCTL.SWAP checks the other bank and schedules or refuses the swap. -/
  | gateListSwap (p : Fin 64)
  /-- BANK_SWAP (R177): At fabric time S, the new gate list bank becomes operational and SWAP clears. -/
  | bankSwap (p : Fin 64)
  /-- QUEUE_ENABLE (R188): QCTL.EN written 1 activates a Skidder queue or refuses it with REJ. -/
  | queueEnable (q : Fin 1040)
  /-- QUEUE_DISABLE (R188): QCTL.EN written 0 stops or disables a Skidder queue. -/
  | queueDisable (q : Fin 1040)
  /-- QUEUE_ABORT (R188): QCTL.ABORT written 1 stops an active queue with kind ABORT. -/
  | queueAbort (q : Fin 1040)
  /-- QUEUE_RESUME (R188): QCTL.RESUME written 1 returns a halted queue to ACTIVE. -/
  | queueResume (q : Fin 1040)
  /-- TAIL_WRITE (R184): The owner writes a queue's TAIL, which is stored and fetched from in ACTIVE. -/
  | tailWrite (q : Fin 1040) (value : Nat)
  /-- DESCRIPTOR_FETCH (R184): The Skidder reads up to 8 posted descriptors from a queue's ring. -/
  | descriptorFetch (q : Fin 1040)
  /-- FETCH_RETURN (R185): Fetched descriptors arrive and are checked for phase. -/
  | fetchReturn (q : Fin 1040) (result : RdResult) (descs ue : List Nat)
  /-- FRAGMENT_READ (R191): A descriptor's fragment table read completes. -/
  | fragmentRead (q : Fin 1040) (slot : Nat) (dst : Bool) (result : RdResult) (entries : List Nat) (ue : Bool)
  /-- DESCRIPTOR_START (R196): An armed descriptor starts once its trigger, chain or fence condition holds. -/
  | descriptorStart (q : Fin 1040)
  /-- TIMER_FIRE (R198): A Skidder timer fires at BASE + n × PERIOD and starts descriptors armed on it. -/
  | timerFire (t : Fin 16)
  /-- TIMER_CONFIG (R208): A write to DMV.TMRt_CFG configures, enables or disables a timer or is refused. -/
  | timerConfig (t : Fin 16) (value : Word)
  /-- QUEUE_TURN (R199): A ready queue takes its weighted round-robin turn and starts descriptors. -/
  | queueTurn
  /-- BURST_READ_DATA (R193): A burst's read data is in the buffer, and its write is issued. -/
  | burstReadData (id data : Nat) (poison : Bool)
  /-- BURST_COMPLETE (R193): A burst's write completes. -/
  | burstComplete (id : Nat) (ok : Bool)
  /-- BURST_TIMEOUT (R195): A burst exceeds its limit, ends with TIMEOUT, and its data is treated as poisoned. -/
  | burstTimeout (id : Nat)
  /-- SKIDDER_READ_BACK (R201): A descriptor's read-back or verify reads return, and its status is decided. `id`: the read that returns; `ok`,
  `poison`: whether it succeeded, and with poisoned data. -/
  | skidderReadBack (q : Fin 1040) (slot id : Nat) (ok poison : Bool) (data : Nat)
  /-- STOP_COMPLETE (R188): A stopping queue with no burst in flight enters DISABLED or HALTED. -/
  | stopComplete (q : Fin 1040)
  /-- ADM_STALL (R208): A system burst waiting for reserve cells longer than STALL_US sets ADM_STALL. -/
  | admStall
  /-- PFAIL_N_FALL (R211): A falling edge of PFAIL_N starts its filter. -/
  | pfailNFall
  /-- PFAIL_QUALIFIED (R211): PFAIL_N low for FILT counts as asserted, and the sequencer enters P0. -/
  | pfailQualified
  /-- FREEZE_COMPLETE (R214): Every block acknowledges the freeze, and P1 starts the drain. -/
  | freezeComplete
  /-- P0_TIMEOUT (R212): P0 reaches its 50-µs bound and moves to P1. -/
  | p0Timeout
  /-- PERSIST_DRAIN_COMPLETE (R216): The drain completes, the write window closes and P2 starts GPF. -/
  | persistDrainComplete
  /-- P1_TIMEOUT (R217): P1 reaches 500 µs, and unrecalled owned lines are poisoned and counted. -/
  | p1Timeout
  /-- GPF_PORT_START (R218): A capable port's write queue empties, and GPF Phase 1 is sent. -/
  | gpfPortStart (p : Fin 64)
  /-- GPF_PHASE1_RESPONSE (R218): A port's Phase 1 response arrives, and Phase 2 is sent. -/
  | gpfPhase1Response (p : Fin 64) (ok : Bool)
  /-- GPF_PHASE2_RESPONSE (R218): A port's Phase 2 response arrives, and the witness read is made. -/
  | gpfPhase2Response (p : Fin 64) (ok : Bool)
  /-- WITNESS_READ_COMPLETE (R219): The witness read returns and is compared, giving the port OK or MISS. -/
  | witnessReadComplete (p : Fin 64) (data : Nat) (ok : Bool)
  /-- GPF_WAIT_EXPIRE (R218): GPF_WAIT expires, and ports without a result are MISS. -/
  | gpfWaitExpire
  /-- HOME_WRITE_COMPLETE (R220): The Catalogue image write to a home completes, and its flush is sent. -/
  | homeWriteComplete (b : Bool) (ok : Bool)
  /-- HOME_FLUSH_RESPONSE (R220): A home's GPF Phase 2 response arrives, and the next home starts or P4 begins. -/
  | homeFlushResponse (b : Bool) (ok : Bool)
  /-- HOME_TIMEOUT (R220): A home's 500 µs run out, and the home fails. -/
  | homeTimeout (b : Bool)
  /-- P3_TIMEOUT (R212): P3 reaches 1,000 µs and moves to P4. -/
  | p3Timeout
  /-- P4_READBACK_COMPLETE (R221): The homes are read back and checked, PERSIST_DONE asserts and the device enters SAVED or SAFE. -/
  | p4ReadbackComplete (aOk : Bool) (bOk : Bool)
  /-- P4_TIMEOUT (R212): P4 reaches 500 µs and ends as a completed read-back would. -/
  | p4Timeout
  /-- PARITY_SCAN_VISIT (R300): The background scan checks the parity of a status, mask or first-source register. -/
  | parityScanVisit (off : Nat) (bad : Bool)
  /-- PERST_N_ASSERT (R376): PERST_N asserted for 1 µs resets the device, and slots enter DOWN. -/
  | perstNAssert
  /-- PERST_N_RELEASE (R233): PERST_N rises, straps are sampled and the restore starts in RESTORE. -/
  | perstNRelease (devId : Fin 8) (role : Bool)
  /-- CURATOR_BOOT_COMPLETE (R346): The Curator authenticates its firmware, or the other bank, and runs. -/
  | curatorBootComplete (bank0Ok : Bool) (bank1Ok : Bool) (meas : List Nat)
  /-- JOURNAL_READ_COMPLETE (R233): The journal is read to its end, and slots and ports are configured from it. -/
  | journalReadComplete (read : JrnRead)
  /-- HOME_READ_COMPLETE (R235): The homes are read and checked, and the restore image is chosen. -/
  | homeReadComplete (a : HomeRead) (b : HomeRead)
  /-- PAIR_AGREEMENT (R239): The paired devices exchange CFG_SEQ, and the lower one adopts the partner's image. -/
  | pairAgreement (seq : Nat) (img : Image)
  /-- CONSISTENCY_PASS (R403): The Curator finishes pending slice commands, recounts MAPCNT and queues scrubs. `bound`: the pair
  stage's bound has passed. -/
  | consistencyPass (bound : Bool)
  /-- RESUME_READY (R233): The restore completes, MODE becomes SERVICE and STS.RESUME sets. -/
  | resumeReady
  /-- RESTORE_STAGE_TIMEOUT (R233): A restore stage reaches its bound and proceeds without the late parts. -/
  | restoreStageTimeout
  /-- JOURNAL_APPEND (R229): The Curator appends a sealed record of a committed change to the active NOR bank. -/
  | journalAppend
  /-- NOR_OPERATION_COMPLETE (R232): A NOR program or erase ends, successfully or with JRN_ERR. -/
  | norOperationComplete (ok : Bool)
  /-- JRN_LAG (R232): A committed change older than 2 s not yet in NOR sets LAG and JRN_LAG. -/
  | jrnLag
  /-- CAPABILITY_EXCHANGE (R244): A Xepin partner's capability record is received twice, checked and used to resume or restart the link. -/
  | capabilityExchange (p : Fin 64) (rec : CapRec)
  /-- FRAME_HALF_RECEIVE (R247): A Xepin frame half arrives and is verified, corrected, stomped or bad, and acks and credits are taken. -/
  | frameHalfReceive (p : Fin 64) (h : RxHalf)
  /-- REPLAY_TIMEOUT (R255): The replay timer reaches REPLAY_TMO, and the sender replays from the oldest unacknowledged frame. -/
  | replayTimeout (p : Fin 64)
  /-- XEPIN_REQ (R262): A REQ message arrives and is served locally, forwarded or refused UNMAPPED. -/
  | xepinReq (p : Fin 64) (m : XMsg)
  /-- XEPIN_RSP (R251): A RSP message arrives, its tag is restored and it retraces the request's path. -/
  | xepinRsp (p : Fin 64) (m : XMsg)
  /-- MAPREF (R263): A MAPREF reaches the owner, which applies its delta in MSEQ order and answers. -/
  | mapref (p : Fin 64) (m : XMsg) (delta : Int) (mseq : Nat)
  /-- MAPREF_TIMEOUT (R263): No CMP within 1 ms completes the mapping command with STATE_CONFLICT. -/
  | maprefTimeout
  /-- BUCKET_REBALANCE (R261): An idle bucket moves to its target member while REBAL is 1. -/
  | bucketRebalance (g : Fin 8) (b : Fin 64)
  /-- HB (R286): A partner heartbeat is accepted, recording its count, state and role. -/
  | hb (m : HbMsg)
  /-- SYNC (R267): A fabric time SYNC from the parent gives an offset that steps or servoes fabric time. -/
  | sync (p : Fin 64) (depth : Fin 16) (ta : Nat) (trx : Nat)
  /-- DREQ (R266): A delay request is answered with a DRSP carrying t4 and t5. -/
  | dreq (p : Fin 64) (id : Nat) (t4 : Nat)
  /-- DRSP (R267): A delay response gives the child the link delay d. -/
  | drsp (p : Fin 64) (id : Nat) (t4 : Nat) (t5 : Nat) (t6 : Nat)
  /-- SYNC_PERIOD (R266): Each SYNC_US, a device sends SYNC, a child sends DREQ or runs PTM, and missing SYNCs are counted. -/
  | syncPeriod
  /-- TSYNC_IN_EDGE (R268): A rising edge of TSYNC_IN is timestamped and servoes or steps fabric time. -/
  | tsyncInEdge
  /-- TSYNC_MISS (R268): No TSYNC_IN edge within 1.1 s sets TSYNC_MISS. -/
  | tsyncMiss
  /-- FABRIC_TIME_SET (R272): Writing FTSETH steps fabric time at once or at the next TSYNC_IN edge. -/
  | fabricTimeSet (value : Word)
  /-- MACK (R282): A mirror acknowledgement moves the commit engine on OK, FAIL or BUSY. -/
  | mack (mid : Nat) (result : Fin 4) (code : Nat)
  /-- PREP (R282): A partner PREP is checked and held, or refused, with a MACK. -/
  | prep (m : PrepMsg)
  /-- GO (R282): A partner GO applies the held items, advances CFG_SEQ and is acknowledged. -/
  | go (mid : Nat) (cfgSeq : Nat)
  /-- CPL (R285): A CPL message stores a queue's latest completion and head write-back on the SECONDARY. -/
  | cpl (mid : Nat) (c : SCpl) (okSeq : Nat)
  /-- RING (R280): A RING message mirrors a principal's ring attachment and pointers. -/
  | ring (prin : Fin 8) (r : RingE)
  /-- NOTICE (R222): A partner notice with PAIR_SAVE = 1 starts this device's persistence sequence. -/
  | notice (cause : Fin 8)
  /-- SYNC_DATA (R296): A joiner receives a piece of the source's Catalogue image. -/
  | syncData (off : Nat) (len : Nat)
  /-- SYNC_END (R296): The joiner replaces its state with the received image, and the source starts handback. -/
  | syncEnd (img : Image)
  /-- FWD (R275): A forwarded doorbell-page write from the SECONDARY takes effect on the PRIMARY. -/
  | fwd (sl : Fin 512) (off : Nat) (value : Nat)
  /-- LOCAL_CHANGE_READY (R282): The commit engine in IDLE takes a local change, checks it and sends PREP. -/
  | localChangeReady
  /-- HB_PERIOD (R286): Every 10 µs, a device sends an HB, writes its fence half and counts a miss. -/
  | hbPeriod (fenceOk : Bool)
  /-- FENCE_READ_COMPLETE (R289): A fence read returns and decides TAKE, YIELD or WAIT. -/
  | fenceReadComplete (peer : FenceHalf)
  /-- FENCE_READ_TIMEOUT (R289): A fence read attempt times out after 50 µs. -/
  | fenceReadTimeout
  /-- FENCE_POLL (R289): A PRIMARY in WAIT reads the fence again every 10 µs. -/
  | fencePoll
  /-- DECIDE_LIMIT (R289): A PRIMARY in WAIT takes over 270 µs after entering DECIDE. -/
  | decideLimit
  /-- TAKEOVER_RESUME_COMPLETE (R292): Held requests are readmitted and TAKEOVER is set. -/
  | takeoverResumeComplete
  /-- HANDBACK_COMPLETE (R296): The handback recalls end, and the pair reaches PAIRED. -/
  | handbackComplete
  /-- FAULT_BIT_CLEAR (R298): Writing 1 to a fault status bit clears it, and it sets again if its cause holds. -/
  | faultBitClear (off : Nat) (mask : Word) (still : Word)
  /-- INJECT_ARM (R301): Setting INJc_CTL.ARM arms an injection channel or refuses it with INJ_REJ. -/
  | injectArm (ch : Fin 4)
  /-- INJECT_STOP (R301): Writing INJc_CTL.STOP disarms the channel. -/
  | injectStop (ch : Fin 4)
  /-- SLOT_ON (R313): Command 0x20 sets a slot's EN and starts qualification. -/
  | slotOn (c : PyrCmd)
  /-- SLOT_OFF (R314): Command 0x21 clears a slot's EN and powers it down. -/
  | slotOff (c : PyrCmd)
  /-- INSERTION_DELAY_EXPIRE (R310): Windows met for INS_DLY start the ramp. -/
  | insertionDelayExpire (n : Fin 32)
  /-- VOUT_REACHED (R310): VIN − VOUT falls below the PG threshold, and the slot enters SETTLE. -/
  | voutReached (n : Fin 32) (lv : SlotLevels)
  /-- PG_DELAY_EXPIRE (R311): PG_DLY passes, and PG asserts unless the fault timer withholds it. -/
  | pgDelayExpire (n : Fin 32)
  /-- FAULT_TIMER_IDLE (R309): 16 samples below ILIM return the fault timer to idle, and withheld PG asserts. -/
  | faultTimerIdle (n : Fin 32)
  /-- FAST_TRIP (R310): The fast-trip comparator trips, and the slot retries or latches. -/
  | fastTrip (n : Fin 32)
  /-- FAULT_TIME_EXPIRE (R310): The fault timer reaches FAULT_TIME, and the slot trips. -/
  | faultTimeExpire (n : Fin 32)
  /-- RAMP_TMO (R310): RAMP_TMO passes in RAMP, and the slot trips with RAMP_FAIL. -/
  | rampTmo (n : Fin 32)
  /-- SUPPLY_WINDOW_LOST (R310): VIN outside its window for 10 µs returns the slot to QUAL. -/
  | supplyWindowLost (n : Fin 32) (ovr : Bool)
  /-- VOUT_LOST (R310): VOUT below the PG threshold for 10 µs with PG asserted returns the slot to QUAL. -/
  | voutLost (n : Fin 32)
  /-- NOLOAD (R310): Current below 100 mA for 10 ms in ON sets NOLOAD and powers down if AUTO_OFF is 1. -/
  | noload (n : Fin 32) (lv : SlotLevels)
  /-- ON_ONE_SECOND (R310): One second in ON without a break sets TRIES to 0. -/
  | onOneSecond (n : Fin 32)
  /-- RETRY_DLY_EXPIRE (R310): RETRY_DLY passes, and the slot ramps again or requalifies. -/
  | retryDlyExpire (n : Fin 32)
  /-- DOWN_LEAD_EXPIRE (R310): The 100-µs lead passes, and the slot discharges GATE and enters OFF. -/
  | downLeadExpire (n : Fin 32)
  /-- COMMAND_DOORBELL (R325): A principal writes SEC.DBp.TAIL to post commands. -/
  | commandDoorbell (p : Fin 8) (tail : Nat)
  /-- COMMAND_FETCH (R325): The Curator fetches a principal's next command in round robin. -/
  | commandFetch
  /-- ATTACH (R324): RCTLp.EN going from 0 to 1 checks and attaches the principal and writes ARESp. -/
  | attach (p : Fin 8)
  /-- DETACH (R327): RCTLp.EN going from 1 to 0 detaches the principal and discards uncommitted commands. -/
  | detach (p : Fin 8)
  /-- EVCI_WRITE (R342): A principal advances its event consumer index, and pending levels are delivered. -/
  | evciWrite (p : Fin 8) (evci : Nat)
  /-- EVENT_DELIVER (R342): A subscribed source's change of activity is written to the principal's event ring. -/
  | eventDeliver (p : Fin 8)
  /-- NOP (R333): Command 0x00 does nothing and returns the stored counter. -/
  | nop (c : PyrCmd)
  /-- FEAT_SET (R338): Command 0x01 confirms the accepted feature word. -/
  | featSet (c : PyrCmd)
  /-- EVENT_CONFIG (R341): Command 0x02 sets a principal's event ring and subscription. -/
  | eventConfig (c : PyrCmd)
  /-- LC_CHALLENGE (R333): Command 0x03 returns a fresh lifecycle nonce. -/
  | lcChallenge (c : PyrCmd)
  /-- PERSIST_ARM (R209): Command 0x22 arms or disarms persistence and names the homes. -/
  | persistArm (c : PyrCmd)
  /-- PAIR_CONFIG (R287): Command 0x28 sets pairing and the fence line. -/
  | pairConfig (c : PyrCmd)
  /-- ROLE_CHANGE (R274): Command 0x29 swaps the pair's roles on both devices. -/
  | roleChange (c : PyrCmd)
  /-- KEY_INSTALL (R337): Command 0x30 installs a principal's command key and rights. `session`: the key it carries unwrapped where it is sent
  as a secured message of a session (R337), none from a ring. -/
  | keyInstall (c : PyrCmd) (session : Option Nat)
  /-- MEM_IDE (R56): Command 0x31 programs or refreshes IDE keys on a MEM port. -/
  | memIde (c : PyrCmd) (ok : Bool)
  /-- LC_AUTH (R333): Command 0x32 checks a signature and unlocks debug or makes a lifecycle transition. -/
  | lcAuth (c : PyrCmd) (sigOk : Bool) (erased : Bool)
  /-- FW_STAGE (R347): Command 0x38 reads, checks and programs a firmware image into the inactive bank. -/
  | fwStage (c : PyrCmd) (image : Option Nat)
  /-- FW_PROGRAM_COMPLETE (R347): Programming of a staged image ends, and FW_STAGE completes. -/
  | fwProgramComplete (ok : Bool)
  /-- FW_ACTIVATE (R347): Command 0x39 makes the staged bank active and schedules the Curator restart. -/
  | fwActivate (c : PyrCmd)
  /-- CURATOR_RESTART (R348): The Curator restarts after activation or watchdog. -/
  | curatorRestart
  /-- WATCHDOG_TIMEOUT (R348): 100 ms without Curator service triggers a watchdog restart. -/
  | watchdogTimeout
  /-- CURATOR_RESTART_COMPLETE (R332): The restarted Curator completes recorded commands and fetches from HEAD. -/
  | curatorRestartComplete
  /-- FM_API_REQUEST (R343): An FM API request on a mailbox or MCTP is served or answered Unsupported. -/
  | fmApiRequest (via : FmVia) (op : FmOp)
  /-- SIDEBAND_ACCESS (R344): An I3C or I²C sideband transaction carries MCTP, SPDM or a read-only register access. -/
  | sidebandAccess (a : SbAcc)
  /-- COUNTER_SELECT (R351): A CTRSEL write zeroes the counter and selects a new event or is refused. -/
  | counterSelect (i : Fin 10272) (lo : Word) (hi : Word)
  /-- SNAPSHOT_ENABLE (R357): Setting TLY.CTL.SNAP_EN sets PI to 0 and starts periodic snapshots. -/
  | snapshotEnable
  /-- SNAPSHOT_BOUNDARY (R355): Fabric time crosses a period multiple, and selected counters latch together. -/
  | snapshotBoundary
  /-- SNAPSHOT_RECORD_WRITE (R357): Latched values are written to the snapshot ring, header last. -/
  | snapshotRecordWrite (ok : Bool)
  /-- SAMPLER_VISIT (R359): The queue sampler writes a queue's depth and head delay and runs the STARVE check. -/
  | samplerVisit
  /-- LANDING_RECORD_WRITE (R362): A captured record leaves the FIFO into the Landing ring or is dropped. -/
  | landingRecordWrite (ch : Fin 4) (ok : Bool)
  /-- LANDING_ENABLE (R363): Setting LCTLc.EN starts capture with PI, PHASE and MATCHED reset. -/
  | landingEnable (ch : Fin 4)
  /-- LANDING_DISABLE (R363): Clearing LCTLc.EN stops capture while the FIFO drains with BUSY set. -/
  | landingDisable (ch : Fin 4)
  /-- THERMAL_SAMPLE (R384): Every 100 µs, the sensors are sampled, and throttling and the critical event act on the highest reading. -/
  | thermalSample (temps : List Int)
  /-- RAIL_FAULT (R398): A rail outside its operating range for 1 µs sets its RAIL bit. -/
  | railFault (r : Fin 7) (mv : Nat)
  /-- CORE_RAIL_LOW (R372): A core rail below 90 % holds non-AON logic in reset as PERST_N does. -/
  | coreRailLow (r : Fin 4) (mv : Nat)
  /-- AON_POWER_LOSS (R372): VDD_AON below its falling threshold returns every AON register to reset. -/
  | aonPowerLoss
  /-- DSTATE_MODE_WRITE (R396): A write of TOP.DSTATE.MODE moves between SERVICE and TEST or sets REJ. -/
  | dstateModeWrite (mode : Fin 4)
  /-- DEBUG_ACCESS (R158): A debug master access is attributed, checked against locks and served or refused. -/
  | debugAccess (a : DbgAcc)
  /-- HALT_REQ (R399): Setting DBGCTL.HALT_REQ halts the Curator when debug is enabled. -/
  | haltReq
  /-- TAP_RESET_EXIT (R399): The JTAG TAP leaves reset and sets DBG_ATTACH. -/
  | tapResetExit
  /-- BOUNDARY_SCAN_LOAD (R399): A boundary-scan instruction is loaded, and BSCAN is set. -/
  | boundaryScanLoad
  /-- REGISTER_WRITE (R390): A write to a register with no row of its own changes its enabled bytes by access code. -/
  | registerWrite (off : Nat) (value : Word) (be : Nat)
  /-- PFAIL_N_RELEASE (R233): PFAIL_N returns high, which breaks its filter and, when PERST_N has already risen, sets t = 0 and starts the restore. -/
  | pfailNRelease
  /-- VDD_AON_POWER_ON (R372): VDD_AON rises above its power-on threshold, AON registers take their reset values, and the Curator and persistence logic start on REFCLK. -/
  | vddAonPowerOn
  /-- CORE_RAIL_RESTORED (R372): The last core rail below 90 % of nominal returns, and the reset hold on everything outside AON is released. -/
  | coreRailRestored (r : Fin 4) (mv : Nat)
  /-- SYMBOL_LOCK_CHANGE (R52): A lane loses or regains symbol lock, which starts its lock timer or returns it to zero. -/
  | symbolLockChange (pu : Fin 64) (lane : Fin 4) (lock : Bool)
  /-- PRBS_CHECKER_LOCK (R59): A lane's PRBS checker locks to the received pattern, sets its LOCKED bit and starts counting bit errors. -/
  | prbsCheckerLock (p : Fin 64) (lane : LaneLock)
  /-- FAULT_TIMER_START (R309): The ILIM comparator reads above ILIM while the fault timer is idle, which starts the timer and can withhold PG. -/
  | faultTimerStart (n : Fin 32)
  /-- SUPPLY_WINDOW_CHANGE (R310): VIN enters or leaves the UV/OV window while the slot is in QUAL or RETRY_WAIT, which starts or restarts the insertion timer. -/
  | supplyWindowChange (n : Fin 32) (met : Bool) (lv : SlotLevels)
  /-- PTM_RESPONSE (R268): The host's PTM response to the device's PTM request arrives, and R267 is applied to the offset against the host's PTM Master Time. -/
  | ptmResponse (master : Nat)
  /-- TSYNC_OUT_RISE (R268): While PPS_OUT is 1, fabric time crosses a multiple of 10^9 ns and TSYNC_OUT rises. -/
  | tsyncOutRise
  /-- TSYNC_OUT_FALL (R268): TSYNC_OUT falls 1 µs after it rose. -/
  | tsyncOutFall
  /-- MEMORY_DEVICE_READY (R233): A memory device behind a MEM port reports itself ready after LINK_UP during the restore, so its homes and extents can be read. -/
  | memoryDeviceReady (p : Fin 64) (gpf : Bool)
  deriving DecidableEq, Repr

end Sys2Proof
end

