-- ==== Sys2Proof/Decode.lean ====
section
/-! DEFINITION. The commands words spell. spec/opcode_table.json gives bits to none of its rows: every command arrives as an event, a
packet or a message whose form its rule describes, so no word spells one. -/
namespace Sys2Proof

/-- The command a word spells by the table's bits: none, since no row of the table has bits. -/
def decodeTableWord (_nbits _w : Nat) : Option Instr := none

end Sys2Proof
end

