-- ==== Sys2Proof/Config.lean ====
section
/-! DEFINITION. What an implementation fixes and the values the spec leaves open. The open value is a constant without a body, applied
to a counter of the state, so that nothing can prove a value of it. -/
namespace Sys2Proof

/-- The output of the device's random generator (R244 INSTANCE, R333 nonces): the n-th draw. -/
opaque Config.rng : Nat → Nat

/-- The bytes of a message on a CXL link, of which the spec gives no layout (R361): a function of its kind and of what it carries. -/
opaque Config.cxlBytes : Nat → List Nat → Nat

/-- The Catalogue key in the SEC key store (R228): 256 bits. -/
opaque Config.catKey : Nat

end Sys2Proof
end

