-- ==== Sys2Proof/Machine/RegMap.lean ====
section
/-! DEFINITION. The BAR0 register map (R388, R390): every register block with its base, stride and count, every register and
every field with its place, width, access code, reset value and reset domain, as the register tables of the chapters print them; and
a name for every field. Reset values the spec does not print are 0 (log entry 2). -/
namespace Sys2Proof.Machine

/-- Access codes of R390: read-write, read-only, write-1-to-clear, write-1-to-set, write-only. -/
inductive Acc where | rw | ro | rw1c | rw1s | wo
  deriving DecidableEq, Repr

/-- Reset domains of R393, R394: core (PERST_N), always-on, configuration (written into the Catalogue). -/
inductive Dom where | core | aon | cat
  deriving DecidableEq, Repr

/-- A field of a register table. -/
structure FldD where
  lsb : Nat
  w : Nat
  acc : Acc
  rst : Nat
  dom : Dom
  deriving DecidableEq, Repr

/-- A register of a block: its offset and its fields. -/
structure RegD where
  off : Nat
  flds : List FldD
  deriving DecidableEq, Repr

/-- A register block: `count` copies, `stride` apart, from `base`. -/
structure Blk where
  base : Nat
  stride : Nat
  count : Nat
  regs : List RegD
  deriving DecidableEq, Repr

/-- A named field: `key` is 32 times its register's BAR0 offset plus its lowest bit. -/
structure Fld where
  key : Nat
  w : Nat
  rst : Nat
  deriving DecidableEq, Repr

/-- The field at bit `lsb` of the register at `off`. -/
def Fld.mk3 (off lsb w rst : Nat) : Fld := ⟨off * 32 + lsb, w, rst⟩

/-! TOP: spec/15 R395-R397, 09 R272 -/
/-- Registers of TOP, part 1 (spec/15 R395-R397, 09 R272). -/
def blkTOP_0 : List RegD :=
  [⟨0, [⟨0, 16, .ro, 0x9512, .core⟩,
    ⟨16, 4, .ro, 0, .core⟩,
    ⟨20, 4, .ro, 0, .core⟩,
    ⟨24, 8, .ro, 0x43, .core⟩]⟩,
   ⟨4, [⟨0, 3, .ro, 0, .core⟩,
    ⟨3, 1, .ro, 0, .core⟩]⟩,
   ⟨8, [⟨0, 2, .rw, 0, .core⟩,
    ⟨2, 1, .rw1c, 0, .core⟩]⟩,
   ⟨0xc, [⟨0, 16, .ro, 0, .core⟩]⟩,
   ⟨0x10, [⟨0, 32, .ro, 0xff, .core⟩]⟩,
   ⟨0x14, [⟨0, 32, .ro, 0, .core⟩]⟩,
   ⟨0x18, [⟨0, 32, .ro, 0, .core⟩]⟩,
   ⟨0x1c, [⟨0, 32, .ro, 0, .core⟩]⟩,
   ⟨0x20, [⟨0, 32, .ro, 0x400100, .core⟩]⟩,
   ⟨0x24, [⟨0, 32, .ro, 0x1000200, .core⟩]⟩,
   ⟨0x28, [⟨0, 32, .ro, 0x4104000, .core⟩]⟩,
   ⟨0x2c, [⟨0, 32, .ro, 0x80020, .core⟩]⟩]
/-- Registers of TOP, part 2 (spec/15 R395-R397, 09 R272). -/
def blkTOP_1 : List RegD :=
  [⟨0x200, [⟨0, 1, .rw1c, 0, .aon⟩,
    ⟨1, 1, .rw1c, 0, .aon⟩,
    ⟨2, 1, .rw1c, 0, .aon⟩,
    ⟨3, 1, .rw1c, 0, .aon⟩,
    ⟨4, 1, .rw1c, 0, .aon⟩,
    ⟨5, 1, .rw1c, 0, .aon⟩,
    ⟨6, 1, .rw1c, 0, .aon⟩,
    ⟨7, 1, .rw1c, 0, .aon⟩,
    ⟨8, 1, .rw1c, 0, .aon⟩,
    ⟨9, 1, .rw1c, 0, .aon⟩,
    ⟨10, 1, .rw1c, 0, .aon⟩,
    ⟨11, 1, .rw1c, 0, .aon⟩,
    ⟨12, 1, .rw1c, 0, .aon⟩,
    ⟨13, 1, .rw1c, 0, .aon⟩,
    ⟨14, 1, .rw1c, 0, .aon⟩,
    ⟨15, 1, .rw1c, 0, .aon⟩,
    ⟨16, 1, .rw1c, 0, .aon⟩,
    ⟨17, 5, .ro, 0, .aon⟩]⟩,
   ⟨0x204, [⟨0, 16, .rw, 0, .core⟩]⟩,
   ⟨0x208, [⟨0, 1, .ro, 1, .aon⟩,
    ⟨1, 1, .ro, 1, .aon⟩,
    ⟨2, 1, .ro, 0, .aon⟩,
    ⟨3, 1, .ro, 0, .aon⟩,
    ⟨8, 8, .ro, 1, .aon⟩]⟩,
   ⟨0x20c, [⟨0, 1, .ro, 0, .core⟩,
    ⟨1, 1, .ro, 0, .core⟩,
    ⟨2, 1, .ro, 0, .core⟩]⟩,
   ⟨0x210, [⟨0, 7, .ro, 0, .core⟩]⟩,
   ⟨0x214, [⟨0, 7, .rw, 0x64, .cat⟩]⟩,
   ⟨0x218, [⟨0, 8, .ro, 0, .core⟩,
    ⟨8, 5, .ro, 0, .core⟩,
    ⟨13, 1, .ro, 0, .core⟩,
    ⟨16, 16, .ro, 0, .core⟩]⟩,
   ⟨0x300, [⟨0, 2, .rw, 0, .cat⟩,
    ⟨2, 3, .rw, 0, .cat⟩,
    ⟨5, 6, .rw, 0, .cat⟩,
    ⟨11, 1, .rw, 1, .cat⟩,
    ⟨12, 1, .rw, 0, .cat⟩,
    ⟨13, 10, .rw, 0x64, .cat⟩]⟩,
   ⟨0x304, [⟨0, 1, .ro, 0, .core⟩,
    ⟨1, 1, .rw1c, 0, .core⟩,
    ⟨2, 1, .rw1c, 0, .core⟩,
    ⟨3, 1, .rw1c, 0, .core⟩,
    ⟨4, 1, .rw1c, 0, .core⟩,
    ⟨5, 1, .rw1c, 0, .core⟩,
    ⟨6, 2, .ro, 0, .core⟩,
    ⟨8, 4, .ro, 0xf, .core⟩,
    ⟨16, 16, .ro, 0, .core⟩]⟩,
   ⟨0x308, [⟨0, 4, .rw, 0, .core⟩]⟩,
   ⟨0x30c, [⟨0, 32, .ro, 0, .core⟩]⟩,
   ⟨0x310, [⟨0, 32, .ro, 0, .core⟩]⟩]
/-- Registers of TOP, part 3 (spec/15 R395-R397, 09 R272). -/
def blkTOP_2 : List RegD :=
  [⟨0x314, [⟨0, 32, .ro, 0, .core⟩]⟩,
   ⟨0x318, [⟨0, 32, .rw, 0, .core⟩]⟩,
   ⟨0x31c, [⟨0, 32, .rw, 0, .core⟩]⟩,
   ⟨0x320, [⟨0, 32, .rw, 0, .core⟩]⟩,
   ⟨0x324, [⟨0, 16, .rw, 0, .cat⟩]⟩]
/-- Block TOP (spec/15 R395-R397, 09 R272). -/
def blkTOP : Blk := ⟨0, 0, 1, blkTOP_0 ++ blkTOP_1 ++ blkTOP_2⟩

/-! FWKHASH: spec/15 R395 -/
/-- Registers of FWKHASH, part 1 (spec/15 R395). -/
def blkFWKHASH_0 : List RegD :=
  [⟨0, [⟨0, 32, .ro, 0, .core⟩]⟩]
/-- Block FWKHASH (spec/15 R395). -/
def blkFWKHASH : Blk := ⟨0x30, 4, 12, blkFWKHASH_0⟩

/-! LCKHASH: spec/15 R395 -/
/-- Registers of LCKHASH, part 1 (spec/15 R395). -/
def blkLCKHASH_0 : List RegD :=
  [⟨0, [⟨0, 32, .ro, 0, .core⟩]⟩]
/-- Block LCKHASH (spec/15 R395). -/
def blkLCKHASH : Blk := ⟨0x60, 4, 12, blkLCKHASH_0⟩

/-! MEAS: spec/15 R395 -/
/-- Registers of MEAS, part 1 (spec/15 R395). -/
def blkMEAS_0 : List RegD :=
  [⟨0, [⟨0, 32, .ro, 0, .core⟩]⟩]
/-- Block MEAS (spec/15 R395). -/
def blkMEAS : Blk := ⟨0x90, 4, 12, blkMEAS_0⟩

/-! DEVIDENT: spec/15 R395 -/
/-- Registers of DEVIDENT, part 1 (spec/15 R395). -/
def blkDEVIDENT_0 : List RegD :=
  [⟨0, [⟨0, 32, .ro, 0, .core⟩]⟩]
/-- Block DEVIDENT (spec/15 R395). -/
def blkDEVIDENT : Blk := ⟨0xc0, 4, 16, blkDEVIDENT_0⟩

/-! SCRATCH: spec/15 R395 -/
/-- Registers of SCRATCH, part 1 (spec/15 R395). -/
def blkSCRATCH_0 : List RegD :=
  [⟨0, [⟨0, 32, .rw, 0, .cat⟩]⟩]
/-- Block SCRATCH (spec/15 R395). -/
def blkSCRATCH : Blk := ⟨0x100, 4, 32, blkSCRATCH_0⟩

/-! FREQERR: spec/15 R397 -/
/-- Registers of FREQERR, part 1 (spec/15 R397). -/
def blkFREQERR_0 : List RegD :=
  [⟨0, [⟨0, 16, .ro, 0, .core⟩]⟩]
/-- Block FREQERR (spec/15 R397). -/
def blkFREQERR : Blk := ⟨0x21c, 4, 4, blkFREQERR_0⟩

/-! RAILV: spec/15 R397 -/
/-- Registers of RAILV, part 1 (spec/15 R397). -/
def blkRAILV_0 : List RegD :=
  [⟨0, [⟨0, 12, .ro, 0, .core⟩]⟩]
/-- Block RAILV (spec/15 R397). -/
def blkRAILV : Blk := ⟨0x22c, 4, 7, blkRAILV_0⟩

/-! TEMP: spec/15 R397 -/
/-- Registers of TEMP, part 1 (spec/15 R397). -/
def blkTEMP_0 : List RegD :=
  [⟨0, [⟨0, 8, .ro, 0, .core⟩]⟩]
/-- Block TEMP (spec/15 R397). -/
def blkTEMP : Blk := ⟨0x248, 4, 20, blkTEMP_0⟩

/-! SEC: spec/12 R349, 15 R399 -/
/-- Registers of SEC, part 1 (spec/12 R349, 15 R399). -/
def blkSEC_0 : List RegD :=
  [⟨0, [⟨0, 1, .rw1c, 0, .core⟩,
    ⟨1, 1, .rw1c, 0, .core⟩,
    ⟨2, 1, .rw1c, 0, .core⟩,
    ⟨3, 1, .rw1c, 0, .core⟩,
    ⟨4, 1, .rw1c, 0, .core⟩,
    ⟨5, 1, .rw1c, 0, .core⟩,
    ⟨6, 1, .rw1c, 0, .core⟩,
    ⟨7, 1, .rw1c, 0, .core⟩,
    ⟨8, 1, .rw1c, 0, .core⟩,
    ⟨9, 1, .rw1c, 0, .core⟩,
    ⟨10, 1, .rw1c, 0, .core⟩,
    ⟨11, 1, .rw1c, 0, .core⟩,
    ⟨12, 1, .rw1c, 0, .core⟩,
    ⟨13, 4, .ro, 0, .core⟩,
    ⟨17, 3, .ro, 0, .core⟩,
    ⟨20, 8, .ro, 0, .core⟩]⟩,
   ⟨4, [⟨0, 12, .rw, 0, .core⟩,
    ⟨16, 8, .rw, 0, .core⟩]⟩,
   ⟨8, [⟨0, 1, .rw1c, 0, .core⟩,
    ⟨1, 1, .rw1c, 0, .core⟩,
    ⟨2, 1, .rw1c, 0, .core⟩,
    ⟨3, 1, .rw1c, 0, .core⟩,
    ⟨4, 1, .rw1c, 0, .core⟩,
    ⟨5, 1, .rw1c, 0, .core⟩,
    ⟨6, 1, .rw1c, 0, .core⟩,
    ⟨7, 1, .rw1c, 0, .core⟩,
    ⟨8, 1, .rw1c, 0, .core⟩,
    ⟨9, 3, .ro, 0, .core⟩,
    ⟨12, 8, .ro, 0, .core⟩,
    ⟨20, 1, .ro, 0, .core⟩]⟩,
   ⟨0xc, [⟨0, 8, .rw, 0x10, .cat⟩,
    ⟨8, 8, .rw, 0x10, .cat⟩]⟩,
   ⟨0x10, [⟨0, 16, .ro, 0, .core⟩,
    ⟨16, 16, .ro, 0, .core⟩]⟩,
   ⟨0x14, [⟨0, 32, .ro, 0, .core⟩]⟩,
   ⟨0x18, [⟨0, 16, .rw, 0, .core⟩,
    ⟨16, 16, .rw, 0, .core⟩]⟩,
   ⟨0x1c, [⟨0, 32, .ro, 0, .core⟩]⟩,
   ⟨0x800, [⟨0, 2, .ro, 2, .aon⟩,
    ⟨2, 1, .ro, 0, .core⟩,
    ⟨3, 1, .ro, 0, .aon⟩]⟩,
   ⟨0x804, [⟨0, 1, .rw1c, 0, .core⟩,
    ⟨1, 1, .rw1c, 0, .core⟩,
    ⟨2, 1, .rw1c, 0, .core⟩,
    ⟨3, 1, .rw1c, 0, .core⟩,
    ⟨4, 1, .rw1c, 0, .core⟩,
    ⟨5, 1, .ro, 0, .core⟩]⟩,
   ⟨0x808, [⟨0, 4, .rw, 0, .core⟩]⟩,
   ⟨0x80c, [⟨0, 1, .rw1c, 0, .core⟩,
    ⟨1, 1, .rw1c, 0, .core⟩,
    ⟨2, 1, .rw1c, 0, .core⟩,
    ⟨3, 1, .rw1c, 0, .core⟩,
    ⟨4, 2, .ro, 0, .core⟩]⟩]
/-- Registers of SEC, part 2 (spec/12 R349, 15 R399). -/
def blkSEC_1 : List RegD :=
  [⟨0x810, [⟨0, 3, .rw, 0, .core⟩]⟩,
   ⟨0x814, [⟨0, 9, .rw, 0, .core⟩]⟩,
   ⟨0x818, [⟨0, 32, .ro, 0, .core⟩]⟩,
   ⟨0x81c, [⟨0, 32, .ro, 0, .core⟩]⟩,
   ⟨0x820, [⟨0, 32, .ro, 0, .core⟩]⟩,
   ⟨0x824, [⟨0, 32, .ro, 0, .core⟩]⟩,
   ⟨0x828, [⟨0, 32, .ro, 0, .core⟩]⟩,
   ⟨0x82c, [⟨0, 32, .ro, 0, .core⟩]⟩,
   ⟨0x830, [⟨0, 32, .ro, 0, .core⟩]⟩,
   ⟨0x834, [⟨0, 32, .ro, 0, .core⟩]⟩,
   ⟨0x838, [⟨0, 32, .ro, 0, .core⟩]⟩,
   ⟨0x83c, [⟨0, 1, .ro, 0, .core⟩,
    ⟨1, 1, .ro, 0, .core⟩]⟩]
/-- Registers of SEC, part 3 (spec/12 R349, 15 R399). -/
def blkSEC_2 : List RegD :=
  [⟨0x840, [⟨0, 32, .ro, 0, .core⟩]⟩,
   ⟨0x844, [⟨0, 32, .ro, 0, .core⟩]⟩,
   ⟨0x848, [⟨0, 1, .ro, 0, .core⟩]⟩,
   ⟨0x84c, [⟨0, 1, .rw1s, 0, .core⟩]⟩]
/-- Block SEC (spec/12 R349, 15 R399). -/
def blkSEC : Blk := ⟨0x10000, 0, 1, blkSEC_0 ++ blkSEC_1 ++ blkSEC_2⟩

/-! PRIN: spec/12 R349 -/
/-- Registers of PRIN, part 1 (spec/12 R349). -/
def blkPRIN_0 : List RegD :=
  [⟨0, [⟨0, 32, .rw, 0, .cat⟩]⟩,
   ⟨4, [⟨0, 32, .rw, 0, .cat⟩]⟩,
   ⟨8, [⟨0, 32, .rw, 0, .cat⟩]⟩,
   ⟨0xc, [⟨0, 32, .rw, 0, .cat⟩]⟩,
   ⟨0x10, [⟨0, 1, .rw, 0, .core⟩,
    ⟨1, 4, .rw, 4, .cat⟩,
    ⟨5, 1, .rw, 0, .cat⟩,
    ⟨6, 20, .rw, 0, .cat⟩]⟩,
   ⟨0x14, [⟨0, 16, .rw, 0, .cat⟩,
    ⟨16, 16, .rw, 0, .cat⟩]⟩,
   ⟨0x18, [⟨0, 1, .ro, 0, .core⟩,
    ⟨1, 3, .ro, 0, .core⟩,
    ⟨4, 4, .ro, 0, .core⟩,
    ⟨16, 16, .ro, 0, .core⟩]⟩]
/-- Block PRIN (spec/12 R349). -/
def blkPRIN : Blk := ⟨0x10100, 0x20, 8, blkPRIN_0⟩

/-! FLT: spec/10 R303 -/
/-- Registers of FLT, part 1 (spec/10 R303). -/
def blkFLT_0 : List RegD :=
  [⟨0, [⟨0, 1, .rw, 1, .cat⟩]⟩,
   ⟨4, [⟨0, 1, .rw1c, 0, .core⟩,
    ⟨1, 1, .rw1c, 0, .core⟩,
    ⟨2, 1, .rw1c, 0, .core⟩,
    ⟨3, 1, .rw1c, 0, .core⟩,
    ⟨4, 1, .rw1c, 0, .core⟩]⟩,
   ⟨8, [⟨0, 1, .ro, 0, .core⟩,
    ⟨1, 10, .ro, 0, .core⟩]⟩,
   ⟨0xc, [⟨0, 32, .ro, 0, .core⟩]⟩]
/-- Block FLT (spec/10 R303). -/
def blkFLT : Blk := ⟨0x20000, 0, 1, blkFLT_0⟩

/-! ACTIVE: spec/10 R303 -/
/-- Registers of ACTIVE, part 1 (spec/10 R303). -/
def blkACTIVE_0 : List RegD :=
  [⟨0, [⟨0, 32, .ro, 0, .core⟩]⟩]
/-- Block ACTIVE (spec/10 R303). -/
def blkACTIVE : Blk := ⟨0x20040, 4, 18, blkACTIVE_0⟩

/-! ERRMASK: spec/10 R303 -/
/-- Registers of ERRMASK, part 1 (spec/10 R303). -/
def blkERRMASK_0 : List RegD :=
  [⟨0, [⟨0, 32, .rw, 0, .cat⟩]⟩]
/-- Block ERRMASK (spec/10 R303). -/
def blkERRMASK : Blk := ⟨0x20100, 4, 18, blkERRMASK_0⟩

/-! INJ: spec/10 R303 -/
/-- Registers of INJ, part 1 (spec/10 R303). -/
def blkINJ_0 : List RegD :=
  [⟨0, [⟨0, 1, .rw1s, 0, .core⟩,
    ⟨1, 1, .rw, 0, .core⟩,
    ⟨2, 1, .rw, 0, .core⟩,
    ⟨3, 1, .wo, 0, .core⟩,
    ⟨4, 4, .rw, 0, .core⟩]⟩,
   ⟨4, [⟨0, 24, .rw, 0, .core⟩,
    ⟨24, 1, .rw, 0, .core⟩]⟩,
   ⟨8, [⟨0, 16, .rw, 0, .core⟩]⟩,
   ⟨0xc, [⟨0, 16, .ro, 0, .core⟩,
    ⟨16, 1, .ro, 0, .core⟩]⟩]
/-- Block INJ (spec/10 R303). -/
def blkINJ : Blk := ⟨0x20200, 0x10, 4, blkINJ_0⟩

/-! PRS: spec/08 R241 -/
/-- Registers of PRS, part 1 (spec/08 R241). -/
def blkPRS_0 : List RegD :=
  [⟨0, [⟨0, 13, .ro, 0x1770, .cat⟩,
    ⟨13, 1, .ro, 0, .cat⟩,
    ⟨14, 1, .ro, 1, .cat⟩]⟩,
   ⟨4, [⟨0, 1, .rw1c, 0, .aon⟩,
    ⟨1, 1, .rw1c, 0, .aon⟩,
    ⟨2, 1, .rw1c, 0, .aon⟩,
    ⟨3, 1, .rw1c, 0, .aon⟩,
    ⟨4, 1, .rw1c, 0, .aon⟩,
    ⟨5, 1, .rw1c, 0, .aon⟩,
    ⟨6, 1, .rw1c, 0, .aon⟩,
    ⟨7, 1, .rw1c, 0, .aon⟩,
    ⟨8, 1, .rw1c, 0, .aon⟩,
    ⟨9, 3, .ro, 0, .aon⟩]⟩,
   ⟨8, [⟨0, 8, .rw, 0, .core⟩]⟩,
   ⟨0xc, [⟨0, 4, .ro, 0, .core⟩,
    ⟨4, 1, .ro, 0, .core⟩,
    ⟨5, 1, .ro, 0, .core⟩,
    ⟨6, 1, .ro, 0, .core⟩]⟩,
   ⟨0x10, [⟨0, 16, .ro, 0, .cat⟩,
    ⟨16, 7, .ro, 0, .cat⟩,
    ⟨23, 1, .ro, 0, .cat⟩]⟩,
   ⟨0x14, [⟨0, 16, .ro, 0, .cat⟩,
    ⟨16, 7, .ro, 0, .cat⟩,
    ⟨23, 1, .ro, 0, .cat⟩]⟩,
   ⟨0x18, [⟨0, 7, .rw, 0xa, .cat⟩]⟩,
   ⟨0x1c, [⟨0, 1, .ro, 0, .aon⟩,
    ⟨1, 1, .ro, 0, .aon⟩,
    ⟨2, 1, .ro, 0, .aon⟩,
    ⟨3, 1, .ro, 0, .aon⟩,
    ⟨4, 1, .ro, 0, .aon⟩,
    ⟨5, 1, .ro, 0, .aon⟩,
    ⟨6, 1, .ro, 0, .aon⟩,
    ⟨7, 3, .ro, 0, .aon⟩,
    ⟨10, 7, .ro, 0, .aon⟩]⟩,
   ⟨0x20, [⟨0, 16, .ro, 0, .aon⟩]⟩,
   ⟨0x24, [⟨0, 16, .ro, 0, .aon⟩]⟩,
   ⟨0x28, [⟨0, 16, .ro, 0, .aon⟩]⟩,
   ⟨0x2c, [⟨0, 16, .ro, 0, .aon⟩]⟩]
/-- Registers of PRS, part 2 (spec/08 R241). -/
def blkPRS_1 : List RegD :=
  [⟨0x30, [⟨0, 16, .ro, 0, .aon⟩]⟩,
   ⟨0x34, [⟨0, 32, .ro, 0, .aon⟩]⟩,
   ⟨0x38, [⟨0, 32, .ro, 0, .aon⟩]⟩,
   ⟨0x3c, [⟨0, 32, .ro, 0, .aon⟩]⟩,
   ⟨0x40, [⟨0, 32, .ro, 0, .aon⟩]⟩,
   ⟨0x44, [⟨0, 32, .ro, 0, .aon⟩]⟩,
   ⟨0x48, [⟨0, 32, .ro, 0, .aon⟩]⟩,
   ⟨0x4c, [⟨0, 32, .ro, 0, .aon⟩]⟩,
   ⟨0x50, [⟨0, 24, .ro, 0, .aon⟩]⟩,
   ⟨0x54, [⟨0, 24, .ro, 0, .aon⟩,
    ⟨24, 1, .ro, 0, .aon⟩]⟩,
   ⟨0x58, [⟨0, 2, .ro, 0, .core⟩,
    ⟨2, 3, .ro, 0, .core⟩,
    ⟨5, 3, .ro, 0, .core⟩,
    ⟨8, 3, .ro, 0, .core⟩,
    ⟨11, 1, .ro, 0, .core⟩,
    ⟨12, 1, .ro, 0, .core⟩]⟩,
   ⟨0x5c, [⟨0, 16, .ro, 0, .core⟩]⟩]
/-- Registers of PRS, part 3 (spec/08 R241). -/
def blkPRS_2 : List RegD :=
  [⟨0x60, [⟨0, 10, .ro, 0, .core⟩]⟩,
   ⟨0x64, [⟨0, 32, .ro, 0, .core⟩]⟩,
   ⟨0x68, [⟨0, 32, .ro, 0, .core⟩]⟩,
   ⟨0x6c, [⟨0, 32, .ro, 0, .cat⟩]⟩,
   ⟨0x70, [⟨0, 32, .ro, 0, .cat⟩]⟩,
   ⟨0x74, [⟨0, 32, .ro, 0, .core⟩]⟩,
   ⟨0x78, [⟨0, 32, .ro, 0, .core⟩]⟩,
   ⟨0x7c, [⟨0, 8, .ro, 0, .core⟩,
    ⟨8, 1, .ro, 0, .core⟩,
    ⟨9, 1, .ro, 0, .core⟩,
    ⟨10, 1, .ro, 0, .core⟩]⟩]
/-- Block PRS (spec/08 R241). -/
def blkPRS : Blk := ⟨0x30000, 0, 1, blkPRS_0 ++ blkPRS_1 ++ blkPRS_2⟩

/-! PAIR: spec/10 R304 -/
/-- Registers of PAIR, part 1 (spec/10 R304). -/
def blkPAIR_0 : List RegD :=
  [⟨0, [⟨0, 1, .ro, 0, .cat⟩,
    ⟨1, 1, .ro, 0, .cat⟩]⟩,
   ⟨4, [⟨0, 1, .rw1c, 0, .core⟩,
    ⟨1, 1, .rw1c, 0, .core⟩,
    ⟨2, 1, .rw1c, 0, .core⟩,
    ⟨3, 1, .rw1c, 0, .core⟩,
    ⟨4, 1, .rw1c, 0, .core⟩,
    ⟨5, 1, .rw1c, 0, .core⟩,
    ⟨6, 1, .rw1c, 0, .core⟩,
    ⟨7, 1, .rw1c, 0, .core⟩,
    ⟨8, 1, .rw1c, 0, .core⟩,
    ⟨9, 3, .ro, 0, .core⟩]⟩,
   ⟨8, [⟨0, 8, .rw, 0, .core⟩]⟩,
   ⟨0xc, [⟨0, 3, .ro, 0, .core⟩,
    ⟨3, 1, .ro, 0, .cat⟩,
    ⟨4, 1, .ro, 0, .core⟩]⟩,
   ⟨0x10, [⟨0, 16, .ro, 0, .cat⟩]⟩,
   ⟨0x14, [⟨0, 30, .ro, 0, .cat⟩]⟩,
   ⟨0x18, [⟨0, 32, .ro, 0, .core⟩]⟩,
   ⟨0x1c, [⟨0, 32, .ro, 0, .core⟩]⟩,
   ⟨0x20, [⟨0, 32, .ro, 0, .core⟩]⟩,
   ⟨0x24, [⟨0, 32, .ro, 0, .core⟩]⟩,
   ⟨0x28, [⟨0, 3, .ro, 0, .core⟩,
    ⟨16, 16, .ro, 0, .core⟩]⟩,
   ⟨0x2c, [⟨0, 32, .ro, 0, .core⟩]⟩]
/-- Registers of PAIR, part 2 (spec/10 R304). -/
def blkPAIR_1 : List RegD :=
  [⟨0x30, [⟨0, 7, .ro, 0, .core⟩,
    ⟨7, 1, .ro, 0, .core⟩,
    ⟨8, 24, .ro, 0, .core⟩]⟩,
   ⟨0x34, [⟨0, 32, .ro, 0, .core⟩]⟩,
   ⟨0x38, [⟨0, 32, .ro, 0, .core⟩]⟩,
   ⟨0x3c, [⟨0, 16, .ro, 0, .core⟩]⟩,
   ⟨0x40, [⟨0, 16, .ro, 0, .core⟩]⟩,
   ⟨0x44, [⟨0, 16, .ro, 0, .core⟩]⟩,
   ⟨0x48, [⟨0, 16, .ro, 0, .core⟩]⟩,
   ⟨0x4c, [⟨0, 1, .ro, 0, .core⟩,
    ⟨1, 1, .ro, 0, .core⟩,
    ⟨2, 1, .ro, 0, .core⟩]⟩,
   ⟨0x50, [⟨0, 16, .ro, 0, .core⟩]⟩,
   ⟨0x54, [⟨0, 32, .ro, 0, .core⟩]⟩,
   ⟨0x58, [⟨0, 32, .ro, 0, .core⟩]⟩,
   ⟨0x5c, [⟨0, 32, .ro, 0, .core⟩]⟩]
/-- Block PAIR (spec/10 R304). -/
def blkPAIR : Blk := ⟨0x40000, 0, 1, blkPAIR_0 ++ blkPAIR_1⟩

/-! TLY: spec/13 R364 -/
/-- Registers of TLY, part 1 (spec/13 R364). -/
def blkTLY_0 : List RegD :=
  [⟨0, [⟨0, 20, .rw, 0x3e8, .cat⟩,
    ⟨20, 1, .rw, 0, .cat⟩]⟩,
   ⟨4, [⟨0, 1, .rw1c, 0, .core⟩,
    ⟨1, 1, .rw1c, 0, .core⟩,
    ⟨2, 1, .rw1c, 0, .core⟩,
    ⟨3, 1, .rw1c, 0, .core⟩,
    ⟨4, 1, .rw1c, 0, .core⟩,
    ⟨5, 3, .ro, 0, .core⟩]⟩,
   ⟨8, [⟨0, 4, .rw, 0, .core⟩]⟩,
   ⟨0xc, [⟨0, 4, .rw, 0, .cat⟩,
    ⟨4, 3, .rw, 0, .cat⟩,
    ⟨8, 4, .rw, 4, .cat⟩]⟩,
   ⟨0x10, [⟨0, 32, .rw, 0, .cat⟩]⟩,
   ⟨0x14, [⟨0, 32, .rw, 0, .cat⟩]⟩,
   ⟨0x18, [⟨0, 16, .ro, 0, .core⟩,
    ⟨16, 16, .rw, 0, .core⟩]⟩,
   ⟨0x1c, [⟨0, 32, .ro, 0, .core⟩]⟩,
   ⟨0x20, [⟨0, 16, .rw, 0, .core⟩,
    ⟨16, 16, .rw, 0, .core⟩]⟩,
   ⟨0x24, [⟨0, 1, .rw, 1, .cat⟩]⟩,
   ⟨0x28, [⟨0, 32, .ro, 0, .core⟩]⟩,
   ⟨0x2c, [⟨0, 14, .ro, 0, .core⟩,
    ⟨14, 1, .ro, 0, .core⟩]⟩]
/-- Block TLY (spec/13 R364). -/
def blkTLY : Blk := ⟨0x50000, 0, 1, blkTLY_0⟩

/-! LD: spec/13 R364 -/
/-- Registers of LD, part 1 (spec/13 R364). -/
def blkLD_0 : List RegD :=
  [⟨0, [⟨0, 1, .rw, 0, .cat⟩,
    ⟨1, 1, .ro, 0, .core⟩,
    ⟨2, 1, .rw, 0, .cat⟩,
    ⟨3, 3, .rw, 0, .cat⟩,
    ⟨6, 5, .rw, 6, .cat⟩,
    ⟨16, 16, .rw, 0, .cat⟩]⟩,
   ⟨4, [⟨0, 2, .rw, 1, .cat⟩,
    ⟨2, 6, .rw, 0, .cat⟩,
    ⟨8, 1, .rw, 1, .cat⟩,
    ⟨9, 5, .rw, 0x1f, .cat⟩,
    ⟨14, 1, .rw, 0, .cat⟩]⟩,
   ⟨8, [⟨0, 9, .rw, 0, .cat⟩,
    ⟨16, 9, .rw, 0, .cat⟩]⟩,
   ⟨0xc, [⟨0, 32, .rw, 0, .cat⟩]⟩,
   ⟨0x10, [⟨0, 32, .rw, 0, .cat⟩]⟩,
   ⟨0x14, [⟨0, 16, .ro, 0, .core⟩,
    ⟨16, 16, .rw, 0, .core⟩]⟩,
   ⟨0x18, [⟨0, 16, .rw, 0, .core⟩,
    ⟨16, 16, .rw, 0, .core⟩]⟩]
/-- Block LD (spec/13 R364). -/
def blkLD : Blk := ⟨0x50040, 0x20, 4, blkLD_0⟩

/-! DMV: spec/07 R208 -/
/-- Registers of DMV, part 1 (spec/07 R208). -/
def blkDMV_0 : List RegD :=
  [⟨0, [⟨0, 7, .rw, 0x20, .cat⟩,
    ⟨8, 8, .rw, 0x10, .cat⟩,
    ⟨16, 10, .rw, 0x64, .cat⟩]⟩,
   ⟨4, [⟨0, 1, .rw1c, 0, .core⟩,
    ⟨1, 1, .rw1c, 0, .core⟩,
    ⟨2, 1, .rw1c, 0, .core⟩,
    ⟨3, 1, .rw1c, 0, .core⟩,
    ⟨4, 1, .rw1c, 0, .core⟩,
    ⟨5, 1, .rw1c, 0, .core⟩,
    ⟨6, 1, .rw1c, 0, .core⟩,
    ⟨7, 1, .rw1c, 0, .core⟩,
    ⟨8, 1, .rw1c, 0, .core⟩,
    ⟨9, 1, .rw1c, 0, .core⟩,
    ⟨10, 1, .rw1c, 0, .core⟩,
    ⟨11, 1, .rw1c, 0, .core⟩,
    ⟨12, 1, .rw1c, 0, .core⟩,
    ⟨13, 1, .rw1c, 0, .core⟩,
    ⟨14, 1, .rw1c, 0, .core⟩,
    ⟨15, 1, .rw1c, 0, .core⟩,
    ⟨16, 4, .ro, 0, .core⟩,
    ⟨20, 8, .ro, 0, .core⟩]⟩,
   ⟨8, [⟨0, 15, .rw, 0, .core⟩]⟩,
   ⟨0xc, [⟨0, 11, .ro, 0, .core⟩,
    ⟨11, 8, .ro, 0, .core⟩,
    ⟨19, 1, .ro, 0, .core⟩]⟩,
   ⟨0x10, [⟨0, 7, .ro, 0, .core⟩,
    ⟨8, 7, .ro, 0, .core⟩,
    ⟨16, 11, .ro, 0, .core⟩]⟩,
   ⟨0x14, [⟨0, 16, .rw1c, 0, .core⟩]⟩,
   ⟨0x18, [⟨0, 32, .ro, 0x8888ffff, .cat⟩]⟩,
   ⟨0x1c, [⟨0, 32, .ro, 0x88888888, .cat⟩]⟩,
   ⟨0x20, [⟨0, 32, .ro, 0, .core⟩]⟩,
   ⟨0x24, [⟨0, 32, .ro, 0, .core⟩]⟩,
   ⟨0x28, [⟨0, 32, .ro, 0, .core⟩]⟩,
   ⟨0x2c, [⟨0, 32, .ro, 0, .core⟩]⟩]
/-- Registers of DMV, part 2 (spec/07 R208). -/
def blkDMV_1 : List RegD :=
  [⟨0x30, [⟨0, 32, .ro, 0, .core⟩]⟩,
   ⟨0x34, [⟨0, 32, .ro, 0, .core⟩]⟩,
   ⟨0x38, [⟨0, 32, .ro, 0, .core⟩]⟩,
   ⟨0x3c, [⟨0, 32, .ro, 0, .core⟩]⟩]
/-- Block DMV (spec/07 R208). -/
def blkDMV : Blk := ⟨0x60000, 0, 1, blkDMV_0 ++ blkDMV_1⟩

/-! TMR: spec/07 R208 -/
/-- Registers of TMR, part 1 (spec/07 R208). -/
def blkTMR_0 : List RegD :=
  [⟨0, [⟨0, 32, .rw, 0, .cat⟩]⟩,
   ⟨4, [⟨0, 32, .rw, 0, .cat⟩]⟩,
   ⟨8, [⟨0, 20, .rw, 0x3e8, .cat⟩,
    ⟨20, 10, .rw, 0x3ff, .cat⟩,
    ⟨30, 1, .rw, 0, .cat⟩,
    ⟨31, 1, .rw, 0, .cat⟩]⟩]
/-- Block TMR (spec/07 R208). -/
def blkTMR : Blk := ⟨0x60100, 0x10, 16, blkTMR_0⟩

/-! TEN: spec/05 R160, 15 R401 -/
/-- Registers of TEN, part 1 (spec/05 R160, 15 R401). -/
def blkTEN_0 : List RegD :=
  [⟨0, [⟨0, 7, .rw, 0x14, .cat⟩]⟩,
   ⟨4, [⟨0, 17, .ro, 0, .core⟩]⟩,
   ⟨8, [⟨0, 17, .ro, 0, .core⟩]⟩,
   ⟨0xc, [⟨0, 16, .ro, 0, .core⟩,
    ⟨16, 1, .ro, 0, .core⟩]⟩,
   ⟨0x10, [⟨0, 1, .rw1c, 0, .core⟩,
    ⟨1, 1, .ro, 0, .core⟩,
    ⟨2, 1, .rw, 0, .core⟩,
    ⟨16, 16, .ro, 0, .core⟩]⟩,
   ⟨0x14, [⟨0, 32, .ro, 0, .core⟩]⟩,
   ⟨0x18, [⟨0, 20, .ro, 0, .core⟩]⟩,
   ⟨0x1c, [⟨0, 9, .ro, 0, .core⟩,
    ⟨9, 6, .ro, 0, .core⟩,
    ⟨15, 3, .ro, 0, .core⟩,
    ⟨18, 3, .ro, 0, .core⟩,
    ⟨21, 3, .ro, 0, .core⟩,
    ⟨24, 1, .ro, 0, .core⟩,
    ⟨25, 1, .ro, 0, .core⟩,
    ⟨26, 1, .ro, 0, .core⟩]⟩,
   ⟨0x20, [⟨0, 1, .rw1c, 0, .core⟩,
    ⟨1, 1, .ro, 0, .core⟩,
    ⟨2, 1, .rw, 0, .core⟩,
    ⟨16, 16, .ro, 0, .core⟩]⟩,
   ⟨0x24, [⟨0, 32, .ro, 0, .core⟩]⟩,
   ⟨0x28, [⟨0, 20, .ro, 0, .core⟩]⟩,
   ⟨0x2c, [⟨0, 9, .ro, 0, .core⟩,
    ⟨9, 6, .ro, 0, .core⟩,
    ⟨15, 3, .ro, 0, .core⟩,
    ⟨18, 3, .ro, 0, .core⟩,
    ⟨21, 3, .ro, 0, .core⟩,
    ⟨24, 1, .ro, 0, .core⟩,
    ⟨25, 1, .ro, 0, .core⟩,
    ⟨26, 1, .ro, 0, .core⟩]⟩]
/-- Registers of TEN, part 2 (spec/05 R160, 15 R401). -/
def blkTEN_1 : List RegD :=
  [⟨0xb0, [⟨0, 10, .ro, 0, .core⟩]⟩,
   ⟨0xb4, [⟨0, 17, .ro, 0, .core⟩]⟩,
   ⟨0xb8, [⟨0, 17, .ro, 0, .core⟩]⟩,
   ⟨0xbc, [⟨0, 32, .ro, 0, .core⟩]⟩]
/-- Block TEN (spec/05 R160, 15 R401). -/
def blkTEN : Blk := ⟨0x70000, 0, 1, blkTEN_0 ++ blkTEN_1⟩

/-! BOUND: spec/15 R401 -/
/-- Registers of BOUND, part 1 (spec/15 R401). -/
def blkBOUND_0 : List RegD :=
  [⟨0, [⟨0, 32, .ro, 0, .core⟩]⟩]
/-- Block BOUND (spec/15 R401). -/
def blkBOUND : Blk := ⟨0x70030, 4, 16, blkBOUND_0⟩

/-! CLOSTR: spec/15 R401 -/
/-- Registers of CLOSTR, part 1 (spec/15 R401). -/
def blkCLOSTR_0 : List RegD :=
  [⟨0, [⟨0, 32, .ro, 0, .core⟩]⟩]
/-- Block CLOSTR (spec/15 R401). -/
def blkCLOSTR : Blk := ⟨0x70070, 4, 16, blkCLOSTR_0⟩

/-! NOC: spec/01 Router registers -/
/-- Registers of NOC, part 1 (spec/01 Router registers). -/
def blkNOC_0 : List RegD :=
  [⟨0, [⟨0, 1, .rw, 0, .core⟩,
    ⟨1, 1, .rw, 0, .core⟩,
    ⟨2, 2, .rw, 3, .core⟩,
    ⟨16, 7, .rw, 0, .core⟩,
    ⟨24, 8, .rw, 0x10, .core⟩]⟩,
   ⟨4, [⟨0, 1, .ro, 0, .core⟩,
    ⟨1, 1, .ro, 0, .core⟩,
    ⟨2, 1, .rw1c, 0, .core⟩,
    ⟨3, 1, .rw1c, 0, .core⟩,
    ⟨4, 1, .rw1c, 0, .core⟩,
    ⟨5, 1, .rw1c, 0, .core⟩,
    ⟨6, 1, .rw1c, 0, .core⟩,
    ⟨7, 1, .rw1c, 0, .core⟩,
    ⟨8, 1, .rw1c, 0, .core⟩,
    ⟨9, 3, .ro, 0, .core⟩,
    ⟨12, 1, .rw1c, 0, .core⟩,
    ⟨16, 8, .ro, 0, .core⟩]⟩]
/-- Block NOC (spec/01 Router registers). -/
def blkNOC : Blk := ⟨0x80000, 0x100, 36, blkNOC_0⟩

/-! SLT: spec/11 R321 -/
/-- Registers of SLT, part 1 (spec/11 R321). -/
def blkSLT_0 : List RegD :=
  [⟨0, [⟨0, 1, .ro, 0, .cat⟩,
    ⟨1, 1, .rw, 0, .cat⟩,
    ⟨2, 3, .rw, 3, .cat⟩,
    ⟨5, 3, .rw, 3, .cat⟩,
    ⟨8, 3, .rw, 2, .cat⟩,
    ⟨11, 3, .rw, 3, .cat⟩,
    ⟨14, 3, .rw, 3, .cat⟩,
    ⟨17, 3, .rw, 2, .cat⟩,
    ⟨20, 3, .rw, 3, .cat⟩]⟩,
   ⟨4, [⟨0, 14, .rw, 0x1f40, .cat⟩,
    ⟨16, 8, .rw, 0x6c, .cat⟩,
    ⟨24, 8, .rw, 0x84, .cat⟩]⟩,
   ⟨8, [⟨0, 1, .rw1c, 0, .core⟩,
    ⟨1, 1, .rw1c, 0, .core⟩,
    ⟨2, 1, .rw1c, 0, .core⟩,
    ⟨3, 1, .rw1c, 0, .core⟩,
    ⟨4, 1, .rw1c, 0, .core⟩,
    ⟨5, 1, .rw1c, 0, .core⟩,
    ⟨6, 1, .rw1c, 0, .core⟩,
    ⟨7, 1, .rw1c, 0, .core⟩,
    ⟨8, 1, .rw1c, 0, .core⟩,
    ⟨9, 1, .rw1c, 0, .core⟩,
    ⟨10, 1, .rw1c, 0, .core⟩,
    ⟨11, 4, .ro, 0, .core⟩,
    ⟨15, 3, .ro, 0, .core⟩,
    ⟨18, 3, .ro, 0, .core⟩,
    ⟨21, 1, .ro, 0, .core⟩]⟩,
   ⟨0xc, [⟨0, 10, .rw, 0, .core⟩]⟩,
   ⟨0x10, [⟨0, 16, .ro, 0, .core⟩,
    ⟨16, 16, .ro, 0, .core⟩]⟩,
   ⟨0x14, [⟨0, 20, .ro, 0, .core⟩,
    ⟨20, 12, .ro, 0, .core⟩]⟩,
   ⟨0x18, [⟨0, 32, .ro, 0, .core⟩]⟩,
   ⟨0x1c, [⟨0, 32, .ro, 0, .core⟩]⟩]
/-- Block SLT (spec/11 R321). -/
def blkSLT : Blk := ⟨0x90000, 0x100, 32, blkSLT_0⟩

/-! PU: spec/02 R61, 03, 15 R400 -/
/-- Registers of PU, part 1 (spec/02 R61, 03, 15 R400). -/
def blkPU_0 : List RegD :=
  [⟨0, [⟨0, 3, .rw, 0, .cat⟩,
    ⟨3, 2, .rw, 0, .cat⟩,
    ⟨5, 3, .rw, 5, .cat⟩,
    ⟨8, 1, .rw, 0, .cat⟩,
    ⟨9, 1, .rw, 0, .cat⟩,
    ⟨10, 1, .rw, 0, .cat⟩,
    ⟨11, 1, .rw, 0, .cat⟩,
    ⟨12, 1, .rw, 0, .cat⟩,
    ⟨13, 1, .rw, 0, .cat⟩,
    ⟨14, 5, .rw, 0, .cat⟩,
    ⟨19, 1, .rw, 0, .cat⟩,
    ⟨20, 1, .rw, 0, .cat⟩]⟩,
   ⟨4, [⟨0, 1, .rw, 0, .cat⟩,
    ⟨1, 1, .rw1s, 0, .core⟩,
    ⟨2, 1, .rw, 0, .core⟩,
    ⟨8, 10, .rw, 0x14, .cat⟩]⟩,
   ⟨8, [⟨0, 4, .ro, 0, .core⟩,
    ⟨4, 4, .ro, 0, .core⟩,
    ⟨8, 3, .ro, 0, .core⟩,
    ⟨11, 3, .ro, 0, .core⟩,
    ⟨14, 3, .ro, 0, .core⟩,
    ⟨17, 2, .ro, 0, .core⟩,
    ⟨19, 2, .ro, 0, .core⟩,
    ⟨21, 1, .ro, 0, .core⟩,
    ⟨22, 1, .ro, 0, .core⟩,
    ⟨24, 8, .ro, 0, .core⟩]⟩,
   ⟨0xc, [⟨0, 1, .rw, 0, .cat⟩,
    ⟨1, 1, .rw, 0, .cat⟩,
    ⟨2, 3, .rw, 0, .cat⟩,
    ⟨5, 1, .rw, 0, .cat⟩,
    ⟨8, 8, .rw, 0xa, .cat⟩]⟩,
   ⟨0x10, [⟨0, 16, .rw, 0x4444, .cat⟩,
    ⟨16, 3, .rw, 3, .cat⟩,
    ⟨19, 1, .rw, 0, .cat⟩]⟩,
   ⟨0x14, [⟨0, 5, .ro, 0, .core⟩,
    ⟨5, 5, .ro, 0, .core⟩,
    ⟨10, 4, .ro, 0, .core⟩]⟩,
   ⟨0x18, [⟨0, 1, .rw1c, 0, .core⟩,
    ⟨1, 1, .rw1c, 0, .core⟩,
    ⟨2, 1, .rw1c, 0, .core⟩,
    ⟨3, 1, .rw1c, 0, .core⟩,
    ⟨4, 1, .rw1c, 0, .core⟩,
    ⟨5, 1, .rw1c, 0, .core⟩,
    ⟨6, 1, .rw1c, 0, .core⟩,
    ⟨7, 1, .rw1c, 0, .core⟩,
    ⟨8, 1, .rw1c, 0, .core⟩,
    ⟨9, 1, .rw1c, 0, .core⟩,
    ⟨10, 1, .rw1c, 0, .core⟩,
    ⟨11, 4, .ro, 0, .core⟩,
    ⟨16, 3, .ro, 0, .core⟩]⟩,
   ⟨0x1c, [⟨0, 10, .rw, 0, .core⟩]⟩,
   ⟨0x20, [⟨0, 16, .rw, 0, .core⟩,
    ⟨16, 16, .rw, 0x100, .cat⟩]⟩,
   ⟨0x24, [⟨0, 16, .rw, 0, .core⟩,
    ⟨16, 16, .rw, 0x100, .cat⟩]⟩,
   ⟨0x28, [⟨0, 1, .rw, 0, .cat⟩,
    ⟨1, 1, .rw, 0, .cat⟩,
    ⟨2, 1, .rw, 0, .cat⟩]⟩,
   ⟨0x2c, [⟨0, 1, .ro, 0, .core⟩,
    ⟨1, 1, .ro, 0, .core⟩,
    ⟨2, 1, .ro, 0, .core⟩,
    ⟨3, 1, .ro, 0, .core⟩,
    ⟨4, 1, .ro, 0, .core⟩,
    ⟨5, 1, .ro, 0, .core⟩]⟩]
/-- Registers of PU, part 2 (spec/02 R61, 03, 15 R400). -/
def blkPU_1 : List RegD :=
  [⟨0x30, [⟨0, 1, .rw, 0, .core⟩,
    ⟨1, 3, .rw, 0, .core⟩,
    ⟨4, 3, .rw, 0, .core⟩,
    ⟨8, 4, .ro, 0, .core⟩]⟩,
   ⟨0x34, [⟨0, 16, .ro, 0, .core⟩,
    ⟨16, 16, .ro, 0, .core⟩]⟩,
   ⟨0x38, [⟨0, 16, .ro, 0, .core⟩,
    ⟨16, 16, .ro, 0, .core⟩]⟩,
   ⟨0x3c, [⟨0, 1, .rw1s, 0, .core⟩,
    ⟨1, 2, .rw, 0, .core⟩,
    ⟨3, 2, .rw, 1, .core⟩,
    ⟨5, 8, .rw, 1, .core⟩]⟩,
   ⟨0x40, [⟨0, 6, .ro, 0, .core⟩,
    ⟨6, 6, .ro, 0, .core⟩,
    ⟨12, 6, .ro, 0, .core⟩,
    ⟨18, 6, .ro, 0, .core⟩,
    ⟨24, 1, .ro, 0, .core⟩,
    ⟨25, 1, .ro, 0, .core⟩]⟩,
   ⟨0x44, [⟨0, 8, .ro, 0, .core⟩,
    ⟨8, 13, .rw, 0x32, .cat⟩,
    ⟨21, 1, .ro, 0, .core⟩,
    ⟨22, 10, .ro, 0, .core⟩]⟩]
/-- Block PU (spec/02 R61, 03, 15 R400). -/
def blkPU : Blk := ⟨0x100000, 0x1000, 64, blkPU_0 ++ blkPU_1⟩

/-! ST: spec/01 R23, 05 R160, 09 R271, 15 R401 -/
/-- Registers of ST, part 1 (spec/01 R23, 05 R160, 09 R271, 15 R401). -/
def blkST_0 : List RegD :=
  [⟨0, [⟨0, 1, .rw, 0, .core⟩,
    ⟨1, 1, .ro, 0, .core⟩,
    ⟨2, 1, .rw1c, 0, .core⟩,
    ⟨3, 1, .rw1c, 0, .core⟩]⟩,
   ⟨4, [⟨0, 16, .rw, 0, .core⟩]⟩,
   ⟨8, [⟨0, 16, .ro, 0, .core⟩]⟩,
   ⟨0xc, [⟨0, 1, .ro, 0, .core⟩,
    ⟨1, 1, .ro, 0, .core⟩,
    ⟨8, 6, .ro, 0, .core⟩]⟩,
   ⟨0x40, [⟨0, 1, .rw1c, 0, .core⟩,
    ⟨1, 1, .ro, 0, .core⟩,
    ⟨2, 1, .rw, 0, .core⟩,
    ⟨16, 16, .ro, 0, .core⟩]⟩,
   ⟨0x44, [⟨0, 32, .ro, 0, .core⟩]⟩,
   ⟨0x48, [⟨0, 20, .ro, 0, .core⟩]⟩,
   ⟨0x4c, [⟨0, 9, .ro, 0, .core⟩,
    ⟨9, 6, .ro, 0, .core⟩,
    ⟨15, 3, .ro, 0, .core⟩,
    ⟨18, 3, .ro, 0, .core⟩,
    ⟨21, 3, .ro, 0, .core⟩,
    ⟨24, 1, .ro, 0, .core⟩,
    ⟨25, 1, .ro, 0, .core⟩,
    ⟨26, 1, .ro, 0, .core⟩]⟩,
   ⟨0x60, [⟨0, 8, .rw, 0x14, .cat⟩,
    ⟨8, 4, .rw, 4, .cat⟩,
    ⟨12, 10, .rw, 0xc0, .cat⟩,
    ⟨22, 6, .rw, 0x10, .cat⟩]⟩,
   ⟨0x64, [⟨0, 1, .rw1c, 0, .core⟩,
    ⟨1, 1, .rw1c, 0, .core⟩,
    ⟨2, 1, .rw1c, 0, .core⟩,
    ⟨3, 1, .rw1c, 0, .core⟩,
    ⟨4, 1, .rw1c, 0, .core⟩,
    ⟨5, 1, .rw1c, 0, .core⟩,
    ⟨6, 1, .rw1c, 0, .core⟩,
    ⟨7, 1, .rw1c, 0, .core⟩,
    ⟨8, 3, .ro, 0, .core⟩,
    ⟨11, 6, .ro, 0, .core⟩]⟩,
   ⟨0x68, [⟨0, 7, .rw, 0, .core⟩]⟩,
   ⟨0x6c, [⟨0, 16, .rw, 0, .core⟩,
    ⟨16, 16, .rw, 0, .core⟩]⟩]
/-- Block ST (spec/01 R23, 05 R160, 09 R271, 15 R401). -/
def blkST : Blk := ⟨0x180000, 0x1000, 16, blkST_0⟩

/-! CP: spec/03 R89, 06 R179, 15 R401 -/
/-- Registers of CP, part 1 (spec/03 R89, 06 R179, 15 R401). -/
def blkCP_0 : List RegD :=
  [⟨0, [⟨0, 16, .rw, 0, .cat⟩,
    ⟨16, 8, .rw, 0x10, .cat⟩]⟩,
   ⟨4, [⟨0, 1, .rw1c, 0, .core⟩,
    ⟨1, 1, .rw1c, 0, .core⟩,
    ⟨2, 1, .rw1c, 0, .core⟩,
    ⟨3, 1, .rw1c, 0, .core⟩,
    ⟨4, 1, .rw1c, 0, .core⟩,
    ⟨5, 1, .rw1c, 0, .core⟩,
    ⟨6, 1, .rw1c, 0, .core⟩,
    ⟨7, 3, .ro, 0, .core⟩,
    ⟨16, 8, .ro, 0, .core⟩]⟩,
   ⟨8, [⟨0, 6, .rw, 0, .core⟩]⟩,
   ⟨0xc, [⟨0, 17, .ro, 0x10000, .core⟩]⟩,
   ⟨0x10, [⟨0, 16, .rw, 0, .core⟩,
    ⟨16, 16, .rw, 0, .core⟩]⟩,
   ⟨0x14, [⟨0, 18, .rw, 0x2000, .cat⟩]⟩,
   ⟨0x18, [⟨0, 18, .ro, 0x3f000, .core⟩,
    ⟨18, 1, .rw1c, 0, .core⟩]⟩,
   ⟨0x1c, [⟨0, 16, .rw, 0x3e8, .cat⟩]⟩,
   ⟨0x20, [⟨0, 1, .rw1c, 0, .core⟩,
    ⟨1, 1, .rw1c, 0, .core⟩,
    ⟨2, 1, .rw1c, 0, .core⟩,
    ⟨3, 2, .ro, 0, .core⟩]⟩,
   ⟨0x24, [⟨0, 2, .rw, 0, .core⟩]⟩,
   ⟨0x28, [⟨0, 6, .ro, 0, .core⟩,
    ⟨6, 9, .ro, 0, .core⟩,
    ⟨15, 2, .ro, 0, .core⟩,
    ⟨17, 1, .ro, 0, .core⟩]⟩,
   ⟨0x2c, [⟨0, 32, .ro, 0, .core⟩]⟩]
/-- Registers of CP, part 2 (spec/03 R89, 06 R179, 15 R401). -/
def blkCP_1 : List RegD :=
  [⟨0x30, [⟨0, 13, .ro, 0x1000, .core⟩,
    ⟨16, 13, .ro, 0x1000, .core⟩]⟩,
   ⟨0x34, [⟨0, 13, .ro, 0x1000, .core⟩,
    ⟨16, 13, .ro, 0x1000, .core⟩]⟩,
   ⟨0x38, [⟨0, 13, .ro, 0x1000, .core⟩,
    ⟨16, 13, .ro, 0x1000, .core⟩]⟩,
   ⟨0x3c, [⟨0, 13, .ro, 0x1000, .core⟩,
    ⟨16, 13, .ro, 0x1000, .core⟩]⟩,
   ⟨0x40, [⟨0, 13, .ro, 0x1000, .core⟩,
    ⟨16, 13, .ro, 0x1000, .core⟩]⟩,
   ⟨0x44, [⟨0, 13, .ro, 0x1000, .core⟩,
    ⟨16, 13, .ro, 0x1000, .core⟩]⟩,
   ⟨0x48, [⟨0, 13, .ro, 0x1000, .core⟩,
    ⟨16, 13, .ro, 0x1000, .core⟩]⟩,
   ⟨0x4c, [⟨0, 13, .ro, 0x1000, .core⟩,
    ⟨16, 13, .ro, 0x1000, .core⟩]⟩,
   ⟨0x50, [⟨0, 18, .ro, 0, .core⟩]⟩,
   ⟨0x54, [⟨0, 32, .ro, 0, .core⟩]⟩,
   ⟨0x58, [⟨0, 32, .rw, 0, .core⟩]⟩,
   ⟨0x5c, [⟨0, 32, .rw, 0, .core⟩]⟩]
/-- Block CP (spec/03 R89, 06 R179, 15 R401). -/
def blkCP : Blk := ⟨0x1c0000, 0x4000, 4, blkCP_0 ++ blkCP_1⟩

/-! DS: spec/04 R131 -/
/-- Registers of DS, part 1 (spec/04 R131). -/
def blkDS_0 : List RegD :=
  [⟨0, [⟨0, 1, .rw, 0, .core⟩,
    ⟨1, 1, .ro, 0, .core⟩,
    ⟨2, 1, .rw1c, 0, .core⟩,
    ⟨3, 1, .rw1c, 0, .core⟩]⟩,
   ⟨4, [⟨0, 14, .rw, 0x64, .cat⟩,
    ⟨14, 1, .wo, 0, .core⟩,
    ⟨16, 8, .rw, 0x10, .cat⟩]⟩,
   ⟨8, [⟨0, 1, .rw1c, 0, .core⟩,
    ⟨1, 1, .rw1c, 0, .core⟩,
    ⟨2, 1, .rw1c, 0, .core⟩,
    ⟨3, 1, .rw1c, 0, .core⟩,
    ⟨4, 1, .rw1c, 0, .core⟩,
    ⟨5, 1, .rw1c, 0, .core⟩,
    ⟨6, 1, .rw1c, 0, .core⟩,
    ⟨7, 1, .rw1c, 0, .core⟩,
    ⟨8, 1, .rw1c, 0, .core⟩,
    ⟨9, 1, .rw1c, 0, .core⟩,
    ⟨10, 1, .rw1c, 0, .core⟩,
    ⟨11, 4, .ro, 0, .core⟩,
    ⟨16, 8, .ro, 0, .core⟩]⟩,
   ⟨0xc, [⟨0, 10, .rw, 0, .core⟩]⟩,
   ⟨0x10, [⟨0, 1, .rw1s, 0, .core⟩,
    ⟨1, 2, .rw, 0, .core⟩,
    ⟨3, 8, .rw, 0, .core⟩,
    ⟨11, 6, .rw, 0, .core⟩]⟩,
   ⟨0x14, [⟨0, 15, .ro, 0, .core⟩,
    ⟨15, 1, .ro, 0, .core⟩,
    ⟨16, 16, .ro, 0, .core⟩]⟩,
   ⟨0x18, [⟨0, 15, .ro, 0, .core⟩,
    ⟨16, 8, .ro, 0, .core⟩]⟩,
   ⟨0x1c, [⟨0, 9, .ro, 0, .core⟩,
    ⟨9, 9, .ro, 0, .core⟩]⟩,
   ⟨0x20, [⟨0, 10, .ro, 0, .core⟩,
    ⟨10, 4, .ro, 0, .core⟩,
    ⟨14, 1, .ro, 0, .core⟩]⟩,
   ⟨0x24, [⟨0, 16, .rw, 0, .core⟩,
    ⟨16, 16, .rw, 0, .core⟩]⟩]
/-- Block DS (spec/04 R131). -/
def blkDS : Blk := ⟨0x200000, 0x1000, 16, blkDS_0⟩

/-! SCH: spec/06 R178 -/
/-- Registers of SCH, part 1 (spec/06 R178). -/
def blkSCH_0 : List RegD :=
  [⟨0, [⟨0, 20, .rw, 0, .cat⟩,
    ⟨20, 1, .rw, 0, .cat⟩,
    ⟨21, 1, .rw, 1, .cat⟩]⟩,
   ⟨4, [⟨0, 24, .rw, 0x4000, .cat⟩]⟩,
   ⟨8, [⟨0, 1, .rw, 0, .cat⟩,
    ⟨1, 1, .ro, 0, .cat⟩,
    ⟨2, 1, .rw1s, 0, .core⟩,
    ⟨8, 6, .ro, 0, .core⟩]⟩]
/-- Block SCH (spec/06 R178). -/
def blkSCH : Blk := ⟨0x240000, 0x400, 64, blkSCH_0⟩

/-- The register map (R388). -/
def regMap : List Blk :=
  [blkTOP, blkFWKHASH, blkLCKHASH, blkMEAS, blkDEVIDENT, blkSCRATCH, blkFREQERR, blkRAILV, blkTEMP, blkSEC, blkPRIN, blkFLT, blkACTIVE, blkERRMASK, blkINJ, blkPRS] ++
  [blkPAIR, blkTLY, blkLD, blkDMV, blkTMR, blkTEN, blkBOUND, blkCLOSTR, blkNOC, blkSLT, blkPU, blkST, blkCP, blkDS, blkSCH]

/-- The registers in the map. -/
def regCount (m : List Blk) : Nat := m.foldl (fun n b => n + b.count * b.regs.length) 0

/-- The index and the offset within one copy of a block that `off` lies at. -/
def Blk.locate (b : Blk) (off : Nat) : Option (Nat × Nat) :=
  if off < b.base then none
  else if b.stride = 0 then some (0, off - b.base)
  else
    let i := (off - b.base) / b.stride
    if i < b.count then some (i, (off - b.base) % b.stride) else none

/-- The register of a block at `off`, if there is one. -/
def Blk.find (b : Blk) (off : Nat) : Option RegD :=
  match b.locate off with
  | none => none
  | some (_, r) => b.regs.find? (fun d => d.off == r)

/-- The register at a BAR0 offset (R388, R389). -/
def findReg (off : Nat) : Option RegD := regMap.findSome? (fun b => b.find off)

/-- The descriptor of the field with a key. -/
def findFld (key : Nat) : Option FldD :=
  match findReg (key / 32) with
  | none => none
  | some r => r.flds.find? (fun f => f.lsb == key % 32)

namespace R
def TOP.ID.PART : Fld := .mk3 0 0 16 0x9512
def TOP.ID.MAJOR : Fld := .mk3 0 16 4 0
def TOP.ID.MINOR : Fld := .mk3 0 20 4 0
def TOP.ID.FAMILY : Fld := .mk3 0 24 8 0x43
def TOP.STRAPS.DEV_ID : Fld := .mk3 4 0 3 0
def TOP.STRAPS.PAIR_ROLE : Fld := .mk3 4 3 1 0
def TOP.DSTATE.MODE : Fld := .mk3 8 0 2 0
def TOP.DSTATE.REJ : Fld := .mk3 8 2 1 0
def TOP.SECVER.VER : Fld := .mk3 0xc 0 16 0
def TOP.FEATOFF0.VALUE : Fld := .mk3 0x10 0 32 0xff
def TOP.FEATOFF1.VALUE : Fld := .mk3 0x14 0 32 0
def TOP.FEATOFF2.VALUE : Fld := .mk3 0x18 0 32 0
def TOP.FEATOFF3.VALUE : Fld := .mk3 0x1c 0 32 0
def TOP.CAPS0.VALUE : Fld := .mk3 0x20 0 32 0x400100
def TOP.CAPS1.VALUE : Fld := .mk3 0x24 0 32 0x1000200
def TOP.CAPS2.VALUE : Fld := .mk3 0x28 0 32 0x4104000
def TOP.CAPS3.VALUE : Fld := .mk3 0x2c 0 32 0x80020
def TOP.CTPSTS.REF_LOST : Fld := .mk3 0x200 0 1 0
def TOP.CTPSTS.HOLDOVER : Fld := .mk3 0x200 1 1 0
def TOP.CTPSTS.FREQ0 : Fld := .mk3 0x200 2 1 0
def TOP.CTPSTS.FREQ1 : Fld := .mk3 0x200 3 1 0
def TOP.CTPSTS.FREQ2 : Fld := .mk3 0x200 4 1 0
def TOP.CTPSTS.FREQ3 : Fld := .mk3 0x200 5 1 0
def TOP.CTPSTS.CLK_SW : Fld := .mk3 0x200 6 1 0
def TOP.CTPSTS.THROTTLE : Fld := .mk3 0x200 7 1 0
def TOP.CTPSTS.TCRIT : Fld := .mk3 0x200 8 1 0
def TOP.CTPSTS.RAIL0 : Fld := .mk3 0x200 9 1 0
def TOP.CTPSTS.RAIL1 : Fld := .mk3 0x200 10 1 0
def TOP.CTPSTS.RAIL2 : Fld := .mk3 0x200 11 1 0
def TOP.CTPSTS.RAIL3 : Fld := .mk3 0x200 12 1 0
def TOP.CTPSTS.RAIL4 : Fld := .mk3 0x200 13 1 0
def TOP.CTPSTS.RAIL5 : Fld := .mk3 0x200 14 1 0
def TOP.CTPSTS.RAIL6 : Fld := .mk3 0x200 15 1 0
def TOP.CTPSTS.OVF : Fld := .mk3 0x200 16 1 0
def TOP.CTPSTS.FIRST : Fld := .mk3 0x200 17 5 0
def TOP.CTPMASK.MASK : Fld := .mk3 0x204 0 16 0
def TOP.RSTCAUSE.POR : Fld := .mk3 0x208 0 1 1
def TOP.RSTCAUSE.PERST : Fld := .mk3 0x208 1 1 1
def TOP.RSTCAUSE.CORE_RAIL : Fld := .mk3 0x208 2 1 0
def TOP.RSTCAUSE.PLL : Fld := .mk3 0x208 3 1 0
def TOP.RSTCAUSE.COUNT : Fld := .mk3 0x208 8 8 1
def TOP.PLLSTS.LOCKED : Fld := .mk3 0x20c 0 1 0
def TOP.PLLSTS.HOLDOVER : Fld := .mk3 0x20c 1 1 0
def TOP.PLLSTS.MCLK : Fld := .mk3 0x20c 2 1 0
def TOP.RAILSTS.RAILS : Fld := .mk3 0x210 0 7 0
def TOP.THRCTL.THROTTLE_C : Fld := .mk3 0x214 0 7 0x64
def TOP.THRSTS.HIGH : Fld := .mk3 0x218 0 8 0
def TOP.THRSTS.SENSOR : Fld := .mk3 0x218 8 5 0
def TOP.THRSTS.ENGAGED : Fld := .mk3 0x218 13 1 0
def TOP.THRSTS.COUNT : Fld := .mk3 0x218 16 16 0
def TOP.FTCTL.PARENT : Fld := .mk3 0x300 0 2 0
def TOP.FTCTL.PDEV : Fld := .mk3 0x300 2 3 0
def TOP.FTCTL.PPORT : Fld := .mk3 0x300 5 6 0
def TOP.FTCTL.SERVE : Fld := .mk3 0x300 11 1 1
def TOP.FTCTL.PPS_OUT : Fld := .mk3 0x300 12 1 0
def TOP.FTCTL.SYNC_US : Fld := .mk3 0x300 13 10 0x64
def TOP.FTSTS.LOCKED : Fld := .mk3 0x304 0 1 0
def TOP.FTSTS.LOST : Fld := .mk3 0x304 1 1 0
def TOP.FTSTS.STEP : Fld := .mk3 0x304 2 1 0
def TOP.FTSTS.TSYNC_MISS : Fld := .mk3 0x304 3 1 0
def TOP.FTSTS.LOOP : Fld := .mk3 0x304 4 1 0
def TOP.FTSTS.OVF : Fld := .mk3 0x304 5 1 0
def TOP.FTSTS.FIRST : Fld := .mk3 0x304 6 2 0
def TOP.FTSTS.DEPTH : Fld := .mk3 0x304 8 4 0xf
def TOP.FTSTS.STEP_CNT : Fld := .mk3 0x304 16 16 0
def TOP.FTMASK.MASK : Fld := .mk3 0x308 0 4 0
def TOP.FTNOWL.VALUE : Fld := .mk3 0x30c 0 32 0
def TOP.FTNOWH.VALUE : Fld := .mk3 0x310 0 32 0
def TOP.FTOFS.VALUE : Fld := .mk3 0x314 0 32 0
def TOP.FTADJ.VALUE : Fld := .mk3 0x318 0 32 0
def TOP.FTSETL.VALUE : Fld := .mk3 0x31c 0 32 0
def TOP.FTSETH.VALUE : Fld := .mk3 0x320 0 32 0
def TOP.FTTSDLY.TSDLY : Fld := .mk3 0x324 0 16 0
def FWKHASH.VALUE (i : Nat) : Fld := .mk3 (0x30 + 4 * i) 0 32 0
def LCKHASH.VALUE (i : Nat) : Fld := .mk3 (0x60 + 4 * i) 0 32 0
def MEAS.VALUE (i : Nat) : Fld := .mk3 (0x90 + 4 * i) 0 32 0
def DEVIDENT.VALUE (i : Nat) : Fld := .mk3 (0xc0 + 4 * i) 0 32 0
def SCRATCH.VALUE (i : Nat) : Fld := .mk3 (0x100 + 4 * i) 0 32 0
def FREQERR.PPM (i : Nat) : Fld := .mk3 (0x21c + 4 * i) 0 16 0
def RAILV.MV (i : Nat) : Fld := .mk3 (0x22c + 4 * i) 0 12 0
def TEMP.C (i : Nat) : Fld := .mk3 (0x248 + 4 * i) 0 8 0
def SEC.STS.AUTH_FAIL : Fld := .mk3 0x10000 0 1 0
def SEC.STS.CNT_STALE : Fld := .mk3 0x10000 1 1 0
def SEC.STS.NOT_PERM : Fld := .mk3 0x10000 2 1 0
def SEC.STS.RING_ERR : Fld := .mk3 0x10000 3 1 0
def SEC.STS.ATT_REJ : Fld := .mk3 0x10000 4 1 0
def SEC.STS.EV_LOST : Fld := .mk3 0x10000 5 1 0
def SEC.STS.KEY_ERR : Fld := .mk3 0x10000 6 1 0
def SEC.STS.SPDM_FAIL : Fld := .mk3 0x10000 7 1 0
def SEC.STS.UE : Fld := .mk3 0x10000 8 1 0
def SEC.STS.CE_OVER : Fld := .mk3 0x10000 9 1 0
def SEC.STS.RNG_FAIL : Fld := .mk3 0x10000 10 1 0
def SEC.STS.KEY_CHG : Fld := .mk3 0x10000 11 1 0
def SEC.STS.OVF : Fld := .mk3 0x10000 12 1 0
def SEC.STS.FIRST : Fld := .mk3 0x10000 13 4 0
def SEC.STS.PRIN : Fld := .mk3 0x10000 17 3 0
def SEC.STS.CE_CNT : Fld := .mk3 0x10000 20 8 0
def SEC.MASK.MASK : Fld := .mk3 0x10004 0 12 0
def SEC.MASK.CURMASK : Fld := .mk3 0x10004 16 8 0
def SEC.CURSTS.BOOT_ALT : Fld := .mk3 0x10008 0 1 0
def SEC.CURSTS.FW_REJ : Fld := .mk3 0x10008 1 1 0
def SEC.CURSTS.WDOG : Fld := .mk3 0x10008 2 1 0
def SEC.CURSTS.UE : Fld := .mk3 0x10008 3 1 0
def SEC.CURSTS.CE_OVER : Fld := .mk3 0x10008 4 1 0
def SEC.CURSTS.FW_NOR : Fld := .mk3 0x10008 5 1 0
def SEC.CURSTS.FW_STAGED : Fld := .mk3 0x10008 6 1 0
def SEC.CURSTS.FW_ACT : Fld := .mk3 0x10008 7 1 0
def SEC.CURSTS.OVF : Fld := .mk3 0x10008 8 1 0
def SEC.CURSTS.FIRST : Fld := .mk3 0x10008 9 3 0
def SEC.CURSTS.CE_CNT : Fld := .mk3 0x10008 12 8 0
def SEC.CURSTS.BANK : Fld := .mk3 0x10008 20 1 0
def SEC.CTL.SEC_THRESH : Fld := .mk3 0x1000c 0 8 0x10
def SEC.CTL.CUR_THRESH : Fld := .mk3 0x1000c 8 8 0x10
def SEC.FWVER.ACTIVE : Fld := .mk3 0x10010 0 16 0
def SEC.FWVER.STAGED : Fld := .mk3 0x10010 16 16 0
def SEC.CMDCNT.VALUE : Fld := .mk3 0x10014 0 32 0
def SEC.AUTHCNT.AUTH : Fld := .mk3 0x10018 0 16 0
def SEC.AUTHCNT.STALE : Fld := .mk3 0x10018 16 16 0
def SEC.FMCNT.VALUE : Fld := .mk3 0x1001c 0 32 0
def SEC.LCSTS.STATE : Fld := .mk3 0x10800 0 2 2
def SEC.LCSTS.DBG_EN : Fld := .mk3 0x10800 2 1 0
def SEC.LCSTS.KEYS_ERASED : Fld := .mk3 0x10800 3 1 0
def SEC.LCEVT.LC_CHG : Fld := .mk3 0x10804 0 1 0
def SEC.LCEVT.UNLOCK : Fld := .mk3 0x10804 1 1 0
def SEC.LCEVT.FUSE_ERR : Fld := .mk3 0x10804 2 1 0
def SEC.LCEVT.DBG_ATTACH : Fld := .mk3 0x10804 3 1 0
def SEC.LCEVT.OVF : Fld := .mk3 0x10804 4 1 0
def SEC.LCEVT.FIRST : Fld := .mk3 0x10804 5 1 0
def SEC.LCMASK.MASK : Fld := .mk3 0x10808 0 4 0
def SEC.DBGSTS.DAP_ERR : Fld := .mk3 0x1080c 0 1 0
def SEC.DBGSTS.HALT : Fld := .mk3 0x1080c 1 1 0
def SEC.DBGSTS.BSCAN : Fld := .mk3 0x1080c 2 1 0
def SEC.DBGSTS.OVF : Fld := .mk3 0x1080c 3 1 0
def SEC.DBGSTS.FIRST : Fld := .mk3 0x1080c 4 2 0
def SEC.DBGMASK.MASK : Fld := .mk3 0x10810 0 3 0
def SEC.DAPCTL.SLICE : Fld := .mk3 0x10814 0 9 0
def SEC.DAPADDRL.VALUE : Fld := .mk3 0x10818 0 32 0
def SEC.DAPADDRH.VALUE : Fld := .mk3 0x1081c 0 32 0
def SEC.DAPDATA.VALUE : Fld := .mk3 0x10820 0 32 0
def SEC.LCNONCE0.VALUE : Fld := .mk3 0x10824 0 32 0
def SEC.LCNONCE1.VALUE : Fld := .mk3 0x10828 0 32 0
def SEC.LCNONCE2.VALUE : Fld := .mk3 0x1082c 0 32 0
def SEC.LCNONCE3.VALUE : Fld := .mk3 0x10830 0 32 0
def SEC.UNLOCKCNT.VALUE : Fld := .mk3 0x10834 0 32 0
def SEC.TAPID.VALUE : Fld := .mk3 0x10838 0 32 0
def SEC.FUSESTS.READ : Fld := .mk3 0x1083c 0 1 0
def SEC.FUSESTS.FAILED : Fld := .mk3 0x1083c 1 1 0
def SEC.DAPCNT.VALUE : Fld := .mk3 0x10840 0 32 0
def SEC.DAPERRCNT.VALUE : Fld := .mk3 0x10844 0 32 0
def SEC.BSCANSTS.ACTIVE : Fld := .mk3 0x10848 0 1 0
def SEC.DBGCTL.HALT_REQ : Fld := .mk3 0x1084c 0 1 0
def PRIN.CRBL.VALUE (i : Nat) : Fld := .mk3 (0x10100 + 0x20 * i) 0 32 0
def PRIN.CRBH.VALUE (i : Nat) : Fld := .mk3 (0x10104 + 0x20 * i) 0 32 0
def PRIN.CPBL.VALUE (i : Nat) : Fld := .mk3 (0x10108 + 0x20 * i) 0 32 0
def PRIN.CPBH.VALUE (i : Nat) : Fld := .mk3 (0x1010c + 0x20 * i) 0 32 0
def PRIN.RCTL.EN (i : Nat) : Fld := .mk3 (0x10110 + 0x20 * i) 0 1 0
def PRIN.RCTL.SIZE (i : Nat) : Fld := .mk3 (0x10110 + 0x20 * i) 1 4 4
def PRIN.RCTL.PASID_EN (i : Nat) : Fld := .mk3 (0x10110 + 0x20 * i) 5 1 0
def PRIN.RCTL.PASID (i : Nat) : Fld := .mk3 (0x10110 + 0x20 * i) 6 20 0
def PRIN.DB.TAIL (i : Nat) : Fld := .mk3 (0x10114 + 0x20 * i) 0 16 0
def PRIN.DB.EVCI (i : Nat) : Fld := .mk3 (0x10114 + 0x20 * i) 16 16 0
def PRIN.ARES.VALID (i : Nat) : Fld := .mk3 (0x10118 + 0x20 * i) 0 1 0
def PRIN.ARES.STATUS (i : Nat) : Fld := .mk3 (0x10118 + 0x20 * i) 1 3 0
def PRIN.ARES.SEQ (i : Nat) : Fld := .mk3 (0x10118 + 0x20 * i) 4 4 0
def PRIN.ARES.HEAD (i : Nat) : Fld := .mk3 (0x10118 + 0x20 * i) 16 16 0
def FLT.CTL.SCAN_EN : Fld := .mk3 0x20000 0 1 1
def FLT.STS.INJ_DONE0 : Fld := .mk3 0x20004 0 1 0
def FLT.STS.INJ_DONE1 : Fld := .mk3 0x20004 1 1 0
def FLT.STS.INJ_DONE2 : Fld := .mk3 0x20004 2 1 0
def FLT.STS.INJ_DONE3 : Fld := .mk3 0x20004 3 1 0
def FLT.STS.INJ_REJ : Fld := .mk3 0x20004 4 1 0
def FLT.ERRSTS.LOW : Fld := .mk3 0x20008 0 1 0
def FLT.ERRSTS.COUNT : Fld := .mk3 0x20008 1 10 0
def FLT.SCANCNT.VALUE : Fld := .mk3 0x2000c 0 32 0
def ACTIVE.VALUE (i : Nat) : Fld := .mk3 (0x20040 + 4 * i) 0 32 0
def ERRMASK.VALUE (i : Nat) : Fld := .mk3 (0x20100 + 4 * i) 0 32 0
def INJ.CTL.ARM (i : Nat) : Fld := .mk3 (0x20200 + 0x10 * i) 0 1 0
def INJ.CTL.MODE (i : Nat) : Fld := .mk3 (0x20200 + 0x10 * i) 1 1 0
def INJ.CTL.DOUBLE (i : Nat) : Fld := .mk3 (0x20200 + 0x10 * i) 2 1 0
def INJ.CTL.STOP (i : Nat) : Fld := .mk3 (0x20200 + 0x10 * i) 3 1 0
def INJ.CTL.CHK (i : Nat) : Fld := .mk3 (0x20200 + 0x10 * i) 4 4 0
def INJ.TGT.INST (i : Nat) : Fld := .mk3 (0x20204 + 0x10 * i) 0 24 0
def INJ.TGT.PART (i : Nat) : Fld := .mk3 (0x20204 + 0x10 * i) 24 1 0
def INJ.CNT.N (i : Nat) : Fld := .mk3 (0x20208 + 0x10 * i) 0 16 0
def INJ.STS.LEFT (i : Nat) : Fld := .mk3 (0x2020c + 0x10 * i) 0 16 0
def INJ.STS.ARMED (i : Nat) : Fld := .mk3 (0x2020c + 0x10 * i) 16 1 0
def PRS.CTL.GPF_WAIT_US : Fld := .mk3 0x30000 0 13 0x1770
def PRS.CTL.ARMED : Fld := .mk3 0x30000 13 1 0
def PRS.CTL.PAIR_SAVE : Fld := .mk3 0x30000 14 1 1
def PRS.STS.GPF_MISS : Fld := .mk3 0x30004 0 1 0
def PRS.STS.P1_LATE : Fld := .mk3 0x30004 1 1 0
def PRS.STS.HOME_FAIL : Fld := .mk3 0x30004 2 1 0
def PRS.STS.SAVE_FAIL : Fld := .mk3 0x30004 3 1 0
def PRS.STS.RST_NOR : Fld := .mk3 0x30004 4 1 0
def PRS.STS.JRN_ERR : Fld := .mk3 0x30004 5 1 0
def PRS.STS.JRN_LAG : Fld := .mk3 0x30004 6 1 0
def PRS.STS.RESUME : Fld := .mk3 0x30004 7 1 0
def PRS.STS.OVF : Fld := .mk3 0x30004 8 1 0
def PRS.STS.FIRST : Fld := .mk3 0x30004 9 3 0
def PRS.MASK.MASK : Fld := .mk3 0x30008 0 8 0
def PRS.STATE.SEQ : Fld := .mk3 0x3000c 0 4 0
def PRS.STATE.PFAIL : Fld := .mk3 0x3000c 4 1 0
def PRS.STATE.DONE_PIN : Fld := .mk3 0x3000c 5 1 0
def PRS.STATE.SAFE : Fld := .mk3 0x3000c 6 1 0
def PRS.HOMEA.EXT : Fld := .mk3 0x30010 0 16 0
def PRS.HOMEA.SLOT : Fld := .mk3 0x30010 16 7 0
def PRS.HOMEA.VALID : Fld := .mk3 0x30010 23 1 0
def PRS.HOMEB.EXT : Fld := .mk3 0x30014 0 16 0
def PRS.HOMEB.SLOT : Fld := .mk3 0x30014 16 7 0
def PRS.HOMEB.VALID : Fld := .mk3 0x30014 23 1 0
def PRS.PFCFG.FILT : Fld := .mk3 0x30018 0 7 0xa
def PRS.RESULT.DONE : Fld := .mk3 0x3001c 0 1 0
def PRS.RESULT.A_OK : Fld := .mk3 0x3001c 1 1 0
def PRS.RESULT.B_OK : Fld := .mk3 0x3001c 2 1 0
def PRS.RESULT.NOT_ARMED : Fld := .mk3 0x3001c 3 1 0
def PRS.RESULT.P1_LATE : Fld := .mk3 0x3001c 4 1 0
def PRS.RESULT.P2_MISS : Fld := .mk3 0x3001c 5 1 0
def PRS.RESULT.PF_RESTORE : Fld := .mk3 0x3001c 6 1 0
def PRS.RESULT.CAUSE : Fld := .mk3 0x3001c 7 3 0
def PRS.RESULT.MISS_CNT : Fld := .mk3 0x3001c 10 7 0
def PRS.P0T.US : Fld := .mk3 0x30020 0 16 0
def PRS.P1T.US : Fld := .mk3 0x30024 0 16 0
def PRS.P2T.US : Fld := .mk3 0x30028 0 16 0
def PRS.P3T.US : Fld := .mk3 0x3002c 0 16 0
def PRS.P4T.US : Fld := .mk3 0x30030 0 16 0
def PRS.LOSTLINES.VALUE : Fld := .mk3 0x30034 0 32 0
def PRS.GPFOK_L.VALUE : Fld := .mk3 0x30038 0 32 0
def PRS.GPFOK_H.VALUE : Fld := .mk3 0x3003c 0 32 0
def PRS.GPFMISS_L.VALUE : Fld := .mk3 0x30040 0 32 0
def PRS.GPFMISS_H.VALUE : Fld := .mk3 0x30044 0 32 0
def PRS.SAVETIME_L.VALUE : Fld := .mk3 0x30048 0 32 0
def PRS.SAVETIME_H.VALUE : Fld := .mk3 0x3004c 0 32 0
def PRS.CATLEN.BYTES : Fld := .mk3 0x30050 0 24 0
def PRS.SAFECAUSE.OFFSET : Fld := .mk3 0x30054 0 24 0
def PRS.SAFECAUSE.VALID : Fld := .mk3 0x30054 24 1 0
def PRS.RSTSTS.SRC : Fld := .mk3 0x30058 0 2 0
def PRS.RSTSTS.A_WHY : Fld := .mk3 0x30058 2 3 0
def PRS.RSTSTS.B_WHY : Fld := .mk3 0x30058 5 3 0
def PRS.RSTSTS.N_WHY : Fld := .mk3 0x30058 8 3 0
def PRS.RSTSTS.CNT_JUMP : Fld := .mk3 0x30058 11 1 0
def PRS.RSTSTS.PAIR_ADOPT : Fld := .mk3 0x30058 12 1 0
def PRS.RSTTIME.MS : Fld := .mk3 0x3005c 0 16 0
def PRS.CLOST.COUNT : Fld := .mk3 0x30060 0 10 0
def PRS.RSTSEQ_L.VALUE : Fld := .mk3 0x30064 0 32 0
def PRS.RSTSEQ_H.VALUE : Fld := .mk3 0x30068 0 32 0
def PRS.CFGSEQ_L.VALUE : Fld := .mk3 0x3006c 0 32 0
def PRS.CFGSEQ_H.VALUE : Fld := .mk3 0x30070 0 32 0
def PRS.JRNSEQ_L.VALUE : Fld := .mk3 0x30074 0 32 0
def PRS.JRNSEQ_H.VALUE : Fld := .mk3 0x30078 0 32 0
def PRS.JRNSTS.PEND : Fld := .mk3 0x3007c 0 8 0
def PRS.JRNSTS.LAG : Fld := .mk3 0x3007c 8 1 0
def PRS.JRNSTS.BANK : Fld := .mk3 0x3007c 9 1 0
def PRS.JRNSTS.BUSY : Fld := .mk3 0x3007c 10 1 0
def PAIR.CTL.EN : Fld := .mk3 0x40000 0 1 0
def PAIR.CTL.FENCE_EN : Fld := .mk3 0x40000 1 1 0
def PAIR.STS.LOST : Fld := .mk3 0x40004 0 1 0
def PAIR.STS.TAKEOVER : Fld := .mk3 0x40004 1 1 0
def PAIR.STS.YIELD : Fld := .mk3 0x40004 2 1 0
def PAIR.STS.FENCE_ERR : Fld := .mk3 0x40004 3 1 0
def PAIR.STS.CMT_FAIL : Fld := .mk3 0x40004 4 1 0
def PAIR.STS.ROLE_CLASH : Fld := .mk3 0x40004 5 1 0
def PAIR.STS.MIR_RST : Fld := .mk3 0x40004 6 1 0
def PAIR.STS.JOINED : Fld := .mk3 0x40004 7 1 0
def PAIR.STS.OVF : Fld := .mk3 0x40004 8 1 0
def PAIR.STS.FIRST : Fld := .mk3 0x40004 9 3 0
def PAIR.MASK.MASK : Fld := .mk3 0x40008 0 8 0
def PAIR.STATE.PSTATE : Fld := .mk3 0x4000c 0 3 0
def PAIR.STATE.ROLE : Fld := .mk3 0x4000c 3 1 0
def PAIR.STATE.STRAP : Fld := .mk3 0x4000c 4 1 0
def PAIR.FENCE_EXT.EXT : Fld := .mk3 0x40010 0 16 0
def PAIR.FENCE_OFS.OFS : Fld := .mk3 0x40014 0 30 0
def PAIR.HBCNT_L.VALUE : Fld := .mk3 0x40018 0 32 0
def PAIR.HBCNT_H.VALUE : Fld := .mk3 0x4001c 0 32 0
def PAIR.PHBCNT_L.VALUE : Fld := .mk3 0x40020 0 32 0
def PAIR.PHBCNT_H.VALUE : Fld := .mk3 0x40024 0 32 0
def PAIR.COMMIT.STATE : Fld := .mk3 0x40028 0 3 0
def PAIR.COMMIT.MID : Fld := .mk3 0x40028 16 16 0
def PAIR.CMTCNT.VALUE : Fld := .mk3 0x4002c 0 32 0
def PAIR.CMTFAIL.COUNT : Fld := .mk3 0x40030 0 7 0
def PAIR.CMTFAIL.VALID : Fld := .mk3 0x40030 7 1 0
def PAIR.CMTFAIL.OFFSET : Fld := .mk3 0x40030 8 24 0
def PAIR.LOSSTIME_L.VALUE : Fld := .mk3 0x40034 0 32 0
def PAIR.LOSSTIME_H.VALUE : Fld := .mk3 0x40038 0 32 0
def PAIR.DECIDE_T.US : Fld := .mk3 0x4003c 0 16 0
def PAIR.SWITCH_T.US : Fld := .mk3 0x40040 0 16 0
def PAIR.RECALL_T.US : Fld := .mk3 0x40044 0 16 0
def PAIR.TOTAL_T.US : Fld := .mk3 0x40048 0 16 0
def PAIR.SYNCSTS.SOURCE : Fld := .mk3 0x4004c 0 1 0
def PAIR.SYNCSTS.JOINER : Fld := .mk3 0x4004c 1 1 0
def PAIR.SYNCSTS.HANDBACK : Fld := .mk3 0x4004c 2 1 0
def PAIR.SYNC_T.US : Fld := .mk3 0x40050 0 16 0
def PAIR.MIRTX.VALUE : Fld := .mk3 0x40054 0 32 0
def PAIR.MIRRX.VALUE : Fld := .mk3 0x40058 0 32 0
def PAIR.FWDCNT.VALUE : Fld := .mk3 0x4005c 0 32 0
def TLY.CTL.PERIOD_US : Fld := .mk3 0x50000 0 20 0x3e8
def TLY.CTL.SNAP_EN : Fld := .mk3 0x50000 20 1 0
def TLY.STS.SNAP_LOST : Fld := .mk3 0x50004 0 1 0
def TLY.STS.LAND_LOST : Fld := .mk3 0x50004 1 1 0
def TLY.STS.WR_ERR : Fld := .mk3 0x50004 2 1 0
def TLY.STS.CFG_REJ : Fld := .mk3 0x50004 3 1 0
def TLY.STS.OVF : Fld := .mk3 0x50004 4 1 0
def TLY.STS.FIRST : Fld := .mk3 0x50004 5 3 0
def TLY.MASK.MASK : Fld := .mk3 0x50008 0 4 0
def TLY.SNAPCTL.GROUPS : Fld := .mk3 0x5000c 0 4 0
def TLY.SNAPCTL.PRIN : Fld := .mk3 0x5000c 4 3 0
def TLY.SNAPCTL.SIZE : Fld := .mk3 0x5000c 8 4 4
def TLY.SNAPBL.VALUE : Fld := .mk3 0x50010 0 32 0
def TLY.SNAPBH.VALUE : Fld := .mk3 0x50014 0 32 0
def TLY.SNAPIDX.PI : Fld := .mk3 0x50018 0 16 0
def TLY.SNAPIDX.CI : Fld := .mk3 0x50018 16 16 0
def TLY.SNAPSEQ.VALUE : Fld := .mk3 0x5001c 0 32 0
def TLY.SNAPLOST.SKIPPED : Fld := .mk3 0x50020 0 16 0
def TLY.SNAPLOST.DROPPED : Fld := .mk3 0x50020 16 16 0
def TLY.SAMPCTL.EN : Fld := .mk3 0x50024 0 1 1
def TLY.SAMPSTS.VALUE : Fld := .mk3 0x50028 0 32 0
def TLY.CTRERR.NUMBER : Fld := .mk3 0x5002c 0 14 0
def TLY.CTRERR.VALID : Fld := .mk3 0x5002c 14 1 0
def LD.LCTL.EN (i : Nat) : Fld := .mk3 (0x50040 + 0x20 * i) 0 1 0
def LD.LCTL.BUSY (i : Nat) : Fld := .mk3 (0x50040 + 0x20 * i) 1 1 0
def LD.LCTL.DEST (i : Nat) : Fld := .mk3 (0x50040 + 0x20 * i) 2 1 0
def LD.LCTL.PRIN (i : Nat) : Fld := .mk3 (0x50040 + 0x20 * i) 3 3 0
def LD.LCTL.SIZE (i : Nat) : Fld := .mk3 (0x50040 + 0x20 * i) 6 5 6
def LD.LCTL.RATE (i : Nat) : Fld := .mk3 (0x50040 + 0x20 * i) 16 16 0
def LD.LFILT.POINT (i : Nat) : Fld := .mk3 (0x50044 + 0x20 * i) 0 2 1
def LD.LFILT.PORT (i : Nat) : Fld := .mk3 (0x50044 + 0x20 * i) 2 6 0
def LD.LFILT.PORT_ANY (i : Nat) : Fld := .mk3 (0x50044 + 0x20 * i) 8 1 1
def LD.LFILT.CMASK (i : Nat) : Fld := .mk3 (0x50044 + 0x20 * i) 9 5 0x1f
def LD.LFILT.SYS_EN (i : Nat) : Fld := .mk3 (0x50044 + 0x20 * i) 14 1 0
def LD.LSLICE.SLICE (i : Nat) : Fld := .mk3 (0x50048 + 0x20 * i) 0 9 0
def LD.LSLICE.SMASK (i : Nat) : Fld := .mk3 (0x50048 + 0x20 * i) 16 9 0
def LD.LBASEL.VALUE (i : Nat) : Fld := .mk3 (0x5004c + 0x20 * i) 0 32 0
def LD.LBASEH.VALUE (i : Nat) : Fld := .mk3 (0x50050 + 0x20 * i) 0 32 0
def LD.LIDX.PI (i : Nat) : Fld := .mk3 (0x50054 + 0x20 * i) 0 16 0
def LD.LIDX.CI (i : Nat) : Fld := .mk3 (0x50054 + 0x20 * i) 16 16 0
def LD.LDROP.FULL (i : Nat) : Fld := .mk3 (0x50058 + 0x20 * i) 0 16 0
def LD.LDROP.FIFO (i : Nat) : Fld := .mk3 (0x50058 + 0x20 * i) 16 16 0
def DMV.CTL.ACT_MAX : Fld := .mk3 0x60000 0 7 0x20
def DMV.CTL.CE_THRESH : Fld := .mk3 0x60000 8 8 0x10
def DMV.CTL.STALL_US : Fld := .mk3 0x60000 16 10 0x64
def DMV.STS.TQ_HALT : Fld := .mk3 0x60004 0 1 0
def DMV.STS.SQ_HALT : Fld := .mk3 0x60004 1 1 0
def DMV.STS.FETCH_ERR : Fld := .mk3 0x60004 2 1 0
def DMV.STS.CPL_ERR : Fld := .mk3 0x60004 3 1 0
def DMV.STS.TMO : Fld := .mk3 0x60004 4 1 0
def DMV.STS.POISON : Fld := .mk3 0x60004 5 1 0
def DMV.STS.RB_FAIL : Fld := .mk3 0x60004 6 1 0
def DMV.STS.VERIFY : Fld := .mk3 0x60004 7 1 0
def DMV.STS.SCRUB_BAD : Fld := .mk3 0x60004 8 1 0
def DMV.STS.ADM_STALL : Fld := .mk3 0x60004 9 1 0
def DMV.STS.GDISC : Fld := .mk3 0x60004 10 1 0
def DMV.STS.CFG_REJ : Fld := .mk3 0x60004 11 1 0
def DMV.STS.CE_OVER : Fld := .mk3 0x60004 12 1 0
def DMV.STS.UE : Fld := .mk3 0x60004 13 1 0
def DMV.STS.ABORT_DONE : Fld := .mk3 0x60004 14 1 0
def DMV.STS.OVF : Fld := .mk3 0x60004 15 1 0
def DMV.STS.FIRST : Fld := .mk3 0x60004 16 4 0
def DMV.STS.CE_CNT : Fld := .mk3 0x60004 20 8 0
def DMV.MASK.MASK : Fld := .mk3 0x60008 0 15 0
def DMV.ERRQ.QUEUE : Fld := .mk3 0x6000c 0 11 0
def DMV.ERRQ.STATUS : Fld := .mk3 0x6000c 11 8 0
def DMV.ERRQ.VALID : Fld := .mk3 0x6000c 19 1 0
def DMV.ACTIVE.DESCS : Fld := .mk3 0x60010 0 7 0
def DMV.ACTIVE.BURSTS : Fld := .mk3 0x60010 8 7 0
def DMV.ACTIVE.READY : Fld := .mk3 0x60010 16 11 0
def DMV.TMRFIRE.FIRED : Fld := .mk3 0x60014 0 16 0
def DMV.SQOWN0.OWN : Fld := .mk3 0x60018 0 32 0x8888ffff
def DMV.SQOWN1.OWN : Fld := .mk3 0x6001c 0 32 0x88888888
def DMV.DESCCNT.VALUE : Fld := .mk3 0x60020 0 32 0
def DMV.ERRCNT.VALUE : Fld := .mk3 0x60024 0 32 0
def DMV.ABTCNT.VALUE : Fld := .mk3 0x60028 0 32 0
def DMV.DISCCNT.VALUE : Fld := .mk3 0x6002c 0 32 0
def DMV.BYTESL.VALUE : Fld := .mk3 0x60030 0 32 0
def DMV.BYTESH.VALUE : Fld := .mk3 0x60034 0 32 0
def DMV.BURSTCNT.VALUE : Fld := .mk3 0x60038 0 32 0
def DMV.ADMWAIT.VALUE : Fld := .mk3 0x6003c 0 32 0
def TMR.BASEL.VALUE (i : Nat) : Fld := .mk3 (0x60100 + 0x10 * i) 0 32 0
def TMR.BASEH.VALUE (i : Nat) : Fld := .mk3 (0x60104 + 0x10 * i) 0 32 0
def TMR.CFG.PERIOD (i : Nat) : Fld := .mk3 (0x60108 + 0x10 * i) 0 20 0x3e8
def TMR.CFG.OWNER (i : Nat) : Fld := .mk3 (0x60108 + 0x10 * i) 20 10 0x3ff
def TMR.CFG.EN (i : Nat) : Fld := .mk3 (0x60108 + 0x10 * i) 30 1 0
def TMR.CFG.ONESHOT (i : Nat) : Fld := .mk3 (0x60108 + 0x10 * i) 31 1 0
def TEN.CTL.DRAIN_MS : Fld := .mk3 0x70000 0 7 0x14
def TEN.EXTSTS.SCRUB_CNT : Fld := .mk3 0x70004 0 17 0
def TEN.EXTBAD.BAD_CNT : Fld := .mk3 0x70008 0 17 0
def TEN.LASTBAD.EXT : Fld := .mk3 0x7000c 0 16 0
def TEN.LASTBAD.VALID : Fld := .mk3 0x7000c 16 1 0
def TEN.PVSTS.VIO : Fld := .mk3 0x70010 0 1 0
def TEN.PVSTS.OVF : Fld := .mk3 0x70010 1 1 0
def TEN.PVSTS.MASK : Fld := .mk3 0x70010 2 1 0
def TEN.PVSTS.CNT : Fld := .mk3 0x70010 16 16 0
def TEN.PVADDRL.VALUE : Fld := .mk3 0x70014 0 32 0
def TEN.PVADDRH.VALUE : Fld := .mk3 0x70018 0 20 0
def TEN.PVINFO.SLICE : Fld := .mk3 0x7001c 0 9 0
def TEN.PVINFO.PORT : Fld := .mk3 0x7001c 9 6 0
def TEN.PVINFO.SRC : Fld := .mk3 0x7001c 15 3 0
def TEN.PVINFO.KIND : Fld := .mk3 0x7001c 18 3 0
def TEN.PVINFO.RULE : Fld := .mk3 0x7001c 21 3 0
def TEN.PVINFO.RULE_HIT : Fld := .mk3 0x7001c 24 1 0
def TEN.PVINFO.SPLIT : Fld := .mk3 0x7001c 25 1 0
def TEN.PVINFO.DB : Fld := .mk3 0x7001c 26 1 0
def TEN.DBG_PVSTS.VIO : Fld := .mk3 0x70020 0 1 0
def TEN.DBG_PVSTS.OVF : Fld := .mk3 0x70020 1 1 0
def TEN.DBG_PVSTS.MASK : Fld := .mk3 0x70020 2 1 0
def TEN.DBG_PVSTS.CNT : Fld := .mk3 0x70020 16 16 0
def TEN.DBG_PVADDRL.VALUE : Fld := .mk3 0x70024 0 32 0
def TEN.DBG_PVADDRH.VALUE : Fld := .mk3 0x70028 0 20 0
def TEN.DBG_PVINFO.SLICE : Fld := .mk3 0x7002c 0 9 0
def TEN.DBG_PVINFO.PORT : Fld := .mk3 0x7002c 9 6 0
def TEN.DBG_PVINFO.SRC : Fld := .mk3 0x7002c 15 3 0
def TEN.DBG_PVINFO.KIND : Fld := .mk3 0x7002c 18 3 0
def TEN.DBG_PVINFO.RULE : Fld := .mk3 0x7002c 21 3 0
def TEN.DBG_PVINFO.RULE_HIT : Fld := .mk3 0x7002c 24 1 0
def TEN.DBG_PVINFO.SPLIT : Fld := .mk3 0x7002c 25 1 0
def TEN.DBG_PVINFO.DB : Fld := .mk3 0x7002c 26 1 0
def TEN.SLCCNT.COUNT : Fld := .mk3 0x700b0 0 10 0
def TEN.MAPPED.COUNT : Fld := .mk3 0x700b4 0 17 0
def TEN.FREEEXT.COUNT : Fld := .mk3 0x700b8 0 17 0
def TEN.GDISC.VALUE : Fld := .mk3 0x700bc 0 32 0
def BOUND.VALUE (i : Nat) : Fld := .mk3 (0x70030 + 4 * i) 0 32 0
def CLOSTR.VALUE (i : Nat) : Fld := .mk3 (0x70070 + 4 * i) 0 32 0
def NOC.CTL.QUIESCE (i : Nat) : Fld := .mk3 (0x80000 + 0x100 * i) 0 1 0
def NOC.CTL.E2E_GEN (i : Nat) : Fld := .mk3 (0x80000 + 0x100 * i) 1 1 0
def NOC.CTL.LOCAL_EN (i : Nat) : Fld := .mk3 (0x80000 + 0x100 * i) 2 2 3
def NOC.CTL.EVT_MASK (i : Nat) : Fld := .mk3 (0x80000 + 0x100 * i) 16 7 0
def NOC.CTL.CE_THRESH (i : Nat) : Fld := .mk3 (0x80000 + 0x100 * i) 24 8 0x10
def NOC.STS.QUIESCED (i : Nat) : Fld := .mk3 (0x80004 + 0x100 * i) 0 1 0
def NOC.STS.WAKE_HOLD (i : Nat) : Fld := .mk3 (0x80004 + 0x100 * i) 1 1 0
def NOC.STS.UE (i : Nat) : Fld := .mk3 (0x80004 + 0x100 * i) 2 1 0
def NOC.STS.STALL (i : Nat) : Fld := .mk3 (0x80004 + 0x100 * i) 3 1 0
def NOC.STS.WAKE_FAIL (i : Nat) : Fld := .mk3 (0x80004 + 0x100 * i) 4 1 0
def NOC.STS.CRC_FAIL (i : Nat) : Fld := .mk3 (0x80004 + 0x100 * i) 5 1 0
def NOC.STS.SRC_TMO (i : Nat) : Fld := .mk3 (0x80004 + 0x100 * i) 6 1 0
def NOC.STS.CFG_REJ (i : Nat) : Fld := .mk3 (0x80004 + 0x100 * i) 7 1 0
def NOC.STS.OVF (i : Nat) : Fld := .mk3 (0x80004 + 0x100 * i) 8 1 0
def NOC.STS.FIRST (i : Nat) : Fld := .mk3 (0x80004 + 0x100 * i) 9 3 0
def NOC.STS.CE_OVER (i : Nat) : Fld := .mk3 (0x80004 + 0x100 * i) 12 1 0
def NOC.STS.CE_CNT (i : Nat) : Fld := .mk3 (0x80004 + 0x100 * i) 16 8 0
def SLT.CTL.EN (i : Nat) : Fld := .mk3 (0x90000 + 0x100 * i) 0 1 0
def SLT.CTL.AUTO_OFF (i : Nat) : Fld := .mk3 (0x90000 + 0x100 * i) 1 1 0
def SLT.CTL.RETRIES (i : Nat) : Fld := .mk3 (0x90000 + 0x100 * i) 2 3 3
def SLT.CTL.RETRY_DLY (i : Nat) : Fld := .mk3 (0x90000 + 0x100 * i) 5 3 3
def SLT.CTL.SLEW (i : Nat) : Fld := .mk3 (0x90000 + 0x100 * i) 8 3 2
def SLT.CTL.FAULT_TIME (i : Nat) : Fld := .mk3 (0x90000 + 0x100 * i) 11 3 3
def SLT.CTL.INS_DLY (i : Nat) : Fld := .mk3 (0x90000 + 0x100 * i) 14 3 3
def SLT.CTL.PG_DLY (i : Nat) : Fld := .mk3 (0x90000 + 0x100 * i) 17 3 2
def SLT.CTL.SHUNT (i : Nat) : Fld := .mk3 (0x90000 + 0x100 * i) 20 3 3
def SLT.LIM.ILIM (i : Nat) : Fld := .mk3 (0x90004 + 0x100 * i) 0 14 0x1f40
def SLT.LIM.UV_TH (i : Nat) : Fld := .mk3 (0x90004 + 0x100 * i) 16 8 0x6c
def SLT.LIM.OV_TH (i : Nat) : Fld := .mk3 (0x90004 + 0x100 * i) 24 8 0x84
def SLT.STS.FAST_TRIP (i : Nat) : Fld := .mk3 (0x90008 + 0x100 * i) 0 1 0
def SLT.STS.TIMED_TRIP (i : Nat) : Fld := .mk3 (0x90008 + 0x100 * i) 1 1 0
def SLT.STS.RAMP_FAIL (i : Nat) : Fld := .mk3 (0x90008 + 0x100 * i) 2 1 0
def SLT.STS.LATCHED (i : Nat) : Fld := .mk3 (0x90008 + 0x100 * i) 3 1 0
def SLT.STS.UV (i : Nat) : Fld := .mk3 (0x90008 + 0x100 * i) 4 1 0
def SLT.STS.OV (i : Nat) : Fld := .mk3 (0x90008 + 0x100 * i) 5 1 0
def SLT.STS.NOLOAD (i : Nat) : Fld := .mk3 (0x90008 + 0x100 * i) 6 1 0
def SLT.STS.CFG_REJ (i : Nat) : Fld := .mk3 (0x90008 + 0x100 * i) 7 1 0
def SLT.STS.PG_ON (i : Nat) : Fld := .mk3 (0x90008 + 0x100 * i) 8 1 0
def SLT.STS.PG_OFF (i : Nat) : Fld := .mk3 (0x90008 + 0x100 * i) 9 1 0
def SLT.STS.OVF (i : Nat) : Fld := .mk3 (0x90008 + 0x100 * i) 10 1 0
def SLT.STS.FIRST (i : Nat) : Fld := .mk3 (0x90008 + 0x100 * i) 11 4 0
def SLT.STS.STATE (i : Nat) : Fld := .mk3 (0x90008 + 0x100 * i) 15 3 0
def SLT.STS.TRIES (i : Nat) : Fld := .mk3 (0x90008 + 0x100 * i) 18 3 0
def SLT.STS.PG (i : Nat) : Fld := .mk3 (0x90008 + 0x100 * i) 21 1 0
def SLT.MASK.MASK (i : Nat) : Fld := .mk3 (0x9000c + 0x100 * i) 0 10 0
def SLT.MEAS.IOUT (i : Nat) : Fld := .mk3 (0x90010 + 0x100 * i) 0 16 0
def SLT.MEAS.VOUT (i : Nat) : Fld := .mk3 (0x90010 + 0x100 * i) 16 16 0
def SLT.PWR.POUT (i : Nat) : Fld := .mk3 (0x90014 + 0x100 * i) 0 20 0
def SLT.PWR.VIN (i : Nat) : Fld := .mk3 (0x90014 + 0x100 * i) 20 12 0
def SLT.ENL.VALUE (i : Nat) : Fld := .mk3 (0x90018 + 0x100 * i) 0 32 0
def SLT.ENH.VALUE (i : Nat) : Fld := .mk3 (0x9001c + 0x100 * i) 0 32 0
def PU.CFG.ROLE (i : Nat) : Fld := .mk3 (0x100000 + 0x1000 * i) 0 3 0
def PU.CFG.WIDTH (i : Nat) : Fld := .mk3 (0x100000 + 0x1000 * i) 3 2 0
def PU.CFG.MAX_RATE (i : Nat) : Fld := .mk3 (0x100000 + 0x1000 * i) 5 3 5
def PU.CFG.XCOMPAT (i : Nat) : Fld := .mk3 (0x100000 + 0x1000 * i) 8 1 0
def PU.CFG.XBYP (i : Nat) : Fld := .mk3 (0x100000 + 0x1000 * i) 9 1 0
def PU.CFG.FLIT68 (i : Nat) : Fld := .mk3 (0x100000 + 0x1000 * i) 10 1 0
def PU.CFG.LOPT (i : Nat) : Fld := .mk3 (0x100000 + 0x1000 * i) 11 1 0
def PU.CFG.LREV_EN (i : Nat) : Fld := .mk3 (0x100000 + 0x1000 * i) 12 1 0
def PU.CFG.EQ_BYP (i : Nat) : Fld := .mk3 (0x100000 + 0x1000 * i) 13 1 0
def PU.CFG.SLOT (i : Nat) : Fld := .mk3 (0x100000 + 0x1000 * i) 14 5 0
def PU.CFG.SLOT_EN (i : Nat) : Fld := .mk3 (0x100000 + 0x1000 * i) 19 1 0
def PU.CFG.IDE_REQ (i : Nat) : Fld := .mk3 (0x100000 + 0x1000 * i) 20 1 0
def PU.LNKCTL.ENABLE (i : Nat) : Fld := .mk3 (0x100004 + 0x1000 * i) 0 1 0
def PU.LNKCTL.RETRAIN (i : Nat) : Fld := .mk3 (0x100004 + 0x1000 * i) 1 1 0
def PU.LNKCTL.DIAG (i : Nat) : Fld := .mk3 (0x100004 + 0x1000 * i) 2 1 0
def PU.LNKCTL.LOCK_LOSS_US (i : Nat) : Fld := .mk3 (0x100004 + 0x1000 * i) 8 10 0x14
def PU.LNKSTS.SYMLOCK (i : Nat) : Fld := .mk3 (0x100008 + 0x1000 * i) 0 4 0
def PU.LNKSTS.LANEFAIL (i : Nat) : Fld := .mk3 (0x100008 + 0x1000 * i) 4 4 0
def PU.LNKSTS.STATE (i : Nat) : Fld := .mk3 (0x100008 + 0x1000 * i) 8 3 0
def PU.LNKSTS.RATE (i : Nat) : Fld := .mk3 (0x100008 + 0x1000 * i) 11 3 0
def PU.LNKSTS.LWIDTH (i : Nat) : Fld := .mk3 (0x100008 + 0x1000 * i) 14 3 0
def PU.LNKSTS.PM (i : Nat) : Fld := .mk3 (0x100008 + 0x1000 * i) 17 2 0
def PU.LNKSTS.FLIT (i : Nat) : Fld := .mk3 (0x100008 + 0x1000 * i) 19 2 0
def PU.LNKSTS.IDE_ACT (i : Nat) : Fld := .mk3 (0x100008 + 0x1000 * i) 21 1 0
def PU.LNKSTS.REVERSED (i : Nat) : Fld := .mk3 (0x100008 + 0x1000 * i) 22 1 0
def PU.LNKSTS.LNKDN_CNT (i : Nat) : Fld := .mk3 (0x100008 + 0x1000 * i) 24 8 0
def PU.PMCTL.L1_EN (i : Nat) : Fld := .mk3 (0x10000c + 0x1000 * i) 0 1 0
def PU.PMCTL.DORMANT_EN (i : Nat) : Fld := .mk3 (0x10000c + 0x1000 * i) 1 1 0
def PU.PMCTL.L0P_WIDTH (i : Nat) : Fld := .mk3 (0x10000c + 0x1000 * i) 2 3 0
def PU.PMCTL.L0P_DORMANT (i : Nat) : Fld := .mk3 (0x10000c + 0x1000 * i) 5 1 0
def PU.PMCTL.L1_IDLE (i : Nat) : Fld := .mk3 (0x10000c + 0x1000 * i) 8 8 0xa
def PU.EQCTL.PRE (i : Nat) : Fld := .mk3 (0x100010 + 0x1000 * i) 0 16 0x4444
def PU.EQCTL.XPRE (i : Nat) : Fld := .mk3 (0x100010 + 0x1000 * i) 16 3 3
def PU.EQCTL.FIXED (i : Nat) : Fld := .mk3 (0x100010 + 0x1000 * i) 19 1 0
def PU.EQSTS.DONE (i : Nat) : Fld := .mk3 (0x100014 + 0x1000 * i) 0 5 0
def PU.EQSTS.FAILED (i : Nat) : Fld := .mk3 (0x100014 + 0x1000 * i) 5 5 0
def PU.EQSTS.PRESET (i : Nat) : Fld := .mk3 (0x100014 + 0x1000 * i) 10 4 0
def PU.ERRSTS.LINK_UP (i : Nat) : Fld := .mk3 (0x100018 + 0x1000 * i) 0 1 0
def PU.ERRSTS.LINK_DOWN (i : Nat) : Fld := .mk3 (0x100018 + 0x1000 * i) 1 1 0
def PU.ERRSTS.LANE_FAIL (i : Nat) : Fld := .mk3 (0x100018 + 0x1000 * i) 2 1 0
def PU.ERRSTS.EQ_FAIL (i : Nat) : Fld := .mk3 (0x100018 + 0x1000 * i) 3 1 0
def PU.ERRSTS.TYPE_UNSUP (i : Nat) : Fld := .mk3 (0x100018 + 0x1000 * i) 4 1 0
def PU.ERRSTS.CFG_REJ (i : Nat) : Fld := .mk3 (0x100018 + 0x1000 * i) 5 1 0
def PU.ERRSTS.RPLY_OVER (i : Nat) : Fld := .mk3 (0x100018 + 0x1000 * i) 6 1 0
def PU.ERRSTS.CRC_OVER (i : Nat) : Fld := .mk3 (0x100018 + 0x1000 * i) 7 1 0
def PU.ERRSTS.IDE_FAIL (i : Nat) : Fld := .mk3 (0x100018 + 0x1000 * i) 8 1 0
def PU.ERRSTS.IDE_KEY (i : Nat) : Fld := .mk3 (0x100018 + 0x1000 * i) 9 1 0
def PU.ERRSTS.OVF (i : Nat) : Fld := .mk3 (0x100018 + 0x1000 * i) 10 1 0
def PU.ERRSTS.FIRST (i : Nat) : Fld := .mk3 (0x100018 + 0x1000 * i) 11 4 0
def PU.ERRSTS.DOWN_CAUSE (i : Nat) : Fld := .mk3 (0x100018 + 0x1000 * i) 16 3 0
def PU.EVTMASK.MASK (i : Nat) : Fld := .mk3 (0x10001c + 0x1000 * i) 0 10 0
def PU.RPLYCNT.CNT (i : Nat) : Fld := .mk3 (0x100020 + 0x1000 * i) 0 16 0
def PU.RPLYCNT.THRESH (i : Nat) : Fld := .mk3 (0x100020 + 0x1000 * i) 16 16 0x100
def PU.CRCCNT.CNT (i : Nat) : Fld := .mk3 (0x100024 + 0x1000 * i) 0 16 0
def PU.CRCCNT.THRESH (i : Nat) : Fld := .mk3 (0x100024 + 0x1000 * i) 16 16 0x100
def PU.IDECTL.CONTAIN (i : Nat) : Fld := .mk3 (0x100028 + 0x1000 * i) 0 1 0
def PU.IDECTL.CM_EN (i : Nat) : Fld := .mk3 (0x100028 + 0x1000 * i) 1 1 0
def PU.IDECTL.IO_EN (i : Nat) : Fld := .mk3 (0x100028 + 0x1000 * i) 2 1 0
def PU.IDESTS.CM_SEC (i : Nat) : Fld := .mk3 (0x10002c + 0x1000 * i) 0 1 0
def PU.IDESTS.IO_SEC (i : Nat) : Fld := .mk3 (0x10002c + 0x1000 * i) 1 1 0
def PU.IDESTS.CM_TX (i : Nat) : Fld := .mk3 (0x10002c + 0x1000 * i) 2 1 0
def PU.IDESTS.CM_RX (i : Nat) : Fld := .mk3 (0x10002c + 0x1000 * i) 3 1 0
def PU.IDESTS.IO_TX (i : Nat) : Fld := .mk3 (0x10002c + 0x1000 * i) 4 1 0
def PU.IDESTS.IO_RX (i : Nat) : Fld := .mk3 (0x10002c + 0x1000 * i) 5 1 0
def PU.PRBSCTL.RUN (i : Nat) : Fld := .mk3 (0x100030 + 0x1000 * i) 0 1 0
def PU.PRBSCTL.PATTERN (i : Nat) : Fld := .mk3 (0x100030 + 0x1000 * i) 1 3 0
def PU.PRBSCTL.RATE (i : Nat) : Fld := .mk3 (0x100030 + 0x1000 * i) 4 3 0
def PU.PRBSCTL.LOCKED (i : Nat) : Fld := .mk3 (0x100030 + 0x1000 * i) 8 4 0
def PU.PRBSCNT01.CNT_LO (i : Nat) : Fld := .mk3 (0x100034 + 0x1000 * i) 0 16 0
def PU.PRBSCNT01.CNT_HI (i : Nat) : Fld := .mk3 (0x100034 + 0x1000 * i) 16 16 0
def PU.PRBSCNT23.CNT_LO (i : Nat) : Fld := .mk3 (0x100038 + 0x1000 * i) 0 16 0
def PU.PRBSCNT23.CNT_HI (i : Nat) : Fld := .mk3 (0x100038 + 0x1000 * i) 16 16 0
def PU.EYECTL.START (i : Nat) : Fld := .mk3 (0x10003c + 0x1000 * i) 0 1 0
def PU.EYECTL.LANE (i : Nat) : Fld := .mk3 (0x10003c + 0x1000 * i) 1 2 0
def PU.EYECTL.EYE (i : Nat) : Fld := .mk3 (0x10003c + 0x1000 * i) 3 2 1
def PU.EYECTL.DWELL (i : Nat) : Fld := .mk3 (0x10003c + 0x1000 * i) 5 8 1
def PU.EYERES.LEFT (i : Nat) : Fld := .mk3 (0x100040 + 0x1000 * i) 0 6 0
def PU.EYERES.RIGHT (i : Nat) : Fld := .mk3 (0x100040 + 0x1000 * i) 6 6 0
def PU.EYERES.UP (i : Nat) : Fld := .mk3 (0x100040 + 0x1000 * i) 12 6 0
def PU.EYERES.DOWN (i : Nat) : Fld := .mk3 (0x100040 + 0x1000 * i) 18 6 0
def PU.EYERES.VALID (i : Nat) : Fld := .mk3 (0x100040 + 0x1000 * i) 24 1 0
def PU.EYERES.ABORT (i : Nat) : Fld := .mk3 (0x100040 + 0x1000 * i) 25 1 0
def PU.EPOCH.EPOCH (i : Nat) : Fld := .mk3 (0x100044 + 0x1000 * i) 0 8 0
def PU.EPOCH.HOLD_US (i : Nat) : Fld := .mk3 (0x100044 + 0x1000 * i) 8 13 0x32
def PU.EPOCH.HOLD_ACT (i : Nat) : Fld := .mk3 (0x100044 + 0x1000 * i) 21 1 0
def PU.EPOCH.LATE_CNT (i : Nat) : Fld := .mk3 (0x100044 + 0x1000 * i) 22 10 0
def ST.PWRCTL.GATE (i : Nat) : Fld := .mk3 (0x180000 + 0x1000 * i) 0 1 0
def ST.PWRCTL.GATED (i : Nat) : Fld := .mk3 (0x180000 + 0x1000 * i) 1 1 0
def ST.PWRCTL.WOKE (i : Nat) : Fld := .mk3 (0x180000 + 0x1000 * i) 2 1 0
def ST.PWRCTL.GATE_REJ (i : Nat) : Fld := .mk3 (0x180000 + 0x1000 * i) 3 1 0
def ST.WAKECNT.COUNT (i : Nat) : Fld := .mk3 (0x180004 + 0x1000 * i) 0 16 0
def ST.LANEPWR.LANES (i : Nat) : Fld := .mk3 (0x180008 + 0x1000 * i) 0 16 0
def ST.RCALSTS.DONE (i : Nat) : Fld := .mk3 (0x18000c + 0x1000 * i) 0 1 0
def ST.RCALSTS.OOR (i : Nat) : Fld := .mk3 (0x18000c + 0x1000 * i) 1 1 0
def ST.RCALSTS.CODE (i : Nat) : Fld := .mk3 (0x18000c + 0x1000 * i) 8 6 0
def ST.PVSTS.VIO (i : Nat) : Fld := .mk3 (0x180040 + 0x1000 * i) 0 1 0
def ST.PVSTS.OVF (i : Nat) : Fld := .mk3 (0x180040 + 0x1000 * i) 1 1 0
def ST.PVSTS.MASK (i : Nat) : Fld := .mk3 (0x180040 + 0x1000 * i) 2 1 0
def ST.PVSTS.CNT (i : Nat) : Fld := .mk3 (0x180040 + 0x1000 * i) 16 16 0
def ST.PVADDRL.VALUE (i : Nat) : Fld := .mk3 (0x180044 + 0x1000 * i) 0 32 0
def ST.PVADDRH.VALUE (i : Nat) : Fld := .mk3 (0x180048 + 0x1000 * i) 0 20 0
def ST.PVINFO.SLICE (i : Nat) : Fld := .mk3 (0x18004c + 0x1000 * i) 0 9 0
def ST.PVINFO.PORT (i : Nat) : Fld := .mk3 (0x18004c + 0x1000 * i) 9 6 0
def ST.PVINFO.SRC (i : Nat) : Fld := .mk3 (0x18004c + 0x1000 * i) 15 3 0
def ST.PVINFO.KIND (i : Nat) : Fld := .mk3 (0x18004c + 0x1000 * i) 18 3 0
def ST.PVINFO.RULE (i : Nat) : Fld := .mk3 (0x18004c + 0x1000 * i) 21 3 0
def ST.PVINFO.RULE_HIT (i : Nat) : Fld := .mk3 (0x18004c + 0x1000 * i) 24 1 0
def ST.PVINFO.SPLIT (i : Nat) : Fld := .mk3 (0x18004c + 0x1000 * i) 25 1 0
def ST.PVINFO.DB (i : Nat) : Fld := .mk3 (0x18004c + 0x1000 * i) 26 1 0
def ST.XCTL.RPLY_TMO (i : Nat) : Fld := .mk3 (0x180060 + 0x1000 * i) 0 8 0x14
def ST.XCTL.RPLY_MAX (i : Nat) : Fld := .mk3 (0x180060 + 0x1000 * i) 8 4 4
def ST.XCTL.CR_POOL (i : Nat) : Fld := .mk3 (0x180060 + 0x1000 * i) 12 10 0xc0
def ST.XCTL.CR_MIN (i : Nat) : Fld := .mk3 (0x180060 + 0x1000 * i) 22 6 0x10
def ST.XSTS.PEER_BAD (i : Nat) : Fld := .mk3 (0x180064 + 0x1000 * i) 0 1 0
def ST.XSTS.PEER_RST (i : Nat) : Fld := .mk3 (0x180064 + 0x1000 * i) 1 1 0
def ST.XSTS.RPLY_EXH (i : Nat) : Fld := .mk3 (0x180064 + 0x1000 * i) 2 1 0
def ST.XSTS.STOMP_RX (i : Nat) : Fld := .mk3 (0x180064 + 0x1000 * i) 3 1 0
def ST.XSTS.CR_ERR (i : Nat) : Fld := .mk3 (0x180064 + 0x1000 * i) 4 1 0
def ST.XSTS.UNMAPPED (i : Nat) : Fld := .mk3 (0x180064 + 0x1000 * i) 5 1 0
def ST.XSTS.CFG_REJ (i : Nat) : Fld := .mk3 (0x180064 + 0x1000 * i) 6 1 0
def ST.XSTS.OVF (i : Nat) : Fld := .mk3 (0x180064 + 0x1000 * i) 7 1 0
def ST.XSTS.FIRST (i : Nat) : Fld := .mk3 (0x180064 + 0x1000 * i) 8 3 0
def ST.XSTS.PU (i : Nat) : Fld := .mk3 (0x180064 + 0x1000 * i) 11 6 0
def ST.XMASK.MASK (i : Nat) : Fld := .mk3 (0x180068 + 0x1000 * i) 0 7 0
def ST.XCNT.DUP_CNT (i : Nat) : Fld := .mk3 (0x18006c + 0x1000 * i) 0 16 0
def ST.XCNT.STOMP_CNT (i : Nat) : Fld := .mk3 (0x18006c + 0x1000 * i) 16 16 0
def CP.BUFCTL.SAF (i : Nat) : Fld := .mk3 (0x1c0000 + 0x4000 * i) 0 16 0
def CP.BUFCTL.CE_THRESH (i : Nat) : Fld := .mk3 (0x1c0000 + 0x4000 * i) 16 8 0x10
def CP.BUFSTS.UE (i : Nat) : Fld := .mk3 (0x1c0004 + 0x4000 * i) 0 1 0
def CP.BUFSTS.CE_OVER (i : Nat) : Fld := .mk3 (0x1c0004 + 0x4000 * i) 1 1 0
def CP.BUFSTS.NOCELL (i : Nat) : Fld := .mk3 (0x1c0004 + 0x4000 * i) 2 1 0
def CP.BUFSTS.CTF (i : Nat) : Fld := .mk3 (0x1c0004 + 0x4000 * i) 3 1 0
def CP.BUFSTS.HOLD_EXP (i : Nat) : Fld := .mk3 (0x1c0004 + 0x4000 * i) 4 1 0
def CP.BUFSTS.LATE (i : Nat) : Fld := .mk3 (0x1c0004 + 0x4000 * i) 5 1 0
def CP.BUFSTS.OVF (i : Nat) : Fld := .mk3 (0x1c0004 + 0x4000 * i) 6 1 0
def CP.BUFSTS.FIRST (i : Nat) : Fld := .mk3 (0x1c0004 + 0x4000 * i) 7 3 0
def CP.BUFSTS.CE_CNT (i : Nat) : Fld := .mk3 (0x1c0004 + 0x4000 * i) 16 8 0
def CP.BUFMASK.MASK (i : Nat) : Fld := .mk3 (0x1c0008 + 0x4000 * i) 0 6 0
def CP.FREECNT.FREE (i : Nat) : Fld := .mk3 (0x1c000c + 0x4000 * i) 0 17 0x10000
def CP.CTFCNT.CTF_CNT (i : Nat) : Fld := .mk3 (0x1c0010 + 0x4000 * i) 0 16 0
def CP.CTFCNT.ERRCPL_CNT (i : Nat) : Fld := .mk3 (0x1c0010 + 0x4000 * i) 16 16 0
def CP.POOLCFG.SLICE_CAP (i : Nat) : Fld := .mk3 (0x1c0014 + 0x4000 * i) 0 18 0x2000
def CP.POOLSTS.POOL_FREE (i : Nat) : Fld := .mk3 (0x1c0018 + 0x4000 * i) 0 18 0x3f000
def CP.POOLSTS.CFG_REJ (i : Nat) : Fld := .mk3 (0x1c0018 + 0x4000 * i) 18 1 0
def CP.SCHCTL.STARVE_US (i : Nat) : Fld := .mk3 (0x1c001c + 0x4000 * i) 0 16 0x3e8
def CP.SCHSTS.GCL_REJ (i : Nat) : Fld := .mk3 (0x1c0020 + 0x4000 * i) 0 1 0
def CP.SCHSTS.STARVE (i : Nat) : Fld := .mk3 (0x1c0020 + 0x4000 * i) 1 1 0
def CP.SCHSTS.OVF (i : Nat) : Fld := .mk3 (0x1c0020 + 0x4000 * i) 2 1 0
def CP.SCHSTS.FIRST (i : Nat) : Fld := .mk3 (0x1c0020 + 0x4000 * i) 3 2 0
def CP.SCHMASK.MASK (i : Nat) : Fld := .mk3 (0x1c0024 + 0x4000 * i) 0 2 0
def CP.STARVEQ.PORT (i : Nat) : Fld := .mk3 (0x1c0028 + 0x4000 * i) 0 6 0
def CP.STARVEQ.SLICE (i : Nat) : Fld := .mk3 (0x1c0028 + 0x4000 * i) 6 9 0
def CP.STARVEQ.CLASS (i : Nat) : Fld := .mk3 (0x1c0028 + 0x4000 * i) 15 2 0
def CP.STARVEQ.VALID (i : Nat) : Fld := .mk3 (0x1c0028 + 0x4000 * i) 17 1 0
def CP.SCPCNT.VALUE (i : Nat) : Fld := .mk3 (0x1c002c + 0x4000 * i) 0 32 0
def CP.BKFREE0.LO (i : Nat) : Fld := .mk3 (0x1c0030 + 0x4000 * i) 0 13 0x1000
def CP.BKFREE0.HI (i : Nat) : Fld := .mk3 (0x1c0030 + 0x4000 * i) 16 13 0x1000
def CP.BKFREE1.LO (i : Nat) : Fld := .mk3 (0x1c0034 + 0x4000 * i) 0 13 0x1000
def CP.BKFREE1.HI (i : Nat) : Fld := .mk3 (0x1c0034 + 0x4000 * i) 16 13 0x1000
def CP.BKFREE2.LO (i : Nat) : Fld := .mk3 (0x1c0038 + 0x4000 * i) 0 13 0x1000
def CP.BKFREE2.HI (i : Nat) : Fld := .mk3 (0x1c0038 + 0x4000 * i) 16 13 0x1000
def CP.BKFREE3.LO (i : Nat) : Fld := .mk3 (0x1c003c + 0x4000 * i) 0 13 0x1000
def CP.BKFREE3.HI (i : Nat) : Fld := .mk3 (0x1c003c + 0x4000 * i) 16 13 0x1000
def CP.BKFREE4.LO (i : Nat) : Fld := .mk3 (0x1c0040 + 0x4000 * i) 0 13 0x1000
def CP.BKFREE4.HI (i : Nat) : Fld := .mk3 (0x1c0040 + 0x4000 * i) 16 13 0x1000
def CP.BKFREE5.LO (i : Nat) : Fld := .mk3 (0x1c0044 + 0x4000 * i) 0 13 0x1000
def CP.BKFREE5.HI (i : Nat) : Fld := .mk3 (0x1c0044 + 0x4000 * i) 16 13 0x1000
def CP.BKFREE6.LO (i : Nat) : Fld := .mk3 (0x1c0048 + 0x4000 * i) 0 13 0x1000
def CP.BKFREE6.HI (i : Nat) : Fld := .mk3 (0x1c0048 + 0x4000 * i) 16 13 0x1000
def CP.BKFREE7.LO (i : Nat) : Fld := .mk3 (0x1c004c + 0x4000 * i) 0 13 0x1000
def CP.BKFREE7.HI (i : Nat) : Fld := .mk3 (0x1c004c + 0x4000 * i) 16 13 0x1000
def CP.SCHACT.LEAVES (i : Nat) : Fld := .mk3 (0x1c0050 + 0x4000 * i) 0 18 0
def CP.GCLCNT.VALUE (i : Nat) : Fld := .mk3 (0x1c0054 + 0x4000 * i) 0 32 0
def CP.SHPWAIT.VALUE (i : Nat) : Fld := .mk3 (0x1c0058 + 0x4000 * i) 0 32 0
def CP.HOLDCNT.VALUE (i : Nat) : Fld := .mk3 (0x1c005c + 0x4000 * i) 0 32 0
def DS.PWRCTL.GATE (i : Nat) : Fld := .mk3 (0x200000 + 0x1000 * i) 0 1 0
def DS.PWRCTL.GATED (i : Nat) : Fld := .mk3 (0x200000 + 0x1000 * i) 1 1 0
def DS.PWRCTL.WOKE (i : Nat) : Fld := .mk3 (0x200000 + 0x1000 * i) 2 1 0
def DS.PWRCTL.GATE_REJ (i : Nat) : Fld := .mk3 (0x200000 + 0x1000 * i) 3 1 0
def DS.CTL.RSP_TMO_US (i : Nat) : Fld := .mk3 (0x200004 + 0x1000 * i) 0 14 0x64
def DS.CTL.PRED_CLR (i : Nat) : Fld := .mk3 (0x200004 + 0x1000 * i) 14 1 0
def DS.CTL.CE_THRESH (i : Nat) : Fld := .mk3 (0x200004 + 0x1000 * i) 16 8 0x10
def DS.STS.UE_TAG (i : Nat) : Fld := .mk3 (0x200008 + 0x1000 * i) 0 1 0
def DS.STS.UE_SHR (i : Nat) : Fld := .mk3 (0x200008 + 0x1000 * i) 1 1 0
def DS.STS.CE_OVER (i : Nat) : Fld := .mk3 (0x200008 + 0x1000 * i) 2 1 0
def DS.STS.RSP_TMO (i : Nat) : Fld := .mk3 (0x200008 + 0x1000 * i) 3 1 0
def DS.STS.OWN_LOST (i : Nat) : Fld := .mk3 (0x200008 + 0x1000 * i) 4 1 0
def DS.STS.LATE_BI (i : Nat) : Fld := .mk3 (0x200008 + 0x1000 * i) 5 1 0
def DS.STS.STRAY (i : Nat) : Fld := .mk3 (0x200008 + 0x1000 * i) 6 1 0
def DS.STS.INELIG (i : Nat) : Fld := .mk3 (0x200008 + 0x1000 * i) 7 1 0
def DS.STS.CFG_REJ (i : Nat) : Fld := .mk3 (0x200008 + 0x1000 * i) 8 1 0
def DS.STS.RCL_DONE (i : Nat) : Fld := .mk3 (0x200008 + 0x1000 * i) 9 1 0
def DS.STS.OVF (i : Nat) : Fld := .mk3 (0x200008 + 0x1000 * i) 10 1 0
def DS.STS.FIRST (i : Nat) : Fld := .mk3 (0x200008 + 0x1000 * i) 11 4 0
def DS.STS.CE_CNT (i : Nat) : Fld := .mk3 (0x200008 + 0x1000 * i) 16 8 0
def DS.MASK.MASK (i : Nat) : Fld := .mk3 (0x20000c + 0x1000 * i) 0 10 0
def DS.RCLCTL.START (i : Nat) : Fld := .mk3 (0x200010 + 0x1000 * i) 0 1 0
def DS.RCLCTL.MODE (i : Nat) : Fld := .mk3 (0x200010 + 0x1000 * i) 1 2 0
def DS.RCLCTL.WIN (i : Nat) : Fld := .mk3 (0x200010 + 0x1000 * i) 3 8 0
def DS.RCLCTL.PORT (i : Nat) : Fld := .mk3 (0x200010 + 0x1000 * i) 11 6 0
def DS.RCLSTS.LINES (i : Nat) : Fld := .mk3 (0x200014 + 0x1000 * i) 0 15 0
def DS.RCLSTS.BUSY (i : Nat) : Fld := .mk3 (0x200014 + 0x1000 * i) 15 1 0
def DS.RCLSTS.TIME_US (i : Nat) : Fld := .mk3 (0x200014 + 0x1000 * i) 16 16 0
def DS.OCC.VALID (i : Nat) : Fld := .mk3 (0x200018 + 0x1000 * i) 0 15 0
def DS.OCC.TRK (i : Nat) : Fld := .mk3 (0x200018 + 0x1000 * i) 16 8 0
def DS.PARK.SHARED (i : Nat) : Fld := .mk3 (0x20001c + 0x1000 * i) 0 9 0
def DS.PARK.RSV (i : Nat) : Fld := .mk3 (0x20001c + 0x1000 * i) 9 9 0
def DS.ERRLOC.SET (i : Nat) : Fld := .mk3 (0x200020 + 0x1000 * i) 0 10 0
def DS.ERRLOC.WAY (i : Nat) : Fld := .mk3 (0x200020 + 0x1000 * i) 10 4 0
def DS.ERRLOC.VALID (i : Nat) : Fld := .mk3 (0x200020 + 0x1000 * i) 14 1 0
def DS.LATECNT.LATE_CNT (i : Nat) : Fld := .mk3 (0x200024 + 0x1000 * i) 0 16 0
def DS.LATECNT.STRAY_CNT (i : Nat) : Fld := .mk3 (0x200024 + 0x1000 * i) 16 16 0
def SCH.PSHP.RATE (i : Nat) : Fld := .mk3 (0x240000 + 0x400 * i) 0 20 0
def SCH.PSHP.CLS_MODE (i : Nat) : Fld := .mk3 (0x240000 + 0x400 * i) 20 1 0
def SCH.PSHP.INIT (i : Nat) : Fld := .mk3 (0x240000 + 0x400 * i) 21 1 1
def SCH.PBURST.BURST (i : Nat) : Fld := .mk3 (0x240004 + 0x400 * i) 0 24 0x4000
def SCH.GCTL.EN (i : Nat) : Fld := .mk3 (0x240008 + 0x400 * i) 0 1 0
def SCH.GCTL.OPER (i : Nat) : Fld := .mk3 (0x240008 + 0x400 * i) 1 1 0
def SCH.GCTL.SWAP (i : Nat) : Fld := .mk3 (0x240008 + 0x400 * i) 2 1 0
def SCH.GCTL.CUR (i : Nat) : Fld := .mk3 (0x240008 + 0x400 * i) 8 6 0
end R

end Sys2Proof.Machine
end

