-- ==== Sys2Proof/Machine/State.lean ====
section
/-! DEFINITION. The state of the block as plain data: registers, tables, buffers, engines and pins, with the state right after
PERST_N has risen (log entry 3) and the two stop types. -/
namespace Sys2Proof.Machine

/-- The network on chip (R24 to R37). `transit`: packets on their way, each with the router it comes from (its own at a local port)
and the router it arrives at next, in the order they left. `delivered`: packets at their target. `held`: packets held for a domain's wake. `waiting`:
packets waiting before a quiesced router. `bridge`: accesses waiting in the management function bridge while RT00 is quiesced, `locals`: packets at the local
ports of other quiesced routers (R34). `reqs`: requests not answered yet (R32). `events`: event messages at
the event delivery logic (R26). -/
structure Noc where
  transit : List (Nat × Nat × Packet) := []
  delivered : List Packet := []
  held : List (Nat × Packet) := []
  waiting : List (Nat × Packet) := []
  bridge : List Packet := []
  locals : List (Nat × Packet) := []
  reqs : List NocReq := []
  nextTag : Nat := 0
  events : List Packet := []
  snaps : List Packet := []
  deriving DecidableEq, Repr

/-- An injection channel's running part (R301): what it was armed with, units left, whether it has disarmed. -/
structure InjCh where
  armed : Bool := false
  chk : Nat := 0
  inst : Nat := 0
  part : Nat := 0
  double : Bool := false
  left : Nat := 0
  done : Bool := false
  deriving DecidableEq, Repr

/-- Time: CCLK cycles since PERST_N rose, fabric time in ns with its 32-bit fraction (R265). -/
structure Time where
  cclk : Nat := 0
  ft : Nat := 0
  frac : Nat := 0
  deriving DecidableEq, Repr

/-- Clocks, rails and reset holds (R15 to R18, R370, R372, R376, R378). `coreLow`: core rails below 90 % of nominal. `railsOut`: rails
outside their operating range. `aon`: VDD_AON is above its power-on threshold. -/
structure Clk where
  refclk : Bool := true
  locked : Bool := false
  holdover : Bool := false
  onMclk : Bool := false
  pllFail : Bool := false
  aon : Bool := true
  coreLow : List Nat := []
  railsOut : List Nat := []
  railMv : Tbl Nat := []
  deriving DecidableEq, Repr

/-- The control and status pins (R366); `safeLow` says that SAFE_N is driven low. -/
structure Pins where
  perstN : Bool := true
  pfailN : Bool := true
  persistDone : Bool := false
  safeLow : Bool := false
  tsyncOut : Bool := false
  devId : Nat := 0
  pairRole : Bool := false
  deriving DecidableEq, Repr


/-- A port unit's part beside its registers (R45, R52, R56, R60, R74, R76). `ex`: the port of this lowest unit exists (R44). `width`:
its port units. `partner`: what training found. `target`: its target rate code. `hold`: the hold machine of R84 (0 SERVICE, 1 HOLD,
2 EXPIRED; 3: a MEM port that was not UP at resume-ready, R234). `held`: the port is kept from training (R288, R295). `unlockAt`: the lock timers that run, by lane of the
port, each with its start (R52). `refused`: its partner was refused, and it stays OFF until ENABLE goes from 0 to 1 (R39). `seq`: sequence number and half of the last unit written (R76).
`cmSets`, `ioSets`: the key sets held per stream. `recov`: the link is in Recovery. `scan`: the lane an eye scan runs on. `saf`: the units written
and not yet released in store-and-forward mode, each with the arrival numbers of the messages it carries (R78). `grant`: the credits granted and not yet used (R69). `outs`: requests sent and not answered (R86). `neg`: the negotiated width code. -/
structure PortRt where
  ex : Bool := false
  width : Nat := 1
  partner : Partner := {}
  target : Nat := 0
  hold : Nat := 0
  holdUs : Nat := 0
  holdFrom : Nat := 0
  recov : Bool := false
  held : Bool := false
  unlockAt : Tbl Nat := []
  refused : Bool := false
  seq : Option (Nat × Nat) := none
  saf : List (List Nat) := []
  grant : Credits := {}
  outs : List OutReq := []
  scan : Option Nat := none
  cmSets : Nat := 0
  ioSets : Nat := 0
  neg : Nat := 0
  deriving DecidableEq, Repr

/-- The shared buffer (R62 to R73). `msgs`: messages in it, in arrival order. `cells`: the number of messages that touch each cell in
use. `opens`: each writer's open cell (port unit p: p, Skidder 64, directory slice d: 65 + d) with the words written. `charge`: cells charged
per slice. `resv`: the reservation each slice holds. `sysUse`: system reserve cells in use per port unit. `nextArr`: the number of the next arrival; `nextIdx`:
where the search for a free outstanding-request entry begins (R86). -/
structure Buf where
  msgs : List Msg := []
  cells : Tbl Nat := []
  opens : Tbl (Nat × Nat) := []
  charge : Tbl Nat := []
  resv : Tbl Nat := []
  sysUse : Tbl Nat := []
  nextId : Nat := 1
  nextArr : Nat := 1
  nextIdx : Nat := 0
  deriving DecidableEq, Repr

/-- The row of R310 a slot took last: its ACLK sample, its place in the table, the state it led to, and what stood before: the fields of STS it acts on, the fault
timer, the withheld PG. -/
structure SlotRow where
  sample : Nat
  rank : Nat
  dest : Nat
  sts : List Nat
  timer : Bool
  pgDue : Bool
  deriving DecidableEq, Repr

/-- A slot controller's part beside its registers (R309 to R311, R319): the fault timer runs, PG_DLY has passed and PG is withheld, the
windows are met, the latest levels, the samples of the current mean, the energy in nJ; the row taken last (R9). -/
structure SlotRt where
  timer : Bool := false
  pgDue : Bool := false
  vinOk : Bool := false
  vin : Nat := 0
  vout : Nat := 0
  iout : Nat := 0
  n : Nat := 0
  sVin : Nat := 0
  sVout : Nat := 0
  sIout : Nat := 0
  sPout : Nat := 0
  mVin : Nat := 0
  mVout : Nat := 0
  mIout : Nat := 0
  mPout : Nat := 0
  energy : Nat := 0
  row : Option SlotRow := none
  deriving DecidableEq, Repr

/-- A running recall of a slice (R125): its mode (3: the device's own, the lines of a window that a removed port holds), the next way to visit (16 t + w, up to
16,384), the entries recalled, its start, who it runs for. -/
structure Recall where
  mode : Nat
  win : Nat
  port : Nat
  pos : Nat := 0
  lines : Nat := 0
  since : Nat := 0
  who : Nat := 0
  deriving DecidableEq, Repr

/-- A directory slice (R99 to R125). `ents`: entry of way w of set t at 16 t + w. `trks`: trackers, the recall engine's among them.
`nextOrd`: the next arrival's place. `park`: park entries in age order; `retd`: requests returned to their port units. The free list of BITags is `fresh`, ..., 255, then
`freed`; `back`: tags held back after expiry with the ports still to answer and the expiry. `ac`: the atomic cache; `pred`: the predictor table. `rclQ`: recalls
that wait for the running one (mode, window, port, who). -/
structure DirRt where
  ents : Tbl DirEntry := []
  use : Nat := 0
  nextOrd : Nat := 1
  trks : List Tracker := []
  park : List Park := []
  retd : List Park := []
  fresh : Nat := 0
  freed : List Nat := []
  back : List (Nat × List Nat × Nat) := []
  ac : List AcLine := []
  pred : Tbl Nat := []
  rcl : Option Recall := none
  rclQ : List (Nat × Nat × Nat × Nat) := []
  ops : Nat := 0
  deriving DecidableEq, Repr

/-- A change of a coherent window that still runs (R94, R95, R21): 1 the wake before an enable, 2 a disable, 3 the recall of removed ports
or the atomic-cache write-back, and the entry it will have. -/
structure WinChg where
  kind : Nat
  new : CWinE
  deriving DecidableEq, Repr

/-- The SPI NOR (R229 to R232, R345 to R347): the active bank's baseline and the records behind it, the bytes it holds, that bank; the operation
in progress (0 none, 1 a record, 2 a baseline, 3 an erase), the bank it works on, the baseline or record it adds, how many committed changes that covers; the
active firmware bank, the versions of both banks, whether the other bank holds a staged image. -/
structure Nor where
  base : Option Image := none
  recs : List JrnRec := []
  fill : Nat := 0
  bank : Bool := false
  op : Nat := 0
  tgt : Bool := false
  busy : Option Image := none
  adds : Option JrnRec := none
  took : Nat := 0
  fwBank : Bool := false
  ver0 : Nat := 0
  ver1 : Nat := 0
  staged : Bool := false
  deriving DecidableEq, Repr

/-- The persistence sequencer, the homes and the journal (R209 to R239). `chg`: the committed changes not yet in NOR, oldest first. `filt`: the
filter of PFAIL_N runs. `since`: when the present state of the sequencer was entered. `witness`: the last write each MEM port completed in P1. `gpf`: each capable port's flush: 1 Phase 1 sent, 2 Phase 2 sent, 3 the witness read is out. `img`: the image being written; `home`: 0 none, 1 home A
being written, 2 flushed, 3 home B being written, 4 flushed, 5 both over; `bad`: homes that failed. `stored`: what each home region holds (128 times extent plus
slot). `stage` of the restore: 0 the Curator boots,
1 it runs, 2 the journal has been read, 3 the image is chosen, 4 the pair agrees, 5 the consistency pass is over. `hold`: MEM ports whose device is ready. `t0`: the
restore's t = 0, once it has come. `asked`: extents whose content was asked of their owner, not answered yet (R263). `scan`: registers the background parity scan under way has visited (R300). -/
structure Prs where
  chg : List CatChg := []
  filt : Bool := false
  since : Nat := 0
  witness : Tbl Witness := []
  gpf : Tbl Nat := []
  img : Option Image := none
  home : Nat := 0
  bad : List Nat := []
  stored : Tbl Image := []
  stage : Nat := 0
  hold : List Nat := []
  t0 : Option Nat := some 0
  asked : List Nat := []
  scan : List Nat := []
  deriving DecidableEq, Repr

/-- The Curator's command service (R322 to R348): rings, keys, the fetched command not yet past its commit point (principal, slot), the
principal served last, the commit records, whether the Curator is restarting or has no firmware, the versions being programmed, oldest first. -/
structure Mgmt where
  rings : Tbl RingE := []
  keys : Tbl KeyE := []
  cur : Option (Nat × Nat) := none
  rr : Nat := 7
  recs : List CommitRec := []
  down : Bool := false
  dead : Bool := false
  prog : List Nat := []
  deriving DecidableEq, Repr

/-- A MAPREF to send or sent (R263): the extent, the delta as +1, 0 or -1 (2), its MSEQ once sent, whether the waiting command asked for it. -/
structure MapOut where
  ext : Nat
  delta : Nat
  mseq : Option Nat := none
  cmd : Bool := false
  deriving DecidableEq, Repr

/-- The commit engine (R282 to R284): its state (0 IDLE, 1 PREP_SENT, 2 GO_SENT, 3 HELD), the pending MID, the next MID, the change under way,
the local changes that wait, the partner's change held, the parts of a PREP with more to come, the items of the own PREP that is pending, the MACKs given (MID, result, code). `maps`: MAPREFs in
order, the first one sent; `mapCmd`: the command that waits for them; `mapGot`: its extents acknowledged; `res`: the result the change under way gave. -/
structure Commit where
  next : Nat := 0
  change : Option Change := none
  queue : List Change := []
  held : Option PrepMsg := none
  part : List Item := []
  items : List Item := []
  given : List (Nat × Nat × Nat) := []
  maps : List MapOut := []
  mapCmd : Option (Nat × PyrCmd) := none
  mapGot : List Nat := []
  res : Res := {}
  deriving DecidableEq, Repr

/-- A captured Landing record that waits in its FIFO (R361, R362), without PHASE and DROPPED: point, port, slice (none with SYS), class, MATCHED,
fabric time, the slice's generation, the message's first 64 B. -/
structure LandRec where
  point : Nat
  port : Nat
  slice : Option Nat
  cls : Nat
  matched : Nat
  time : Nat
  gen : Nat
  data : Nat
  deriving DecidableEq, Repr

/-- A Landing channel (R360 to R363): its FIFO, the matches since enable, the phase, drops since the last record, the cycle of its last capture. -/
structure LandRt where
  fifo : List LandRec := []
  matched : Nat := 0
  phase : Bool := true
  dropped : Nat := 0
  last : Option Nat := none
  deriving DecidableEq, Repr

/-- A latched snapshot (R355): sequence number, time, groups, values. -/
structure Snap where
  seq : Nat
  time : Nat
  groups : Nat
  values : List Nat
  deriving DecidableEq, Repr

/-- A slice dump that waits (R358). -/
structure Dump where
  slice : Nat
  gen : Nat
  addr : Nat
  seq : Nat
  time : Nat
  values : List Nat
  deriving DecidableEq, Repr

/-- Tally (R355 to R363): the snapshot and dumps being written, the phase of the next record, what was skipped and dropped since the last one,
the Landing channels, the sampler's next queue. -/
structure Tally where
  snap : Option Snap := none
  dumps : List Dump := []
  phase : Bool := true
  skipped : Nat := 0
  dropped : Nat := 0
  land : Tbl LandRt := []
  visit : Nat := 0
  deriving DecidableEq, Repr

/-- A token bucket (R165): its level in milli-bytes and the ns count it was last brought up to date at. -/
structure Bucket where
  level : Int
  last : Nat
  deriving DecidableEq, Repr

/-- The schedulers (R164 to R177): policer buckets by slice, class shapers by 4 p + c, port shapers, leaf deficits by virtual queue number,
class deficits by 4 p + c, active leaves by 4 p + c in list order (slice number, 512 the system queue), active classes by port in list order, the visits in
progress (leaf by 4 p + c, class by port), CLASS entries as last written, pending bank swaps with their time. -/
structure Sched where
  peak : Tbl Bucket := []
  com : Tbl Bucket := []
  cls : Tbl Bucket := []
  prt : Tbl Bucket := []
  leafDef : Tbl Nat := []
  clsDef : Tbl Nat := []
  active : Tbl (List Nat) := []
  order : Tbl (List Nat) := []
  leafVisit : Tbl Nat := []
  clsVisit : Tbl Nat := []
  written : Tbl ClassE := []
  swap : Tbl Nat := []
  deriving DecidableEq, Repr

/-- A frame sent and not acknowledged, or waiting for its turn (R253, R257): its SEQ, whether of the RSP channel, whether it took a shared credit, its 14
slots, its stomped halves (bit h for half h), the message it carries (none: a MIR message). -/
structure XFrame where
  seq : Nat := 0
  rsp : Bool := false
  shr : Bool := false
  slots : List Nat := []
  stomps : Nat := 0
  msg : Option Msg := none
  deriving DecidableEq, Repr

/-- A message whose slots are arriving in a channel (R250): the slots still to come, the place of the next one, and its arrival number. -/
structure RxStream where
  left : Nat := 0
  place : Nat := 0
  arr : Nat := 0
  deriving DecidableEq, Repr

/-- A Xepin link (R244 to R259): the neighbour's DEV_ID, the partner's record, the INSTANCE of this end, the partner's at the previous
initialisation, whether receive state is kept, the next SEQ, frames not acknowledged (oldest first), frames that wait to be sent, the next half
expected, a NAK sent and not yet answered, replays without progress, BYP in use, credits in use (REQ, RSP, shared), the partner's
totals last seen, the totals returned, snoops of the partner sent on to this device's hosts (port, BITag, line address), half 0 of the frame now arriving and whether it has been
dealt with, the messages arriving in the two channels, and what ST.XCTL held at the port's latest bring-up (R271). -/
structure XepRt where
  nbr : Option Nat := none
  rec_ : Option CapRec := none
  inst : Option Nat := none
  seen : Option Nat := none
  rxKept : Bool := false
  next : Nat := 0
  unack : List XFrame := []
  wait : List XFrame := []
  exp : Nat := 0
  expHalf : Nat := 0
  nak : Bool := false
  tries : Nat := 0
  byp : Bool := false
  uReq : Nat := 0
  uRsp : Nat := 0
  uShr : Nat := 0
  gReq : Nat := 0
  gRsp : Nat := 0
  gShr : Nat := 0
  tReq : Nat := 0
  tRsp : Nat := 0
  tShr : Nat := 0
  fsnoop : List (Nat × Nat × Nat) := []
  half0 : Option (List Nat) := none
  ok0 : Bool := false
  reqIn : RxStream := {}
  rspIn : RxStream := {}
  rplyMax : Nat := 0
  crMin : Nat := 0
  crPool : Nat := 0
  deriving DecidableEq, Repr

/-- A Skidder queue's running part (R184 to R188): the fetch pointer, the pass of HEAD, fetched descriptors not started, how many are being
read, the stop's kind (0 none, 1 DISABLE, 2 ABORT, 3 ERROR), EN written 0 during it, the armed descriptor's timer has fired, the first status other than OK and ABORTED since the
queue became ACTIVE (R208). -/
structure QRt where
  fetch : Nat := 0
  hphase : Bool := true
  fetched : List FDesc := []
  reading : Nat := 0
  stop : Nat := 0
  dis : Bool := false
  fired : Bool := false
  why : Nat := 0
  deriving DecidableEq, Repr

/-- The Skidder (R181 to R208): queues, started descriptors in the order they started, accesses in flight, the ready list with credits, extents
waiting for a scrub, completions that wait for the partner's MACK (R285). -/
structure Skid where
  rt : Tbl QRt := []
  acts : List ADesc := []
  accs : List SkAcc := []
  ready : List (Nat × Nat) := []
  nextId : Nat := 0
  scrubs : List Nat := []
  cplWait : List (Nat × SCpl) := []
  stored : Tbl SCpl := []
  deriving DecidableEq, Repr

/-- The fabric time servo (R266 to R268): the integral, whether an offset has been applied since reset, consecutive small offsets, periods without a
usable one, whether this period had one, the measured link delay, the number and departure of the latest delay request, a PTM request is
out, a time to step to at the next TSYNC_IN edge. -/
structure FtRt where
  integ : Int := 0
  once : Bool := false
  good : Nat := 0
  miss : Nat := 0
  seen : Bool := false
  delay : Option Int := none
  reqId : Nat := 0
  t3 : Option Nat := none
  ptm : Bool := false
  setTo : Option Nat := none
  deriving DecidableEq, Repr

/-- The pair engine (R286 to R296): whether this device is home to every window, a heartbeat came in this period, consecutive misses, heartbeats
accepted in the present state, the cycle of the last one, the state SYNC was entered from, when DECIDE was entered, fence reads tried, one is out,
the PRIMARY waits (R289), the partner's count last read and how often in a row, the takeover's stage (1 SWITCH, 2 RECALL, 3 RESUME) and
when it began, image bytes received, the image is loaded, when SYNC began, the partner has shown itself ALONE. -/
structure PairRt where
  solo : Bool := false
  got : Bool := false
  miss : Nat := 0
  hbN : Nat := 0
  hbAt : Nat := 0
  left : Nat := 0
  t0 : Nat := 0
  att : Nat := 0
  read : Bool := false
  wait : Bool := false
  cnt : Nat := 0
  same : Nat := 0
  stage : Nat := 0
  stageAt : Nat := 0
  rx : Nat := 0
  synced : Bool := false
  syncAt : Nat := 0
  peerAlone : Bool := false
  deriving DecidableEq, Repr

/-- Everything the spec gives the device. -/
structure Dev where
  regs : Tbl Nat := []
  flaws : List Nat := []
  inj : Tbl InjCh := []
  time : Time := {}
  noc : Noc := {}
  dom : Tbl DomState := []
  clk : Clk := {}
  pins : Pins := {}
  port : Tbl PortRt := []
  buf : Buf := {}
  slot : Tbl SlotRt := []
  slices : Tbl SliceE := []
  extents : Tbl ExtentE := []
  rules : Tbl RuleE := []
  cwins : Tbl CWinE := []
  winchg : Tbl WinChg := []
  dlogs : Tbl DlogE := []
  msix : Tbl MsixE := []
  polices : Tbl PoliceE := []
  classes : Tbl ClassE := []
  gcls : Tbl GclBank := []
  queues : Tbl QueueE := []
  xgrp : XgrpT := {}
  sdumps : Tbl SdumpE := []
  ctrsels : Tbl CtrSelE := []
  ctrvals : Tbl Nat := []
  qsamps : Tbl QsampE := []
  dirs : Tbl DirRt := []
  dfilt : Tbl Nat := []
  prs : Prs := {}
  nor : Nor := {}
  mgmt : Mgmt := {}
  commit : Commit := {}
  tally : Tally := {}
  sched : Sched := {}
  skid : Skid := {}
  xep : Tbl XepRt := []
  ftr : FtRt := {}
  pair : PairRt := {}
  out : List Emit := []
  freeCtr : Nat := 0
  deriving DecidableEq, Repr

end Sys2Proof.Machine

namespace Sys2Proof.Machine

/-- The state of the block: the device, and the commands that wait, first in, first out. -/
structure State where
  dev : Dev
  pending : List Instr
  deriving DecidableEq, Repr

/-- Why the machine could stop with a fault. No command of the spec does: every behaviour the spec gives is a next state. -/
inductive Fault where
  /-- Raised by no meaning: the spec gives every command an effect or no effect, never a stop of the block. Safe. -/
  | stuck
  deriving DecidableEq, Repr

/-- Why a command could be refused. -/
inductive Refusal where
  /-- A command that has no meaning yet; raised by exec's arm of that command. Safe. -/
  | notModelled (mnemonic : String)
  deriving DecidableEq, Repr

/-- The block right after PERST_N has risen: every register at its reset value, every buffer and queue empty. -/
def State.reset : State := ⟨{}, []⟩

end Sys2Proof.Machine
end

