-- ==== Sys2Proof/Machine/Table.lean ====
section
/-! DEFINITION. Operations on tables: keyed entries in one canonical form (keys strictly rising, no entry equal to the
table's default). A key that is not listed reads as the default. -/
namespace Sys2Proof.Machine

/-- The entry listed under `k`. -/
def Tbl.get? {α : Type} (t : Tbl α) (k : Nat) : Option α :=
  match t with
  | [] => none
  | (a, v) :: r => if a = k then some v else Tbl.get? r k

/-- The entry under `k`, `d` where none is listed. -/
def Tbl.get {α : Type} (t : Tbl α) (d : α) (k : Nat) : α := (Tbl.get? t k).getD d

/-- List `v` under `k`, in the place its key gives it. -/
def Tbl.put {α : Type} (t : Tbl α) (k : Nat) (v : α) : Tbl α :=
  match t with
  | [] => [(k, v)]
  | (a, w) :: r => if k = a then (k, v) :: r else if k < a then (k, v) :: (a, w) :: r else (a, w) :: Tbl.put r k v

/-- List nothing under `k`. -/
def Tbl.erase {α : Type} (t : Tbl α) (k : Nat) : Tbl α :=
  match t with
  | [] => []
  | (a, w) :: r => if a = k then Tbl.erase r k else (a, w) :: Tbl.erase r k

/-- Write `v` under `k` where `d` is the default: writing the default lists nothing. -/
def Tbl.set {α : Type} [DecidableEq α] (t : Tbl α) (d : α) (k : Nat) (v : α) : Tbl α :=
  if v = d then Tbl.erase t k else Tbl.put t k v

/-- Change the entry under `k`. -/
def Tbl.upd {α : Type} [DecidableEq α] (t : Tbl α) (d : α) (k : Nat) (f : α → α) : Tbl α :=
  Tbl.set t d k (f (Tbl.get t d k))

/-- Every listed entry changed, entries that come to be the default dropped. -/
def Tbl.remap {α β : Type} [DecidableEq β] (t : Tbl α) (d : β) (f : Nat → α → β) : Tbl β :=
  t.foldl (fun r x => Tbl.set r d x.1 (f x.1 x.2)) []

/-- Every listed key is above `b` and the keys rise strictly. -/
def Tbl.risesFrom {α : Type} (b : Nat) (t : Tbl α) : Bool :=
  match t with
  | [] => true
  | (a, _) :: r => decide (b ≤ a) && Tbl.risesFrom (a + 1) r

/-- The canonical form: keys strictly rising, no entry equal to the default `d`. -/
def Tbl.wf {α : Type} [DecidableEq α] (d : α) (t : Tbl α) : Bool :=
  Tbl.risesFrom 0 t && t.all (fun e => decide (e.2 ≠ d))

/-- Keys strictly rising. -/
def Tbl.rises {α : Type} (t : Tbl α) : Bool := Tbl.risesFrom 0 t

/-- The entries whose key passes `f`. -/
def Tbl.keep {α : Type} (t : Tbl α) (f : Nat → Bool) : Tbl α := t.filter (fun e => f e.1)

end Sys2Proof.Machine
end

