-- ==== Sys2Proof/Machine/Ops.lean ====
section
/-! DEFINITION. The named operations every meaning is built from: fields of registers, what is sent, time, draws, and the frame of a
command (`core`, `aon`). -/
namespace Sys2Proof.Machine

/-! ### Register fields -/

/-- The value a field holds: its reset value where nothing else has been stored. -/
def Dev.get (d : Dev) (f : Fld) : Nat := Tbl.get d.regs f.rst f.key

/-- Store a value in a field, cut to the field's width. -/
def Dev.set (d : Dev) (f : Fld) (v : Nat) : Dev := { d with regs := Tbl.set d.regs f.rst f.key (v % 2 ^ f.w) }

/-- Whether a one-bit field is set. -/
def Dev.is (d : Dev) (f : Fld) : Bool := d.get f != 0

/-- Set a one-bit field. -/
def Dev.on (d : Dev) (f : Fld) : Dev := d.set f 1

/-- Clear a field. -/
def Dev.off (d : Dev) (f : Fld) : Dev := d.set f 0

/-- Set a one-bit field from a flag. -/
def Dev.put (d : Dev) (f : Fld) (b : Bool) : Dev := d.set f (bit b)

/-- Add to a counter that saturates at its width. -/
def Dev.addSat (d : Dev) (f : Fld) (n : Nat) : Dev := d.set f (satAdd (d.get f) n (2 ^ f.w - 1))

/-- Add to a counter that wraps at its width. -/
def Dev.addMod (d : Dev) (f : Fld) (n : Nat) : Dev := d.set f (d.get f + n)

/-- The 64-bit value of a pair of registers. -/
def Dev.get64 (d : Dev) (l h : Fld) : Nat := d.get l + 2 ^ 32 * d.get h

/-- Store a 64-bit value in a pair of registers. -/
def Dev.set64 (d : Dev) (l h : Fld) (v : Nat) : Dev := (d.set l v).set h (v / 2 ^ 32)

/-! ### What the block sends, draws and times -/

/-- Send something. -/
def Dev.emit (d : Dev) (c : Chan) (o : Op) (a : List Nat) : Dev := { d with out := d.out ++ [⟨c, o, a⟩] }

/-- Send each of a list. -/
def Dev.emits (d : Dev) (l : List Emit) : Dev := { d with out := d.out ++ l }

/-- A fresh random number of `w` bits, and the device after the draw. -/
def Dev.draw (d : Dev) (w : Nat) : Nat × Dev := (Config.rng d.freeCtr % 2 ^ w, { d with freeCtr := d.freeCtr + 1 })

/-- Fabric time now, 64 bits (R265). -/
def Dev.ft (d : Dev) : Nat := d.time.ft % 2 ^ 64

/-- CCLK cycles of a number of microseconds (R15). -/
def us (n : Nat) : Nat := 2000 * n

/-- CCLK cycles of a number of milliseconds. -/
def ms (n : Nat) : Nat := 2000000 * n

/-! ### Reset holds and the frame of a command -/

/-- Everything outside AON is held in reset (R372, R376, R378), or has no clock before the root PLL has locked (R15). -/
def Dev.heldReset (d : Dev) : Bool :=
  !d.pins.perstN || !d.clk.coreLow.isEmpty || d.clk.pllFail || !d.clk.aon || !d.clk.locked

/-- The device is between entry to P0 and PERST_N: SEQ is 1 to 7 (P0 to P4, SAVED, SAFE; R212). -/
def Dev.saving (d : Dev) : Bool := 2 ≤ d.get R.PRS.STATE.SEQ && d.get R.PRS.STATE.SEQ ≤ 8

/-- An injection channel that counts one more affected unit (R301): at its last unit it disarms and is done. -/
def InjCh.count (c : InjCh) : InjCh :=
  if c.left ≤ 1 then { c with left := 0, armed := false, done := true } else { c with left := c.left - 1 }

end Sys2Proof.Machine
end

