-- ==== Sys2Proof/Machine/Pack.lean ====
section
/-! DEFINITION. Table entries as the numbers their windows show, low bit first, and back (R93, R99, R137, R140, R143, R157, R168, R171, R175,
R182, R270, R351, R358, R359, R391). -/
namespace Sys2Proof.Machine

/-- Fields side by side, the first in the lowest bits: (value, width). -/
def cat : List (Nat × Nat) → Nat
  | [] => 0
  | (v, w) :: r => v % 2 ^ w + 2 ^ w * cat r

/-- A one-bit field of a number. -/
def flag (x k : Nat) : Bool := bits x k 1 == 1

/-! ### SLICE (R137) -/

def packWindow (w : Window) : Nat := cat [(w.base, 22), (w.ext, 16), (w.num, 16), (bit w.en, 1), (0, 9)]
def unpackWindow (x : Nat) : Window := { base := bits x 0 22, ext := bits x 22 16, num := bits x 38 16, en := flag x 54 }

def packSlice (e : SliceE) : Nat :=
  cat [(e.st, 3), (e.port, 6), (e.gen, 8), (e.pasid, 20), (bit e.pasidEn, 1), (bit e.defRd, 1), (bit e.defWr, 1), (bit e.defAtom, 1),
    (bit e.lost, 1), (bit e.dlogEn, 1), (bit e.ioDef, 1), (e.pend, 3), (0, 1), (e.gdisc, 16),
    (e.pWin, 2), (e.pPort, 6), (bit e.pPasidEn, 1), (e.pPasid, 20), (0, 35),
    (packWindow e.win0, 64), (packWindow e.win1, 64), (packWindow e.win2, 64), (packWindow e.win3, 64),
    (e.pBase0, 32), (e.pBase1, 32), (e.pBase2, 32), (e.pBase3, 32)]
def unpackSlice (x : Nat) : SliceE :=
  { st := bits x 0 3, port := bits x 3 6, gen := bits x 9 8, pasid := bits x 17 20, pasidEn := flag x 37, defRd := flag x 38,
    defWr := flag x 39, defAtom := flag x 40, lost := flag x 41, dlogEn := flag x 42, ioDef := flag x 43, pend := bits x 44 3,
    gdisc := bits x 48 16, pWin := bits x 64 2, pPort := bits x 66 6, pPasidEn := flag x 72, pPasid := bits x 73 20,
    win0 := unpackWindow (bits x 128 64), win1 := unpackWindow (bits x 192 64), win2 := unpackWindow (bits x 256 64),
    win3 := unpackWindow (bits x 320 64), pBase0 := bits x 384 22, pBase1 := bits x 416 22, pBase2 := bits x 448 22,
    pBase3 := bits x 480 22 }

/-! ### EXTENT (R140), RULE (R143), CWIN (R93), DLOG (R157) -/

def packExtent (e : ExtentE) : Nat :=
  cat [(bit e.valid, 1), (e.st, 2), (bit e.vol, 1), (bit e.cat, 1), (bit e.altEn, 1), (bit e.altPartner, 1), (e.port, 6), (e.altPort, 6),
    (e.ld, 4), (bit e.dcd, 1), (e.dpa, 16), (bit e.atomOk, 1), (e.mapcnt, 15), (0, 8)]
def unpackExtent (x : Nat) : ExtentE :=
  { valid := flag x 0, st := bits x 1 2, vol := flag x 3, cat := flag x 4, altEn := flag x 5, altPartner := flag x 6, port := bits x 7 6,
    altPort := bits x 13 6, ld := bits x 19 4, dcd := flag x 23, dpa := bits x 24 16, atomOk := flag x 40, mapcnt := bits x 41 15 }

def packRule (r : RuleE) : Nat :=
  cat [(bit r.en, 1), (bit r.rd, 1), (bit r.wr, 1), (bit r.atom, 1), (r.src, 4), (bit r.lock, 1), (0, 7), (r.base, 40), (0, 8), (r.limit, 40), (0, 24)]
def unpackRule (x : Nat) : RuleE :=
  { en := flag x 0, rd := flag x 1, wr := flag x 2, atom := flag x 3, src := bits x 4 4, lock := flag x 8, base := bits x 16 40, limit := bits x 64 40 }

def packCWin (c : CWinE) : Nat :=
  cat [(c.first, 16), (c.num, 16), (bit c.en, 1), (bit c.home, 1), (bit c.rebuild, 1), (bit c.atomPass, 1), (bit c.predEn, 1), (bit c.acacheEn, 1),
    (0, 26), (c.elig, 64)]
def unpackCWin (x : Nat) : CWinE :=
  { first := bits x 0 16, num := bits x 16 16, en := flag x 32, home := flag x 33, rebuild := flag x 34, atomPass := flag x 35,
    predEn := flag x 36, acacheEn := flag x 37, elig := bits x 64 64 }

/-- The PHASE of the next entry is not in the window; the entry keeps it beside. -/
def packDlog (l : DlogE) : Nat := cat [(l.base, 64), (l.size, 5), (bit l.ovf, 1), (0, 10), (l.pi, 16), (l.ci, 16), (0, 144)]
def unpackDlog (x : Nat) : DlogE :=
  { base := bits x 0 64, size := bits x 64 5, ovf := flag x 69, pi := bits x 80 16, ci := bits x 96 16 }

/-! ### POLICE (R168), CLASS (R171), GCL (R175) -/

def packPolice (e : PoliceE) : Nat :=
  cat [(e.cir, 20), (e.pir, 20), (e.cbs, 24), (e.pbs, 24), (bit e.init, 1), (0, 39), (e.w0, 8), (e.b0, 9), (0, 15), (e.w1, 8), (e.b1, 9), (0, 15),
    (e.w2, 8), (e.b2, 9), (0, 15), (e.w3, 8), (e.b3, 9), (0, 15)]
def unpackPolice (x : Nat) : PoliceE :=
  { cir := bits x 0 20, pir := bits x 20 20, cbs := bits x 40 24, pbs := bits x 64 24, init := flag x 88, w0 := bits x 128 8, b0 := bits x 136 9,
    w1 := bits x 160 8, b1 := bits x 168 9, w2 := bits x 192 8, b2 := bits x 200 9, w3 := bits x 224 8, b3 := bits x 232 9 }

/-- The reset value of a CLASS entry of class c: weights 8, 4, 2, 1 (R171). -/
def clsDef (c : Nat) : ClassE := { weight := [8, 4, 2, 1].getD (c % 4) 1 }

def packClass (e : ClassE) : Nat := cat [(e.rate, 20), (bit e.init, 1), (0, 3), (e.weight, 8), (e.burst, 24), (0, 72)]
def unpackClass (x : Nat) : ClassE := { rate := bits x 0 20, init := flag x 20, weight := bits x 24 8, burst := bits x 32 24 }

def packGate (g : GateE) : Nat := cat [(g.open4, 4), (0, 4), (g.dur, 20), (0, 36)]
def unpackGate (x : Nat) : GateE := { open4 := bits x 0 4, dur := bits x 8 20 }
def packGclHdr (b : GclBank) : Nat := cat [(b.base, 64), (b.last, 6), (0, 58)]

/-! ### QUEUE (R182), SDUMP (R358), CTRSEL (R351), QSAMP (R359), DIR (R99) -/

def packQueue (q : QueueE) : Nat :=
  cat [(q.st, 3), (bit q.fphase, 1), (q.size, 5), (q.weight, 4), (q.burst, 7), (0, 12), (q.head, 16), (q.tail, 16), (q.okSeq, 32),
    (q.lastStatus, 8), (0, 24), (q.ring, 64), (q.cpl, 64), (q.hwb, 64), (0, 192)]
def unpackQueue (x : Nat) : QueueE :=
  { st := bits x 0 3, fphase := flag x 3, size := bits x 4 5, weight := bits x 9 4, burst := bits x 13 7, head := bits x 32 16, tail := bits x 48 16,
    okSeq := bits x 64 32, lastStatus := bits x 96 8, ring := bits x 128 64, cpl := bits x 192 64, hwb := bits x 256 64 }

def packSdump (e : SdumpE) : Nat := cat [(e.addr, 64), (bit e.en, 1), (0, 63)]
def unpackSdump (x : Nat) : SdumpE := { addr := bits x 0 64, en := flag x 64 }

def packCtrSel (e : CtrSelE) : Nat := cat [(e.event, 8), (bit e.ovr, 1), (bit e.en, 1), (0, 2), (e.cmask, 5), (0, 3), (e.thresh, 20), (0, 24)]
def unpackCtrSel (x : Nat) : CtrSelE :=
  { event := bits x 0 8, ovr := flag x 8, en := flag x 9, cmask := bits x 12 5, thresh := bits x 20 20 }

def packQsamp (q : QsampE) : Nat := cat [(q.msgs, 16), (q.cells, 18), (q.sweep, 6), (q.hdelay, 24)]

/-- State and busy-type codes of a directory entry (R100, R101). -/
def DirSt.code : DirSt → Nat
  | .i => 0
  | .s => 1
  | .e => 2
  | .m => 3
  | .b => 4
def BType.code : BType → Nat
  | .mem => 0
  | .inv => 1
  | .own => 2
  | .cur => 3
  | .wr => 4
  | .evict => 5
  | .atom => 6
  | .rcl => 7
def packDir (e : DirEntry) : Nat :=
  cat [(e.tag, 26), (e.st.code, 3), (if e.st = .b then e.bt.code else 0, 3), (e.owner, 6), (e.pred, 2), (bit e.ac, 1), (e.win, 8), (0, 15), (e.sharers, 64)]

/-! ### Completions (R187, R202, R329) and a principal's ring (R280) -/

/-- A descriptor, 64 B (R189). -/
def unpackDesc (x : Nat) : Desc :=
  { op := bits x 0 8, irq := flag x 8, fence := flag x 9, srcInd := flag x 10, dstInd := flag x 11, srcSp := flag x 12, dstSp := flag x 13, chk := flag x 14,
    phase := flag x 15, trig := bits x 16 2, timer := bits x 18 4, chainQ := bits x 22 4, tag := bits x 32 32, len := bits x 64 40, src := bits x 128 64,
    dst := bits x 192 64, pattern := bits x 256 64, waitSeq := bits x 320 16, srcNfrag := bits x 336 9, dstNfrag := bits x 352 9,
    rsv := bits x 26 6 != 0 || bits x 104 24 != 0 || bits x 345 7 != 0 || bits x 361 151 != 0 }

/-- An entry of a fragment table, 16 B (R191). -/
def unpackFrag (x : Nat) : Frag := { addr := bits x 0 64, len := bits x 64 40, rsv := bits x 104 24 != 0 }

/-- A Skidder completion entry, 32 B (R202). -/
def packSCpl (c : SCpl) : Nat :=
  cat [(c.tag, 32), (c.slot, 16), (c.status, 8), (bit c.phase, 1), (0, 7), (c.srcCrc, 32), (0, 32), (c.residue, 40), (0, 24), (c.failOff, 40), (0, 24)]

/-- A head write-back, 8 B (R187). -/
def packHwb (head gen okSeq : Nat) : Nat := cat [(head, 16), (gen, 8), (0, 8), (okSeq, 32)]

/-- A command's completion, 32 B (R329). -/
def packPyrCpl (cid status code slot : Nat) (phase : Bool) (cnt result : Nat) : Nat :=
  cat [(cid, 16), (status, 8), (code, 8), (slot, 16), (bit phase, 1), (0, 15), (cnt, 64), (result, 128)]

/-- An event entry, 16 B (R342). -/
def packEvent (phase : Bool) (kind level number time : Nat) : Nat := cat [(bit phase, 1), (kind, 1), (level, 1), (0, 13), (number, 10), (0, 38), (time, 64)]

/-- A principal's attachment and pointers, 16 B (log entry 150). -/
def packRing (p : Nat) (r : RingE) : Nat := cat [(p, 3), (bit r.attached, 1), (bit r.phase, 1), (0, 11), (r.head, 16), (r.fetch, 16), (0, 80)]

/-! ### XGRP (R270) -/

def packXgrpHdr (x : XgrpT) : Nat :=
  cat ([(x.fabricId, 8), (bit x.rebal, 1), (0, 23), (x.mseq, 32)] ++ (List.range 8).map (fun k => (Tbl.get x.applied 0 k, 32)))

/-- A bucket byte: the port and VALID. -/
def bucketByte (b : Option Nat) : Nat :=
  match b with
  | none => 0
  | some p => p % 64 + 128

/-- The 32-bit word at a byte offset of the XGRP window. -/
def xgrpWord (x : XgrpT) (o : Nat) : Nat :=
  if o < 0x40 then bits (packXgrpHdr x) (8 * o) 32
  else if o < 0x240 then cat ((List.range 4).map (fun i => (bucketByte (Tbl.get x.buckets none (o - 0x40 + i)), 8)))
  else if o < 0x280 then bits (Tbl.get x.members 0 ((o - 0x240) / 8)) (32 * (o / 4 % 2)) 32
  else 0

end Sys2Proof.Machine
end

