-- ==== Sys2Proof/Machine/Frame.lean ====
section
/-! DEFINITION. Xepin frames and messages as bytes (R5, R243, R246 to R252, R277 to R279): CRC-32C, the forward error correction of native
mode, the frame header, slots, message headers. Bytes are natural numbers below 256, in the order they are sent. -/
namespace Sys2Proof.Machine

/-- The octets of a number, the lowest first (R5): bit n of a field lies in byte n / 8 as bit n mod 8 (R243). -/
def leBytes (x n : Nat) : List Nat := (List.range n).map (fun i => x / 2 ^ (8 * i) % 256)

/-- The number of octets, the lowest first. -/
def ofLe : List Nat → Nat
  | [] => 0
  | b :: r => b + 256 * ofLe r

/-- The lane of a xw link that byte i of a frame travels on (R243). -/
def frameLane (w i : Nat) : Nat := i % w

/-! ### CRC-32C (R190) -/

/-- CRC-32C over one byte (R190). -/
def crc32cByte (c b : Nat) : Nat :=
  (List.range 8).foldl (fun c _ => if c % 2 = 1 then (c / 2) ^^^ 0x82F63B78 else c / 2) (c ^^^ b)

/-- CRC-32C over bytes. -/
def crc32cBytes (c : Nat) (l : List Nat) : Nat := l.foldl crc32cByte c

/-- CRC-32C of a block: starting value and final complement are all ones (R190). -/
def crc32c (l : List Nat) : Nat := crc32cBytes 0xFFFFFFFF l ^^^ 0xFFFFFFFF

/-! ### GF(2^8) with polynomial 0x11D (R246) -/

/-- Twice an element. -/
def gfDbl (a : Nat) : Nat := if a < 128 then 2 * a else (2 * a) ^^^ 0x11D

/-- A product: the doublings of `a` where `b` has a bit. -/
def gfMulN : Nat → Nat → Nat → Nat
  | 0, _, _ => 0
  | n + 1, a, b => (if b % 2 = 1 then a else 0) ^^^ gfMulN n (gfDbl a) (b / 2)
def gfMul (a b : Nat) : Nat := gfMulN 8 a b

/-- A power. -/
def gfPow (a : Nat) : Nat → Nat
  | 0 => 1
  | n + 1 => gfMul a (gfPow a n)

/-- The inverse of an element that is not zero: the multiplicative group has 255 elements. -/
def gfInv (a : Nat) : Nat := gfPow a 254

/-- A polynomial's value, highest coefficient first. -/
def gfEval (l : List Nat) (x : Nat) : Nat := l.foldl (fun v c => gfMul v x ^^^ c) 0

/-- The generator polynomial with roots α^0 to α^7, highest coefficient first and without its leading 1. -/
def rsGen : List Nat :=
  ((List.range 8).foldl (fun (g : List Nat) i => List.zipWith (· ^^^ ·) (g ++ [0]) (0 :: g.map (gfMul (gfPow 2 i)))) [1]).drop 1

/-- One step of the division by the generator. -/
def rsStep (r : List Nat) (b : Nat) : List Nat :=
  let f := r.headD 0 ^^^ b
  List.zipWith (fun x g => x ^^^ gfMul f g) (r.drop 1 ++ [0]) rsGen

/-- The 8 parity bytes of 120 data bytes. -/
def rsParity (data : List Nat) : List Nat := data.foldl rsStep (List.replicate 8 0)

/-- The 8 syndromes of a codeword, its first byte the highest coefficient. -/
def rsSyn (c : List Nat) : List Nat := (List.range 8).map (fun i => gfEval c (gfPow 2 i))

/-- Solve a linear system given as rows with the right side last: elimination on the first column, the rest first. -/
def gfSolve : Nat → List (List Nat) → Option (List Nat)
  | 0, _ => some []
  | n + 1, rows =>
    match rows.find? (fun r => r.headD 0 != 0) with
    | none => none
    | some p =>
      let q := p.map (gfMul (gfInv (p.headD 1)))
      let rest := (rows.erase p).map (fun r => (List.zipWith (fun x y => x ^^^ gfMul (r.headD 0) y) r q).drop 1)
      (gfSolve n rest).map (fun xs => ((q.drop 1).zip (xs ++ [1])).foldl (fun v (y : Nat × Nat) => v ^^^ gfMul y.1 y.2) 0 :: xs)

/-- The place of a codeword's byte whose locator is α^k: the last byte has k = 0. -/
def rsPlaces (loc : List Nat) (n : Nat) : List Nat := (List.range n).filter (fun k => gfEval loc (gfInv (gfPow 2 k)) == 0)

/-- A codeword with exactly `v` wrong bytes put right, where there is one. -/
def rsFixV (c : List Nat) (s : List Nat) (v : Nat) : Option (List Nat) :=
  match gfSolve v ((List.range v).map (fun i => (List.range v).map (fun j => s.getD (i + j) 0) ++ [s.getD (i + v) 0])) with
  | none => none
  | some l =>
    let ks := rsPlaces (l ++ [1]) c.length
    if ks.length ≠ v then none
    else
      match gfSolve v ((List.range v).map (fun i => ks.map (fun k => gfPow (gfPow 2 k) i) ++ [s.getD i 0])) with
      | none => none
      | some e =>
        let w := (ks.zip e).foldl (fun (w : List Nat) x => w.modify (w.length - 1 - x.1) (· ^^^ x.2)) c
        if (rsSyn w).all (· == 0) then some w else none

/-- A codeword after correction: up to 4 wrong bytes (R246); one that cannot be corrected stays. -/
def rsFix (c : List Nat) : List Nat :=
  let s := rsSyn c
  if s.all (· == 0) then c else (([1, 2, 3, 4].findSome? (rsFixV c s))).getD c

/-! ### Frames (R246, R249) -/

/-- A frame header (R249). -/
structure FHdr where
  seq : Nat := 0
  ack : Nat := 0
  nak : Bool := false
  ftype : Nat := 0
  shr : Bool := false
  crReq : Nat := 0
  crRsp : Nat := 0
  crShr : Nat := 0
  deriving DecidableEq, Repr

def packFHdr (h : FHdr) : Nat :=
  cat [(h.seq, 12), (h.ack, 12), (bit h.nak, 1), (h.ftype, 3), (bit h.shr, 1), (0, 3), (h.crReq, 8), (h.crRsp, 8), (h.crShr, 8), (0, 8)]
def unpackFHdr (x : Nat) : FHdr :=
  { seq := bits x 0 12, ack := bits x 12 12, nak := flag x 24, ftype := bits x 25 3, shr := flag x 28, crReq := bits x 32 8, crRsp := bits x 40 8, crShr := bits x 48 8 }

/-- The bytes of 7 slots. -/
def slotBytes (l : List Nat) : List Nat := (List.range 7).flatMap (fun i => leBytes (l.getD i 0) 16)

/-- The slots of the first 112 bytes. -/
def slotsOf (l : List Nat) : List Nat := (List.range 7).map (fun i => ofLe ((l.drop (16 * i)).take 16))

/-- Codeword k of a frame (R246): its bytes whose position is k modulo 2, data before parity (log entry 144). -/
def fecWord (f : List Nat) (k : Nat) : List Nat :=
  let at_ := fun (l : List Nat) => (l.filter (fun i => i % 2 == k)).map (fun i => f.getD i 0)
  at_ (List.range 124) ++ at_ ((List.range 116).map (128 + ·)) ++ at_ ((List.range 4).map (124 + ·)) ++ at_ ((List.range 12).map (244 + ·))

/-- A frame's bytes from its two codewords. -/
def unFec (a b : List Nat) : List Nat :=
  let g := fun (i j : Nat) => (if i % 2 = 0 then a else b).getD j 0
  (List.range 124).map (fun i => g i (i / 2)) ++ (List.range 4).map (fun i => g i (120 + i / 2)) ++ (List.range 116).map (fun i => g i (62 + i / 2)) ++ (List.range 12).map (fun i => g i (122 + i / 2))

/-- The CRC a half is written with: stomped, it is the complement (R248). -/
def halfCrc (l : List Nat) (stomp : Bool) : List Nat := leBytes (if stomp then crc32c l ^^^ 0xFFFFFFFF else crc32c l) 4

/-- A frame (R246): header, 14 slots, the CRCs, the FEC parity of native mode. -/
def frameBytes (h : FHdr) (slots : List Nat) (stomp0 stomp1 native : Bool) : List Nat :=
  let head := leBytes (packFHdr h) 8
  let a := head ++ slotBytes slots
  let b := slotBytes (slots.drop 7)
  let f := (a ++ halfCrc a stomp0) ++ List.replicate 4 0 ++ (b ++ halfCrc (head ++ b) stomp1) ++ List.replicate 12 0
  if native then
    let x := (fecWord f 0).take 120
    let y := (fecWord f 1).take 120
    unFec (x ++ rsParity x) (y ++ rsParity y)
  else f

/-- A half's CRC check (R247, R248): over its bytes and, of half 1, the frame's first 8 bytes. -/
def crcSays (span got : List Nat) : HalfCheck :=
  if ofLe got = crc32c span then .good else if ofLe got = crc32c span ^^^ 0xFFFFFFFF then .stomped else .bad

/-- The check of half 0 and of half 1 of a frame's bytes. -/
def check0 (a : List Nat) : HalfCheck := crcSays (a.take 120) ((a.drop 120).take 4)
def check1 (a b : List Nat) : HalfCheck := crcSays (a.take 8 ++ b.take 112) ((b.drop 112).take 4)

/-- The two halves of a frame after error correction (R247). -/
def fecFix (a b : List Nat) : List Nat × List Nat :=
  let f := a ++ b
  let g := unFec (rsFix (fecWord f 0)) (rsFix (fecWord f 1))
  (g.take 128, g.drop 128)

/-! ### Message headers (R250 to R252) -/

/-- A REQ message's OP. -/
def opIsReq (op : Nat) : Bool := op < 0x80

/-- OP values that are not reserved (R252). The snoop OPs belong to MIRROR ports. -/
def opKnown (op : Nat) (mirror : Bool) : Bool :=
  (1 ≤ op && op ≤ 0x0E) || op == 0x10 || op == 0x11 || op == 0x20 || (0x80 ≤ op && op ≤ 0x85) ||
    (mirror && ((0x18 ≤ op && op ≤ 0x1B) || (0x88 ≤ op && op ≤ 0x8B)))

/-- The data lines a message carries (R250, R252). A response with a STATUS other than OK carries none (log entry 145). -/
def xLines (op status len : Nat) : Nat :=
  if op == 5 || op == 6 || op == 7 || op == 0x11 then len + 1
  else if 8 ≤ op && op ≤ 0x0E then 1
  else if (op == 0x84 || op == 0x85) && status == 0 then len + 1
  else 0

/-- A REQ or RSP header (R251). -/
def packXMsg (m : XMsg) : Nat :=
  cat [(if opIsReq m.op then 1 else 2, 4), (m.status, 4), (m.op, 8), (m.cls, 3), (bit m.poison, 1), (m.odev, 3), (bit m.oq, 1), (m.oidx, 11), (m.slice, 9), (bit m.sys, 1),
    (m.len, 6), (m.mv, 2), (m.hops, 2), (0, 9), (m.tag, 16), (0, 8), (m.addr / 64, 40), (m.be, 64), (0, 64)]

/-- The data lines of a message, 4 slots each (R250): line bytes in order. -/
def lineSlots (data lines : Nat) : List Nat := (List.range (4 * lines)).map (fun i => bits data (128 * i) 128)

/-- The slots of a message (R250). -/
def XMsg.slots (m : XMsg) : List Nat :=
  [bits (packXMsg m) 0 128, bits (packXMsg m) 128 128] ++ lineSlots m.data (xLines m.op m.status m.len)

/-- What the first slot of a message says (R250, R251, R277): its slots in all, none where the frame is bad. -/
def slotTotal (s : Nat) (rsp mirror : Bool) : Option Nat :=
  let kind := s % 16
  if kind = 0 then some 0
  else if kind = 3 then (if mirror && !rsp && bits s 4 4 ≤ 9 && 2 ≤ bits s 8 7 && bits s 8 7 ≤ 66 then some (bits s 8 7) else none)
  else if (kind == 1 && !rsp) || (kind == 2 && rsp) then
    (if opKnown (bits s 8 8) mirror && (opIsReq (bits s 8 8) == !rsp) then some (2 + 4 * xLines (bits s 8 8) (bits s 4 4) (bits s 45 6)) else none)
  else none

/-! ### MIR and BYP messages (R266, R277 to R279) -/

/-- A MIR header (R277). -/
structure MirHdr where
  mtype : Nat
  more : Bool := false
  mid : Nat := 0
  seq : Nat := 0
  prin : Nat := 0
  dev : Bool := false
  cnt : Nat := 0
  deriving DecidableEq, Repr

/-- The slots of bytes, the last one filled with zeros. -/
def bytesSlots (l : List Nat) : List Nat := (List.range ((l.length + 15) / 16)).map (fun i => ofLe ((l.drop (16 * i)).take 16))

/-- A change item (R231): an 8-byte locator, offset and length (log entry 152), and the new bytes padded to 8. -/
def Item.octets (i : Item) : List Nat := leBytes (cat [(i.loc, 32), (i.len, 32)]) 8 ++ leBytes i.bytes ((i.len + 7) / 8 * 8)

/-- The slots of a MIR message (R277): header, then the payload in whole slots. -/
def mirSlots (h : MirHdr) (payload : List Nat) : List Nat :=
  let p := bytesSlots payload
  let x := cat [(3, 4), (h.mtype, 4), (2 + p.length, 7), (bit h.more, 1), (h.mid, 16), (0, 32), (h.seq, 64), (h.prin, 3), (bit h.dev, 1), (0, 60), (h.cnt, 64)]
  [bits x 0 128, bits x 128 128] ++ p

/-- The 32 bytes of a heartbeat and of a mirror acknowledgement (R279). -/
def hbBytes (state : Nat) (role : Bool) (cnt seq : Nat) : List Nat := leBytes (cat [(1, 4), (state, 3), (bit role, 1), (0, 56), (cnt, 64), (seq, 64)]) 32
def mackBytes (result code mid seq : Nat) : List Nat := leBytes (cat [(5, 4), (result, 4), (code, 8), (mid, 16), (0, 32), (seq, 64)]) 32

/-- A fabric time message (R266). -/
def timeBytes (kind depth id ta tb : Nat) : List Nat := leBytes (cat [(kind, 4), (depth, 4), (0, 8), (id, 16), (0, 32), (ta, 64), (tb, 64)]) 32

end Sys2Proof.Machine
end

