-- ==== Sys2Proof/Machine/Crypto.lean ====
section
/-! DEFINITION. HMAC-SHA-256, the MAC of a critical command (R336), and AES-256-GCM, the seal of the Catalogue and of a journal record (R228, R231). The spec names
the algorithms and does not restate them; they are the public standards' (log entry 20, PRESUMED). Octets are natural numbers below 256. -/
namespace Sys2Proof.Machine

/-! ### SHA-256 -/

/-- The number has no divisor of its own beside 1. -/
def isPrime (n : Nat) : Bool := 2 ≤ n && !((List.range n).drop 2).any (fun d => n % d == 0)

/-- The greatest number below 2^b above `r` whose k-th power is at most `n`, found from its highest bit. -/
def rootFrom (k n : Nat) : Nat → Nat → Nat
  | 0, r => r
  | b + 1, r => rootFrom k n b (if (r + 2 ^ b) ^ k ≤ n then r + 2 ^ b else r)

/-- The first 32 bits behind the point of the k-th root of a prime below 2^15. -/
def rootFrac (k p : Nat) : Word := BitVec.ofNat 32 (rootFrom k (p * 2 ^ (32 * k)) 40 0)

/-- The first 64 primes. -/
def shaPrimes : List Nat := (List.range 312).filter isPrime

/-- One constant a round: from the cube roots. -/
def shaConsts : List Word := shaPrimes.map (rootFrac 3)

/-- The chaining value before the first block: from the square roots. -/
def shaStart : List Word := (shaPrimes.take 8).map (rootFrac 2)

/-- A word turned right by each of some amounts, the results added without carry. -/
def turns (l : List Nat) (x : Word) : Word := l.foldl (fun v n => v ^^^ x.rotateRight n) 0

/-- Octets as big-endian words of `w` octets. -/
def ofBe (l : List Nat) : Nat := l.foldl (fun v b => 256 * v + b) 0
def beBytes (x n : Nat) : List Nat := (leBytes x n).reverse

/-- A block's 16 words, the k-th of them. -/
def shaWord (block : List Nat) (k : Nat) : Word := BitVec.ofNat 32 (ofBe ((block.drop (4 * k)).take 4))

/-- A window of 16 words of the message schedule moves on by one. -/
def shaSlide (w : List Word) : List Word :=
  let at_ := fun k => w.getD k 0
  w.drop 1 ++ [at_ 0 + (turns [7, 18] (at_ 1) ^^^ at_ 1 >>> 3) + at_ 9 + (turns [17, 19] (at_ 14) ^^^ at_ 14 >>> 10)]

/-- One round on the eight working words, and the window's next place. -/
def shaRound (x : List Word × List Word) (c : Word) : List Word × List Word :=
  match x.1 with
  | [p, q, r, s, t, u, v, z] =>
    let add := z + turns [6, 11, 25] t + (v ^^^ (t &&& (u ^^^ v))) + c + x.2.headD 0
    ([add + turns [2, 13, 22] p + ((p &&& q) ||| (r &&& (p ||| q))), p, q, r, s + add, t, u, v], shaSlide x.2)
  | _ => x

/-- One block of 64 octets. -/
def shaStep (h : List Word) (block : List Nat) : List Word :=
  List.zipWith (· + ·) h (shaConsts.foldl shaRound (h, (List.range 16).map (shaWord block))).1

/-- Octets in blocks of `n`; the last may be shorter. -/
def chunks (n : Nat) : Nat → List Nat → List (List Nat)
  | 0, _ => []
  | k + 1, l => if l.isEmpty then [] else l.take n :: chunks n k (l.drop n)
def blocksOf (n : Nat) (l : List Nat) : List (List Nat) := chunks n (l.length / n + 1) l

/-- The octets that end a message of `n` octets: a one bit, zeros to the last eight octets of a block, the length in bits. -/
def shaTail (n : Nat) : List Nat := 0x80 :: List.replicate ((119 - n % 64) % 64) 0 ++ beBytes (8 * n) 8

/-- SHA-256 of octets. -/
def sha256 (m : List Nat) : List Nat := ((blocksOf 64 (m ++ shaTail m.length)).foldl shaStep shaStart).flatMap (fun w => beBytes w.toNat 4)

/-- A key of at most 64 octets, each octet changed by a pad. -/
def hmacPad (key : List Nat) (pad : Nat) : List Nat := (List.range 64).map (fun i => key.getD i 0 ^^^ pad)

/-- HMAC-SHA-256 under a key of at most 64 octets. -/
def hmacSha256 (key m : List Nat) : List Nat := sha256 (hmacPad key 0x5c ++ sha256 (hmacPad key 0x36 ++ m))

/-! ### AES-256

A block is a number of 128 bits, octet i at bit 8 i; octet i stands in column i / 4 and row i % 4. -/

/-- One in each of 16 octets, and in each of four columns. -/
abbrev octOnes : Nat := (2 ^ 128 - 1) / 255
abbrev colOnes : Nat := (2 ^ 128 - 1) / (2 ^ 32 - 1)

/-- Twice an element of the field of AES, in each octet of a block. -/
def aesDbl (s : Nat) : Nat := (s &&& 0x7F * octOnes) * 2 ^^^ (s >>> 7 &&& octOnes) * 0x1B

/-- Octet i takes octet i + k of its column. -/
def aesTurn (s k : Nat) : Nat := (s >>> (8 * k) &&& (2 ^ (32 - 8 * k) - 1) * colOnes) ||| (s &&& (2 ^ (8 * k) - 1) * colOnes) <<< (32 - 8 * k)

/-- Each column multiplied by the polynomial with coefficients 2, 1, 1, 3. -/
def aesMix (s : Nat) : Nat := aesDbl (s ^^^ aesTurn s 1) ^^^ aesTurn s 1 ^^^ aesTurn s 2 ^^^ aesTurn s 3

/-- A power of 3 in the field, and its inverse: 3 is 2 + 1, its inverse F6H. -/
def aesNext (x : Nat × Nat) : Nat × Nat :=
  (x.1 ^^^ aesDbl x.1, ((List.range 8).foldl (fun (y : Nat × Nat) i => (if hasBit 0xF6 i then y.1 ^^^ y.2 else y.1, aesDbl y.2)) (0, x.2)).1)

/-- An octet's inverse, added to itself turned by 1 to 4 bits and to 63H. -/
def aesAffine (i : Nat) : Nat := (List.range 4).foldl (fun v k => v ^^^ ((i * 2 ^ (k + 1)) % 256 + i / 2 ^ (7 - k))) i ^^^ 0x63

/-- Every octet but 0 with its substitute, from one power of 3 on. -/
def aesPairs : Nat → Nat × Nat → List (Nat × Nat)
  | 0, _ => []
  | n + 1, x => (x.1, aesAffine x.2) :: aesPairs n (aesNext x)

/-- All substitutes as one number, that of octet a at bit 8 a; and what each octet is the substitute of. -/
def aesBox : Nat := (aesPairs 255 (1, 1)).foldl (fun v x => v + x.2 * 2 ^ (8 * x.1)) 0x63
def aesBack : Nat := (aesPairs 255 (1, 1)).foldl (fun v x => v + x.1 * 2 ^ (8 * x.2)) 0

/-- The octets of a word, or of a block whose row k has turned by `r` k places, replaced from a table. -/
def aesSub (box n r s : Nat) : Nat :=
  (List.range n).foldl (fun v i => v + bits box (8 * bits s (8 * ((i + r * (i % 4)) % 16)) 8) 8 * 2 ^ (8 * i)) 0

/-- The key schedule: `ws` holds the words so far, latest first; each next word adds the one eight before to the latest, changed at every fourth. -/
def aesKeyFrom : Nat → Nat → List Nat → List Nat
  | 0, _, ws => ws
  | n + 1, c, ws =>
    let k := ws.length
    let last := ws.headD 0
    let t := if k % 8 = 0 then aesSub aesBox 4 0 (last / 2 ^ 8 + last % 2 ^ 8 * 2 ^ 24) ^^^ c else if k % 8 = 4 then aesSub aesBox 4 0 last else last
    aesKeyFrom n (if k % 8 = 0 then aesDbl c else c) ((t ^^^ ws.getD 7 0) :: ws)

/-- The 15 round keys of a key of 256 bits. -/
def aesKeys (key : Nat) : List Nat :=
  let ws := (aesKeyFrom 52 1 ((List.range 8).map (fun i => bits key (32 * i) 32)).reverse).reverse
  (List.range 15).map (fun i => cat ((List.range 4).map (fun j => (ws.getD (4 * i + j) 0, 32))))

/-- A block enciphered under round keys: rows turn left by their number. -/
def aesBlock (keys : List Nat) (b : Nat) : Nat :=
  aesSub aesBox 16 4 (((keys.drop 1).take 13).foldl (fun s k => aesMix (aesSub aesBox 16 4 s) ^^^ k) (b ^^^ keys.headD 0)) ^^^ keys.getLastD 0

/-- A block deciphered: the mix of columns undoes itself when made four times. -/
def aesUnblock (keys : List Nat) (b : Nat) : Nat :=
  ((keys.drop 1).take 13).reverse.foldl (fun s k => aesSub aesBack 16 12 (aesMix (aesMix (aesMix (s ^^^ k))))) (aesSub aesBack 16 12 (b ^^^ keys.getLastD 0)) ^^^ keys.headD 0

/-! ### Key wrap -/

/-- One step of AES key unwrap: `x` holds the register A and the blocks, the one whose turn it is last. A is a big-endian number. -/
def unwrapStep (keys : List Nat) (x : Nat × List Nat) (t : Nat) : Nat × List Nat :=
  let b := aesUnblock keys (ofLe (beBytes (x.1 ^^^ t) 8) + x.2.getLastD 0 * 2 ^ 64)
  (ofBe (leBytes (b % 2 ^ 64) 8), b / 2 ^ 64 :: x.2.dropLast)

/-- AES-256 key unwrap of a wrapped key of `n` blocks of 64 bits behind the first: nothing where the register does not come out as A6H in every octet. -/
def keyUnwrap (key n w : Nat) : Option Nat :=
  let keys := aesKeys key
  let x := ((List.range (6 * n)).reverse).foldl (fun x t => unwrapStep keys x (t + 1)) (ofBe (leBytes (w % 2 ^ 64) 8), (List.range n).map (fun i => bits w (64 * (i + 1)) 64))
  if x.1 = 0xA6A6A6A6A6A6A6A6 then some (cat (x.2.map (fun b => (b, 64)))) else none

/-! ### Galois counter mode -/

/-- A product in the field of GHASH; the highest bit of a block is the coefficient of 1. -/
def ghMul (x y : Nat) : Nat :=
  ((List.range 128).foldl (fun (z : Nat × Nat) i => (if hasBit x (127 - i) then z.1 ^^^ z.2 else z.1, if z.2 % 2 = 1 then z.2 / 2 ^^^ 0xE1 * 2 ^ 120 else z.2 / 2)) (0, y)).1

/-- Octets taken into a hash in blocks of 16, the last filled with zeros. -/
def ghash (h y : Nat) (l : List Nat) : Nat := (blocksOf 16 l).foldl (fun y b => ghMul (y ^^^ ofBe ((b ++ List.replicate 16 0).take 16)) h) y

/-- Octets added without carry. -/
def xorList (a b : List Nat) : List Nat := List.zipWith (· ^^^ ·) a b

/-- AES-256-GCM: what `plain` becomes under a key of 256 bits, an IV of 96 and additional data, followed by the tag of 16 octets. -/
def gcmSeal (key iv : Nat) (aad plain : List Nat) : List Nat :=
  let keys := aesKeys key
  let enc := fun (b : List Nat) => leBytes (aesBlock keys (ofLe b)) 16
  let ctr := fun k => enc (leBytes iv 12 ++ beBytes k 4)
  let text := ((blocksOf 16 plain).zipIdx 2).flatMap (fun x => xorList x.1 (ctr x.2))
  let h := ofBe (enc (List.replicate 16 0))
  let s := ghash h (ghash h (ghash h 0 aad) text) (beBytes (8 * aad.length) 8 ++ beBytes (8 * text.length) 8)
  text ++ xorList (ctr 1) (beBytes s 16)


end Sys2Proof.Machine
end

