-- ==== Sys2Proof/Machine/Operands.lean ====
section
/-! DEFINITION. How the operands of a Pyrjan command lie in its octets (R5, R328): every command of R333 reads its parameters through these. -/
namespace Sys2Proof.Machine

/-- Octets 0 to 15 of a command (R328). -/
def PyrCmd.header (c : PyrCmd) : Nat :=
  c.opcode % 256 + 2 ^ 8 * bit c.crit + 2 ^ 9 * bit c.irq + 2 ^ 10 * (c.sub % 64) + 2 ^ 16 * (c.cid % 2 ^ 16) + 2 ^ 32 * (c.prin % 8) +
    2 ^ 35 * (c.rsv % 2 ^ 13) + 2 ^ 48 * (c.target % 2 ^ 16) + 2 ^ 64 * (c.cnt % 2 ^ 64)

/-- `n` octets of the command from octet `o` (16 at the least), as a little-endian number. -/
def PyrCmd.par (c : PyrCmd) (o n : Nat) : Nat := bits c.params (8 * (o - 16)) (8 * n)

/-- Bit k of octet o. -/
def PyrCmd.parBit (c : PyrCmd) (o k : Nat) : Bool := hasBit (c.par o 1) k

end Sys2Proof.Machine
end

