-- ==== Sys2Proof/Machine/Flags.lean ====
section
/-! DEFINITION. The status pattern every block follows (R297, R298): fault bits, the first-source latch, OVF; the 576 event sources
(R340) as functions of status and mask registers, and ERR_N (R299). -/
namespace Sys2Proof.Machine

/-- A status register: its offset, its fault bits each with the value FIRST takes, its marked bits, its OVF bit and FIRST field. -/
structure Sts where
  off : Nat
  faults : List (Nat × Nat)
  marked : List Nat
  ovf : Nat
  first : Nat
  firstW : Nat
  deriving DecidableEq, Repr

/-- Fault bits `lo`, `lo + 1`, ... numbered 1, 2, ... in FIRST. -/
def seqFaults (lo n : Nat) : List (Nat × Nat) := (List.range n).map (fun i => (lo + i, i + 1))

/-- NOC.STS of router r (R24, NOC.STS). -/
def Sts.noc (r : Nat) : Sts :=
  ⟨0x80004 + 0x100 * r, [(2, 1), (3, 2), (4, 3), (5, 4), (6, 5), (7, 6), (12, 7)], [], 8, 9, 3⟩
/-- PU.ERRSTS (R61). -/
def Sts.pu (p : Nat) : Sts := ⟨0x100018 + 0x1000 * p, seqFaults 1 9, [0], 10, 11, 4⟩
/-- CP.BUFSTS (R89). -/
def Sts.buf (c : Nat) : Sts := ⟨0x1C0004 + 0x4000 * c, seqFaults 0 6, [], 6, 7, 3⟩
/-- CP.SCHSTS (R179). -/
def Sts.sch (c : Nat) : Sts := ⟨0x1C0020 + 0x4000 * c, seqFaults 0 2, [], 2, 3, 2⟩
/-- DS.STS (R131). -/
def Sts.ds (n : Nat) : Sts := ⟨0x200008 + 0x1000 * n, seqFaults 0 9, [9], 10, 11, 4⟩
/-- ST.XSTS (R271). -/
def Sts.xep (s : Nat) : Sts := ⟨0x180064 + 0x1000 * s, seqFaults 0 7, [], 7, 8, 3⟩
/-- SLT.STS (R321). -/
def Sts.slt (n : Nat) : Sts := ⟨0x90008 + 0x100 * n, seqFaults 0 8, [8, 9], 10, 11, 4⟩
/-- TOP.CTPSTS (R398). -/
def Sts.ctp : Sts :=
  ⟨0x200, (List.range 6).map (fun i => (i, i + 1)) ++ (List.range 8).map (fun i => (8 + i, 9 + i)), [6, 7], 16, 17, 5⟩
/-- TOP.FTSTS (R272). -/
def Sts.ft : Sts := ⟨0x304, [(1, 1), (3, 2), (4, 3)], [2], 5, 6, 2⟩
/-- SEC.STS (R349). -/
def Sts.sec : Sts := ⟨0x10000, seqFaults 0 11, [11], 12, 13, 4⟩
/-- SEC.CURSTS (R349). -/
def Sts.cur : Sts := ⟨0x10008, seqFaults 0 6, [6, 7], 8, 9, 3⟩
/-- SEC.LCEVT (R399). -/
def Sts.lc : Sts := ⟨0x10804, [(2, 1)], [0, 1, 3], 4, 5, 1⟩
/-- SEC.DBGSTS (R399). -/
def Sts.dbg : Sts := ⟨0x1080C, seqFaults 0 2, [2], 3, 4, 2⟩
/-- PRS.STS (R241). -/
def Sts.prs : Sts := ⟨0x30004, seqFaults 0 7, [7], 8, 9, 3⟩
/-- PAIR.STS (R304). -/
def Sts.pair : Sts := ⟨0x40004, seqFaults 0 7, [7], 8, 9, 3⟩
/-- TLY.STS (R364). -/
def Sts.tly : Sts := ⟨0x50004, seqFaults 0 4, [], 4, 5, 3⟩
/-- DMV.STS (R208). -/
def Sts.dmv : Sts := ⟨0x60004, seqFaults 0 14, [14], 15, 16, 4⟩

/-- Bit `b` of a status register as a field. -/
def Sts.bit (S : Sts) (b : Nat) : Fld := .mk3 S.off b 1 0

/-- Its FIRST field. -/
def Sts.firstF (S : Sts) : Fld := .mk3 S.off S.first S.firstW 0

/-- An event sets bit `b` (R297): a bit already set changes nothing; a fault bit enters FIRST, or sets OVF where FIRST is taken; a marked
bit does neither. -/
def Dev.raise (d : Dev) (S : Sts) (b : Nat) : Dev :=
  if d.is (S.bit b) then d else
  let d1 := d.on (S.bit b)
  match S.faults.find? (fun e => e.1 == b) with
  | none => d1
  | some (_, c) => if d.get S.firstF = 0 then d1.set S.firstF c else d1.on (S.bit S.ovf)

/-- Clear bit `b` (a RW1C write of 1). -/
def Dev.lower (d : Dev) (S : Sts) (b : Nat) : Dev := d.off (S.bit b)

/-- FIRST returns to 0 when every fault bit is clear (R297). -/
def Dev.settleFirst (d : Dev) (S : Sts) : Dev :=
  if S.faults.all (fun e => !d.is (S.bit e.1)) then d.off S.firstF else d

/-- A write of `m` to a status register: clears the bits of `m` among its RW1C bits, then FIRST settles (R6, R297). -/
def Dev.clearSts (d : Dev) (S : Sts) (m : Nat) : Dev :=
  ((S.faults.map (·.1) ++ S.marked ++ [S.ovf]).foldl (fun d b => if hasBit m b then d.lower S b else d) d).settleFirst S

/-- Every status register of the pattern. -/
def allSts : List Sts :=
  [.ctp, .ft, .sec, .cur, .lc, .dbg, .prs, .pair, .tly, .dmv] ++ (List.range 36).map .noc ++ (List.range 64).map .pu ++
    (List.range 4).map .buf ++ (List.range 4).map .sch ++ (List.range 16).map .ds ++ (List.range 16).map .xep ++
    (List.range 32).map .slt

/-- The status register at an offset. -/
def stsAt (off : Nat) : Option Sts :=
  if 0x80000 ≤ off ∧ off < 0x82400 ∧ off % 0x100 = 4 then some (.noc ((off - 0x80000) / 0x100))
  else if 0x90000 ≤ off ∧ off < 0x92000 ∧ off % 0x100 = 8 then some (.slt ((off - 0x90000) / 0x100))
  else if 0x100000 ≤ off ∧ off < 0x140000 ∧ off % 0x1000 = 0x18 then some (.pu ((off - 0x100000) / 0x1000))
  else if 0x180000 ≤ off ∧ off < 0x190000 ∧ off % 0x1000 = 0x64 then some (.xep ((off - 0x180000) / 0x1000))
  else if 0x1C0000 ≤ off ∧ off < 0x1D0000 ∧ off % 0x4000 = 4 then some (.buf ((off - 0x1C0000) / 0x4000))
  else if 0x1C0000 ≤ off ∧ off < 0x1D0000 ∧ off % 0x4000 = 0x20 then some (.sch ((off - 0x1C0000) / 0x4000))
  else if 0x200000 ≤ off ∧ off < 0x210000 ∧ off % 0x1000 = 8 then some (.ds ((off - 0x200000) / 0x1000))
  else [Sts.ctp, .ft, .sec, .cur, .lc, .dbg, .prs, .pair, .tly, .dmv].find? (fun S => S.off == off)

/-- One part of an event source: a status bit and the bit that masks it. -/
structure SrcBit where
  sts : Fld
  mask : Fld
  fault : Bool
  deriving DecidableEq, Repr

/-- Bits `lo ..< lo + n` of a status register, bit k masked by bit `moff + k` of the register at `m`. -/
def srcBits (S : Sts) (m moff lo n : Nat) : List SrcBit :=
  (List.range n).map (fun i => ⟨S.bit (lo + i), .mk3 m (moff + lo + i) 1 0, S.faults.any (fun e => e.1 == lo + i)⟩)

/-- A protection record's source (R160): VIO under its own mask bit. -/
def srcProt (off : Nat) : List SrcBit := [⟨.mk3 off 0 1 0, .mk3 off 2 1 0, true⟩]

/-- The parts of event source `n` (R340). -/
def source (n : Nat) : List SrcBit :=
  if n < 256 then
    let p := n / 4
    let m := 0x10001C + 0x1000 * p
    match n % 4 with
    | 0 => srcBits (.pu p) m 0 0 3
    | 1 => srcBits (.pu p) m 0 3 3
    | 2 => srcBits (.pu p) m 0 6 2
    | _ => srcBits (.pu p) m 0 8 2
  else if n < 288 then
    let s := (n - 256) / 2
    if n % 2 = 0 then srcProt (0x180040 + 0x1000 * s) else srcBits (.xep s) (0x180068 + 0x1000 * s) 0 0 7
  else if n < 336 then
    let s := (n - 288) / 3
    let m := 0x20000C + 0x1000 * s
    match (n - 288) % 3 with
    | 0 => srcBits (.ds s) m 0 0 3
    | 1 => srcBits (.ds s) m 0 3 6
    | _ => srcBits (.ds s) m 0 9 1
  else if n < 352 then
    let c := (n - 336) / 4
    let m := 0x1C0008 + 0x4000 * c
    match n % 4 with
    | 0 => srcBits (.buf c) m 0 0 2
    | 1 => srcBits (.buf c) m 0 2 1
    | 2 => srcBits (.buf c) m 0 3 1
    | _ => srcBits (.buf c) m 0 4 2
  else if n < 360 then
    let c := (n - 352) / 2
    srcBits (.sch c) (0x1C0024 + 0x4000 * c) 0 (n % 2) 1
  else if n < 396 then
    let r := n - 360
    (List.range 7).map (fun i =>
      ⟨(Sts.noc r).bit (if i = 6 then 12 else 2 + i), .mk3 (0x80000 + 0x100 * r) (16 + i) 1 0, true⟩)
  else if n < 492 then
    let s := (n - 396) / 3
    let m := 0x9000C + 0x100 * s
    match (n - 396) % 3 with
    | 0 => srcBits (.slt s) m 0 0 4
    | 1 => srcBits (.slt s) m 0 4 4
    | _ => srcBits (.slt s) m 0 8 2
  else if n < 507 then srcBits .dmv 0x60008 0 (n - 492) 1
  else if n = 507 then srcProt 0x70010
  else if n < 512 then srcBits .tly 0x50008 0 (n - 508) 1
  else if n < 520 then srcBits .prs 0x30008 0 (n - 512) 1
  else if n < 528 then srcBits .pair 0x40008 0 (n - 520) 1
  else if n < 540 then srcBits .sec 0x10004 0 (n - 528) 1
  else if n < 556 then srcBits .ctp 0x204 0 (n - 540) 1
  else if n < 564 then srcBits .cur 0x10004 16 (n - 556) 1
  else if n < 568 then
    let k := n - 564
    [⟨Sts.ft.bit (k + 1), .mk3 0x308 k 1 0, k ≠ 1⟩]
  else if n < 572 then srcBits .lc 0x10808 0 (n - 568) 1
  else if n = 572 then srcProt 0x70020
  else srcBits .dbg 0x10810 0 (n - 573) 1

/-- A bit of a register that keeps its bits in one field of any width: the mask registers. -/
def Dev.regBit (d : Dev) (f : Fld) : Bool :=
  match findReg (f.key / 32) with
  | none => false
  | some r => r.flds.any (fun g => g.lsb ≤ f.key % 32 && f.key % 32 < g.lsb + g.w &&
      hasBit (d.get (.mk3 (f.key / 32) g.lsb g.w g.rst)) (f.key % 32 - g.lsb))

/-- The source is active: some bit of it is set and not masked (R297). -/
def Dev.active (d : Dev) (n : Nat) : Bool := (source n).any (fun b => d.is b.sts && !d.regBit b.mask)

/-- The source is active through a fault bit (R299). -/
def Dev.activeFault (d : Dev) (n : Nat) : Bool := (source n).any (fun b => b.fault && d.is b.sts && !d.regBit b.mask)

/-- The sources that hold ERR_N low (R299): active through a fault bit, and not masked in FLT.ERRMASK. -/
def Dev.errSources (d : Dev) : List Nat :=
  (List.range 576).filter (fun n => d.activeFault n && !hasBit (d.get (R.ERRMASK.VALUE (n / 32))) (n % 32))

/-- ERR_N is driven low (R299, R378): a source holds it, or the device is in SAFE or in a safe-state sequence, or the root
PLL failed to lock. -/
def Dev.errNLow (d : Dev) : Bool :=
  if d.clk.pllFail then true
  else if !d.pins.perstN then false
  else (d.saving && d.get R.PRS.RESULT.CAUSE == 3) || d.get R.PRS.STATE.SEQ == 8 || !d.errSources.isEmpty

end Sys2Proof.Machine
end

