-- ==== Sys2Proof/Machine/Buffer.lean ====
section
/-! DEFINITION. The shared buffer (R62 to R73): cells, charges, reservations, the pool, credits; the release of messages. -/
namespace Sys2Proof.Machine

/-- A port unit's record. -/
def Dev.prt (d : Dev) (p : Nat) : PortRt := Tbl.get d.port {} p

/-- Store a port unit's record. -/
def Dev.setPrt (d : Dev) (p : Nat) (r : PortRt) : Dev := { d with port := Tbl.set d.port {} p r }

/-- Change a port unit's record. -/
def Dev.updPrt (d : Dev) (p : Nat) (f : PortRt → PortRt) : Dev := d.setPrt p (f (d.prt p))

/-- Set a bit of a number. -/
def setB (m k : Nat) : Nat := if hasBit m k then m else m + 2 ^ k

/-- Clear a bit of a number. -/
def clrB (m k : Nat) : Nat := if hasBit m k then m - 2 ^ k else m

/-- The compartment of port unit p (R10). -/
def cpOf (p : Nat) : Nat := p / 16

/-- The port a port unit belongs to: the lowest unit of the existing port that covers it (R11, R44). -/
def Dev.portOf (d : Dev) (pu : Nat) : Option Nat :=
  [pu, pu / 2 * 2, pu / 4 * 4].find? (fun p => (d.prt p).ex && p ≤ pu && pu < p + (d.prt p).width)

/-- Roles (PU.CFG.ROLE). -/
def Dev.role (d : Dev) (p : Nat) : Nat := d.get (R.PU.CFG.ROLE p)

/-- Bring-up state of a port (PU.LNKSTS.STATE): 0 OFF, 1 WAIT_PWR, 2 DETECT, 3 STEP, 4 UP, 5 DIAG. -/
def Dev.linkSt (d : Dev) (p : Nat) : Nat := d.get (R.PU.LNKSTS.STATE p)

/-- The port exists and is in UP. -/
def Dev.isUp (d : Dev) (p : Nat) : Bool := (d.prt p).ex && d.linkSt p == 4

/-- A HOST port (ROLE 1), a MEM port (2), a XEPIN port (3), a MIRROR port (4) that exists. -/
def Dev.isHost (d : Dev) (p : Nat) : Bool := (d.prt p).ex && d.role p == 1
def Dev.isMem (d : Dev) (p : Nat) : Bool := (d.prt p).ex && d.role p == 2
def Dev.isXep (d : Dev) (p : Nat) : Bool := (d.prt p).ex && (d.role p == 3 || d.role p == 4)

/-! ### Lanes (R49, R52, R53) -/

/-- Lane i of port p lies in port unit p + i / 4. -/
def laneCount (w : Nat) : Nat := 4 * w

/-- A bit of a port's lane i in a register that has one per lane of a port unit. -/
def Dev.laneBit (d : Dev) (f : Nat → Fld) (p i : Nat) : Bool := hasBit (d.get (f (p + i / 4))) (i % 4)

/-- Lane i carries traffic at the present width: the lowest lanes of the port or, reversed, the highest. -/
def Dev.laneActive (d : Dev) (p i : Nat) : Bool :=
  let w := 2 ^ d.get (R.PU.LNKSTS.LWIDTH p)
  if d.is (R.PU.LNKSTS.REVERSED p) then decide (laneCount (d.prt p).width ≤ i + w) else decide (i < w)

/-- Lane i's lock timer runs (R52): in L0, L0p or Recovery, not idled by L0p, not failed, without symbol lock. -/
def Dev.laneTimed (d : Dev) (p i : Nat) : Bool :=
  d.linkSt p == 4 && decide (d.get (R.PU.LNKSTS.PM p) < 2) && d.laneActive p i && !d.laneBit R.PU.LNKSTS.LANEFAIL p i && !d.laneBit R.PU.LNKSTS.SYMLOCK p i

/-- The lock timers of a port after a change of its link: one that has to run goes on or starts now, the others stand at zero (R52). -/
def Dev.lockTimers (d : Dev) (p : Nat) : Dev :=
  if (d.prt p).ex then
    d.updPrt p (fun r => { r with unlockAt := (List.range (laneCount r.width)).foldl (fun (t : Tbl Nat) i =>
      if d.laneTimed p i then (if (Tbl.get? t i).isSome then t else Tbl.put t i d.time.cclk) else Tbl.erase t i) r.unlockAt })
  else d

/-- The MIRROR port. -/
def Dev.mirrorPort (d : Dev) : Option Nat := (List.range 64).find? (fun p => (d.prt p).ex && d.role p == 4)

/-! ### Link groups (R82, R260) -/

/-- The bucket of a slice and a request address (R82). -/
def bucketOf (slice addr : Nat) : Nat :=
  let page := addr / 2 ^ 12 % 2 ^ 40
  let h := (page ^^^ (page / 2 ^ 20)) % 2 ^ 20
  let h := h ^^^ (slice * 0x2F5)
  let h := h ^^^ (h / 2 ^ 10)
  (h ^^^ (h / 2 ^ 5)) % 64

/-- The group a port is a member of. -/
def Dev.groupOf (d : Dev) (p : Nat) : Option Nat := (List.range 8).find? (fun g => hasBit (Tbl.get d.xgrp.members 0 g) p)

/-- The port a message to the neighbour behind port `p` leaves on: the MIRROR port itself, else the link of its bucket (R260). -/
def Dev.linkFor (d : Dev) (p slice addr : Nat) : Nat :=
  if d.role p = 3 then
    match d.groupOf p with
    | some g => (Tbl.get d.xgrp.buckets none (64 * g + bucketOf slice addr)).getD p
    | none => p
  else p

/-! ### Cells -/

/-- Cells of a bank in use: a message touches them, or a writer has them open. -/
def Buf.used (b : Buf) (bank : Nat) : Nat :=
  (b.cells.filter (fun e => e.1 / 4096 == bank)).length + (b.opens.filter (fun o => o.2.1 / 4096 == bank && Tbl.get b.cells 0 o.2.1 == 0)).length

/-- Free cells of a bank (R62). -/
def Buf.free (b : Buf) (bank : Nat) : Nat := 4096 - b.used bank

/-- Open cells of a bank (R64). -/
def Buf.openIn (b : Buf) (bank : Nat) : Nat := (b.opens.filter (fun e => e.2.1 / 4096 == bank)).length

/-- The lowest cell of a bank that is not in use. -/
def Buf.pick (b : Buf) (bank : Nat) : Option Nat :=
  ((List.range (b.cells.length + b.opens.length + 1)).find? (fun i => i < 4096 && (Tbl.get b.cells 0 (bank * 4096 + i) == 0) && b.opens.all (fun o => o.2.1 != bank * 4096 + i))).map (fun i => bank * 4096 + i)

/-- A bank the allocator may open a cell in (R64): a free cell and fewer than 2 open cells. -/
def Buf.mayOpen (b : Buf) (bank : Nat) : Bool := bank < 64 && 0 < b.free bank && b.openIn bank < 2

/-- The lowest-numbered bank R64 admits. -/
def Buf.anyBank (b : Buf) : Option Nat := (List.range 64).find? b.mayOpen

/-- Add `n` to a count kept in a table. -/
def tadd (t : Tbl Nat) (k n : Nat) : Tbl Nat := Tbl.set t 0 k (Tbl.get t 0 k + n)

/-- Take `n` from a count kept in a table. -/
def tsub (t : Tbl Nat) (k n : Nat) : Tbl Nat := Tbl.set t 0 k (Tbl.get t 0 k - n)

/-- One message fewer touches each of these cells; a cell nothing touches is free (R66). -/
def Buf.untouch (b : Buf) (cs : List Nat) : Buf := { b with cells := cs.foldl (fun t c => tsub t c 1) b.cells }

/-! ### Charges and the pool -/

/-- Cells charged to a slice. -/
def Buf.chg (b : Buf) (s : Nat) : Nat := Tbl.get b.charge 0 s

/-- Pool cells of a slice: its charge above 256 (R69). -/
def Buf.poolUse (b : Buf) (s : Nat) : Nat := b.chg s - 256

/-- The size of the shared pool (R67). -/
def Buf.pool (b : Buf) : Nat := 262144 - 4096 - (b.resv.foldl (fun n e => n + e.2) 0)

/-- POOL_FREE (R69). -/
def Buf.poolFree (b : Buf) : Nat := b.pool - (b.charge.foldl (fun n e => n + (e.2 - 256)) 0)

/-- Charge cells to a slice. -/
def Dev.charge (d : Dev) (s n : Nat) : Dev := { d with buf := { d.buf with charge := tadd d.buf.charge s n } }

/-- Take back a charge. -/
def Dev.uncharge (d : Dev) (s n : Nat) : Dev := { d with buf := { d.buf with charge := tsub d.buf.charge s n } }

/-- Cells a message of `n` bytes touches when it is written whole. -/
def cellsFor (n : Nat) : Nat := max 1 ((n + 255) / 256)

/-- Release a message (R66, R68): it leaves the buffer, its cells and its charge with it; the cells held for its response stay when `keepResp`. -/
def Dev.release (d : Dev) (m : Msg) (keepResp : Bool) : Dev :=
  let b := { d.buf with msgs := d.buf.msgs.filter (fun x => x.id != m.id) }
  let b := b.untouch m.cells
  let b := match m.slice with
    | some s => { b with charge := tsub b.charge s (m.chg + (if keepResp then 0 else m.resp)) }
    | none => b
  let b := match m.sysPu with
    | some p => { b with sysUse := tsub b.sysUse p m.sysN }
    | none => b
  { d with buf := b }

/-- The oldest arrival a command names: what a unit or frame brought and no command has taken yet (log entry 40). -/
def Dev.arrival (d : Dev) (q : Msg → Bool) : Option Msg := d.buf.msgs.find? (fun m => m.stage == 3 && q m)

/-- An arrival is taken out: what became of it holds cells of its own right. -/
def Dev.taken (d : Dev) (a : Option Msg) : Dev := a.elim d (fun m => d.release m false)

/-- `n` free cells in banks a cell may be opened in. -/
def Buf.room (b : Buf) (n : Nat) : Bool := decide (n ≤ ((List.range 64).filter (fun k => b.openIn k < 2)).foldl (fun x k => x + b.free k) 0)

/-- A command's message: the arrival it names, in whose cells it goes on, or, where none is there, one that comes whole with this command and needs cells of
its own: without them it is discarded (R72). -/
def Dev.withArrival (d : Dev) (p bytes : Nat) (a : Option Msg) (f : Dev → Dev) : Dev :=
  match a with
  | some m => (f d).taken (some m)
  | none => if d.buf.room (cellsFor bytes) then f d else d.raise (.buf (cpOf p)) 2

/-- The bucket a message falls in (R82, R251): of its slice and request address. -/
def Msg.bucket (m : Msg) : Nat :=
  match m.x with
  | some x => bucketOf (if x.sys then 0 else x.slice) x.addr
  | none => bucketOf (m.slice.getD 0) m.pool

/-- Change a message in place. -/
def Dev.updMsg (d : Dev) (id : Nat) (f : Msg → Msg) : Dev :=
  { d with buf := { d.buf with msgs := d.buf.msgs.map (fun m => if m.id = id then f m else m) } }

/-- The code of a class: in a Xepin header (R251), as the bit of CMASK (R351). -/
def Cls.idx : Cls → Nat
  | .sc0 => 0
  | .sc1 => 1
  | .sc2 => 2
  | .sc3 => 3
  | .scp => 4

/-- What R79 makes of where a message came from: an ingress port, a Skidder queue, the originator a Xepin frame names. -/
def Src.origin : Src → List Nat
  | .host p | .io p => [0, p]
  | .skid q => [1, q]
  | .xep _ odev oq oidx _ => [2, odev, bit oq, oidx]
  | .peer _ odev oidx => [2, odev, 0, oidx]
  | .dev => [3]

/-- Kinds that carry a request answered with data. -/
def MsgKind.asksData : MsgKind → Bool
  | .memRead => true
  | .ioRead => true
  | .atomic => true
  | _ => false

/-- The message is a request in the sense of R85. -/
def MsgKind.isReq : MsgKind → Bool
  | .memRead | .memWrite | .memInv | .memWb | .atomic | .ioRead | .ioWrite | .mapref => true
  | _ => false

/-- An injection channel counts `n` units (R301). -/
def InjCh.countN (c : InjCh) (n : Nat) : InjCh := (List.range n).foldl (fun (c : InjCh) _ => if c.armed then c.count else c) c

/-- Injection on `n` words written to a bank of compartment cp (R302, BUF): inverted check bits in the first word, in a later one (0, 1, 2); the
channels after counting. -/
def Dev.bufInject (d : Dev) (cp n : Nat) : Nat × Nat × Tbl InjCh :=
  let hit := fun (c : InjCh) => c.armed && c.chk == 0 && c.inst == cp
  let hs := (d.inj.filter (fun e => hit e.2)).map (·.2)
  let lvl := fun (l : List InjCh) => if l.any (·.double) then 2 else if l.isEmpty then 0 else 1
  (lvl hs, if n < 2 then 0 else lvl (hs.filter (fun c => 2 ≤ c.left)), d.inj.map (fun (k, c) => if hit c then (k, c.countN n) else (k, c)))

/-- The message carries data (R75): writes, AtomicOps and data responses. -/
def Msg.hasData (m : Msg) : Bool :=
  match m.kind with
  | .memWrite | .memWb | .ioWrite | .atomic | .data | .ioCplData => true
  | _ => false

/-- The bytes of memory a request accesses, from its address on. -/
def Msg.span (m : Msg) : Nat := max 1 (if m.hasData && m.kind != .atomic then m.bytes - 16 else m.ask)

/-- The lines an access of n bytes at an address meets. -/
def linesOf (a n : Nat) : Nat := (a + max n 1 - 1) / 64 - a / 64 + 1

/-- The lines a request asks the directory for, one after the other: a host's CXL.mem request is for one (R104). -/
def Msg.lines (m : Msg) : Nat :=
  match m.src with
  | .host _ | .peer _ _ _ => 1
  | _ => linesOf m.pool m.span

/-- Its answers are put together, and it stays until it has them all (log entry 170): a request of CXL.io, the Skidder, another device. -/
def Msg.gathers (m : Msg) : Bool :=
  match m.src with
  | .io _ | .skid _ | .xep _ _ _ _ _ => true
  | _ => false

/-- What an injection does to a message: its header lies in the first word written, its data in the words after it (log entry 14). -/
def Msg.hurt (m : Msg) (head body : Nat) : Msg :=
  { m with flaw := if head ≠ 0 then max m.flaw (head + 2) else if body ≠ 0 ∧ m.hasData = true then max m.flaw body else m.flaw }

/-! ### Credits (R69, R70) -/

/-- inflight[p]: the worst-case cells of the credits granted and not yet seen used. -/
def Credits.cells (c : Credits) : Nat :=
  4 * c.memReq + 2 * c.memData + 2 * (c.ioPHdr + c.ioNpHdr + c.ioCplHdr) + (c.ioPData + c.ioNpData + c.ioCplData + 15) / 16

/-- The number of a credit kind, as it is granted. -/
def CreditKind.code : CreditKind → Nat
  | .memReq => 0
  | .memData => 1
  | .ioPHdr => 2
  | .ioNpHdr => 3
  | .ioCplHdr => 4
  | .ioPData => 5
  | .ioNpData => 6
  | .ioCplData => 7

/-- One more credit of a kind. -/
def Credits.add (c : Credits) (k : CreditKind) : Credits :=
  match k with
  | .memReq => { c with memReq := c.memReq + 1 }
  | .memData => { c with memData := c.memData + 1 }
  | .ioPHdr => { c with ioPHdr := c.ioPHdr + 1 }
  | .ioNpHdr => { c with ioNpHdr := c.ioNpHdr + 1 }
  | .ioCplHdr => { c with ioCplHdr := c.ioCplHdr + 1 }
  | .ioPData => { c with ioPData := c.ioPData + 1 }
  | .ioNpData => { c with ioNpData := c.ioNpData + 1 }
  | .ioCplData => { c with ioCplData := c.ioCplData + 1 }

/-- The credits a message of a kind uses: 16-B units for CXL.io data. -/
def Credits.use (c : Credits) (k : MsgKind) (bytes : Nat) : Credits :=
  let u := (bytes + 15) / 16
  match k with
  | .memRead | .memInv => { c with memReq := c.memReq - 1 }
  | .memWrite | .memWb => { c with memData := c.memData - 1 }
  | .ioWrite => { c with ioPHdr := c.ioPHdr - 1, ioPData := c.ioPData - u }
  | .ioRead => { c with ioNpHdr := c.ioNpHdr - 1 }
  | .atomic => { c with ioNpHdr := c.ioNpHdr - 1, ioNpData := c.ioNpData - u }
  | .ioCpl => { c with ioCplHdr := c.ioCplHdr - 1 }
  | .ioCplData => { c with ioCplHdr := c.ioCplHdr - 1, ioCplData := c.ioCplData - u }
  | _ => c

/-- A code of an existing HOST port's inflight. -/
def Dev.inflight (d : Dev) (p : Nat) : Nat := (d.prt p).grant.cells

/-- Take a resource from the slice limit: 256 + SLICE_CAP (R69). -/
def Dev.sliceLimit (d : Dev) : Nat := 256 + d.get (R.CP.POOLCFG.SLICE_CAP 0)

/-- The pool test of R70, given the slices bound to each HOST port: `bound` of p, and `others` the further HOST ports with theirs. -/
def Dev.mayGrant (d : Dev) (p w : Nat) (bound : Nat → List Nat) : Bool :=
  let need := d.inflight p + w
  let use := (bound p).any (fun s => 256 < d.buf.chg s + need)
  let inPool := ((List.range 64).filter (fun q => q != p && d.isHost q &&
    (bound q).any (fun s => 256 < d.buf.chg s + d.inflight q))).foldl (fun n q => n + d.inflight q) 0
  (bound p).all (fun s => d.buf.chg s + need ≤ d.sliceLimit) && !(use && d.buf.poolFree < inPool + need)

/-! ### Hold machine and cut-through failure -/

/-- Hold machine states (R84). -/
abbrev holdService : Nat := 0
abbrev holdHold : Nat := 1
abbrev holdExpired : Nat := 2

/-- A MEM port that was not UP at resume-ready (R234). -/
abbrev holdAbsent : Nat := 3

/-- A corrected error in the buffer of compartment c (R88). -/
def Dev.bufCe (d : Dev) (c : Nat) : Dev :=
  let d := d.addSat (R.CP.BUFSTS.CE_CNT c) 1
  if d.get (R.CP.BUFCTL.CE_THRESH c) ≤ d.get (R.CP.BUFSTS.CE_CNT c) then d.raise (.buf c) 1 else d

end Sys2Proof.Machine
end

