-- ==== Sys2Proof/Machine/Catalogue.lean ====
section
/-! DEFINITION. The Catalogue image as a record and as sealed bytes (R226 to R228, R394), and configuration changes (R229, R230). The layouts of the MGMT, PAIR and
KEYS sections, which the spec leaves to the device, are log entry 15's. -/
namespace Sys2Proof.Machine

/-! ### Images (R226, R230) -/

/-- The field belongs to the CAT domain (R393, R394). -/
def isCat (key : Nat) : Bool := (findFld key).any (fun f => f.dom == .cat)

/-- The field belongs to the AON domain. -/
def isAon (key : Nat) : Bool := (findFld key).any (fun f => f.dom == .aon)

/-- The configuration sequence number (R229). -/
def Dev.cfgSeq (d : Dev) : Nat := d.get64 R.PRS.CFGSEQ_L.VALUE R.PRS.CFGSEQ_H.VALUE

/-- Set CFG_SEQ. -/
def Dev.setCfgSeq (d : Dev) (n : Nat) : Dev := d.set64 R.PRS.CFGSEQ_L.VALUE R.PRS.CFGSEQ_H.VALUE n

/-- The image of the device as it is (R226). `src`: 0 the save sequence, 1 the journal. A queue's FPHASE is that of the pass of HEAD, from where its
owner's descriptors are fetched again. -/
def Dev.image (d : Dev) (src : Nat) : Image :=
  { devId := d.pins.devId, role := d.is R.PAIR.STATE.ROLE, source := src, cause := if src = 0 then d.get R.PRS.RESULT.CAUSE else 0,
    p1Late := d.is R.PRS.RESULT.P1_LATE, p2Miss := d.is R.PRS.RESULT.P2_MISS, cfgSeq := d.cfgSeq,
    saveTime := d.get64 R.PRS.SAVETIME_L.VALUE R.PRS.SAVETIME_H.VALUE, lostLines := d.get R.PRS.LOSTLINES.VALUE,
    gpfOk := d.get64 R.PRS.GPFOK_L.VALUE R.PRS.GPFOK_H.VALUE, gpfMiss := d.get64 R.PRS.GPFMISS_L.VALUE R.PRS.GPFMISS_H.VALUE,
    p0t := d.get R.PRS.P0T.US, p1t := d.get R.PRS.P1T.US, p2t := d.get R.PRS.P2T.US,
    slices := d.slices, extents := d.extents, rules := d.rules, cwins := d.cwins, polices := d.polices, classes := d.classes, gcls := d.gcls,
    dlogs := d.dlogs, queues := Tbl.remap d.queues {} (fun q (e : QueueE) => { e with fphase := (Tbl.get d.skid.rt {} q).hphase }), regs := Tbl.keep d.regs isCat, xgrp := d.xgrp, sdumps := d.sdumps, ctrsels := d.ctrsels,
    keys := d.mgmt.keys, rings := d.mgmt.rings, commits := d.mgmt.recs }

/-- An image with an IV of its own (R228). -/
def Dev.drawImage (d : Dev) (src : Nat) : Image × Dev := ({ d.image src with iv := (d.draw 96).1 }, (d.draw 96).2)

/-! ### The REG section (R394) -/

/-- The CAT bits of a register among an image's register fields. -/
def catVal (t : Tbl Nat) (off : Nat) : Nat :=
  match findReg off with
  | none => 0
  | some r => (r.flds.filter (fun f => f.dom == .cat)).foldl (fun n f => n + Tbl.get t f.rst (off * 32 + f.lsb) * 2 ^ f.lsb) 0

/-- The registers with CAT bits, in the order of their offsets. -/
def catRegs : List Nat :=
  (regMap.flatMap (fun b => (List.range b.count).flatMap (fun k => (b.regs.filter (fun r => r.flds.any (fun f => f.dom == .cat))).map (fun r => b.base + b.stride * k + r.off)))).mergeSort

/-- The nonzero 32-bit words of an entry of `n` words at `off`, each with its offset. -/
def wordsOf (off x n : Nat) : List (Nat × Nat) := ((List.range n).map (fun k => (off + 4 * k, bits x (32 * k) 32))).filter (fun w => w.2 != 0)

/-- The items of the REG section that are not registers: nonzero words of the XGRP header, of SDUMP and of CTRSEL entries. -/
def Image.wordItems (i : Image) : List (Nat × Nat) :=
  wordsOf 0x1070000 (packXgrpHdr i.xgrp) 10 ++ (List.range 512).flatMap (fun k => wordsOf (0x1072000 + 16 * k) (packSdump (Tbl.get i.sdumps {} k)) 4) ++
    (List.range 10272).flatMap (fun k => wordsOf (0x1080000 + 8 * k) (packCtrSel (Tbl.get i.ctrsels {} k)) 2)

/-- What the section carries of them: no more than 3,072 items in all. -/
def Image.carried (i : Image) : List (Nat × Nat) := i.wordItems.take (3072 - catRegs.length)

/-- An entry whose words the section does not carry whole is restored as zero. -/
def carriesAll (l : List (Nat × Nat)) (off x n : Nat) : Bool := (wordsOf off x n).all l.contains

/-- SDUMP and CTRSEL entries as the REG section brings them back. -/
def Image.regSection (i : Image) : Tbl SdumpE × Tbl CtrSelE :=
  let l := i.carried
  (Tbl.remap i.sdumps {} (fun k (e : SdumpE) => if carriesAll l (0x1072000 + 16 * k) (packSdump e) 4 then e else unpackSdump 0),
    (List.range 10272).foldl (fun t k => let e := Tbl.get i.ctrsels {} k; Tbl.set t {} k (if carriesAll l (0x1080000 + 8 * k) (packCtrSel e) 2 then e else unpackCtrSel 0)) [])

/-! ### The sections as bytes (R226, R227) -/

/-- A table of `n` entries of `stride` bytes. -/
def tableBytes {α : Type} (n stride : Nat) (pack : α → Nat) (get : Nat → α) : List Nat := (List.range n).flatMap (fun k => leBytes (pack (get k)) stride)

/-- A part filled with zeros to its length. -/
def padTo (n : Nat) (l : List Nat) : List Nat := l ++ List.replicate (n - l.length) 0

/-- Types and lengths of the sections, in order. -/
def sections : List (Nat × Nat) :=
  [(1, 4096), (2, 32768), (3, 524288), (4, 65536), (5, 4096), (6, 16384), (7, 4096), (8, 131072), (9, 16384), (10, 69632), (11, 24576), (12, 4096), (13, 4096), (14, 4096)]

/-- Where a section starts. -/
def sectionOff (t : Nat) : Nat := ((sections.filter (fun x => x.1 < t)).map (·.2)).foldl (· + ·) 0

/-- The header (R227). -/
def Image.header (i : Image) : Nat :=
  cat [(0x43544143, 32), (i.format, 16), (i.devId, 3), (bit i.role, 1), (i.source, 2), (i.cause, 3), (bit i.p1Late, 1), (bit i.p2Miss, 1), (0, 5), (i.cfgSeq, 64),
    (i.saveTime, 64), (i.len, 32), (sections.length, 16), (0, 16), (i.iv, 96), (i.lostLines, 32), (i.gpfOk, 64), (i.gpfMiss, 64), (i.p0t, 16), (i.p1t, 16), (i.p2t, 16)]

/-- The directory entry of a section (R227). -/
def dirEntry (x : Nat × Nat) : List Nat := leBytes (cat [(x.1, 8), (0, 24), (sectionOff x.1, 32), (x.2, 32)]) 16

/-- A gate list bank, 1,024 B as its window shows it (R175). -/
def bankBytes1K (g : GclBank) : List Nat := padTo 512 (leBytes (packGclHdr g) 16) ++ tableBytes 64 8 packGate (Tbl.get g.entries {})

/-- A commit record, 32 B. -/
def packRec (r : CommitRec) : Nat :=
  cat [(r.prin, 3), (bit r.done, 1), (0, 4), (r.cmd.opcode, 8), (r.cmd.slot, 16), (r.cmd.cid, 16), (r.cmd.target, 16), (r.status, 8), (r.code, 8), (bit r.cmd.irq, 1), (0, 47), (r.result, 128)]

/-- A principal's set-up, 32 B: its pointers, and its event ring. -/
def packSetup (p : Nat) (r : RingE) : Nat :=
  cat [(packRing p r, 128), (bit r.evEn, 1), (r.evSize, 5), (r.evSub, 8), (0, 2), (r.evPi, 16), (0, 32), (r.evBase, 64)]

/-- A principal's key, 64 B. -/
def packKeyRec (k : KeyE) : Nat := cat [(k.key.getD 0, 256), (k.cnt, 64), (k.jcnt, 64), (bit k.key.isSome, 1), (0, 7), (k.rights, 8)]

/-- The sections before KEYS: the additional authenticated data of R228. -/
def Image.clear (i : Image) : List Nat :=
  padTo 4096 (leBytes i.header 128 ++ sections.flatMap dirEntry) ++ tableBytes 512 64 packSlice (Tbl.get i.slices {}) ++ tableBytes 65536 8 packExtent (Tbl.get i.extents {}) ++
    tableBytes 4096 16 packRule (Tbl.get i.rules {}) ++ tableBytes 256 16 packCWin (Tbl.get i.cwins {}) ++ tableBytes 512 32 packPolice (Tbl.get i.polices {}) ++
    tableBytes 256 16 packClass (fun k => Tbl.get i.classes (clsDef k) k) ++ (List.range 128).flatMap (fun k => bankBytes1K (Tbl.get i.gcls {} k)) ++
    tableBytes 512 32 packDlog (Tbl.get i.dlogs {}) ++ padTo 69632 (tableBytes 1040 64 packQueue (Tbl.get i.queues {})) ++
    padTo 24576 ((catRegs.map (fun o => (o, catVal i.regs o)) ++ i.carried).flatMap (fun w => leBytes w.1 4 ++ leBytes w.2 4)) ++
    (padTo 4096 (tableBytes 8 32 (packSetup 0) (Tbl.get i.rings {}) ++ i.commits.flatMap (fun r => leBytes (packRec r) 32))).take 4096 ++
    padTo 4096 (leBytes (bit i.role) 8)

/-- The KEYS section before it is encrypted. -/
def Image.keySection (i : Image) : List Nat := padTo 4096 (tableBytes 8 64 packKeyRec (Tbl.get i.keys {}))

/-- The image as it is written (R226, R228): KEYS encrypted, the tag in the last 16 B. -/
def Image.bytes (i : Image) : List Nat := i.clear ++ gcmSeal Config.catKey i.iv i.clear i.keySection

/-! ### Configuration changes (R229) -/

/-- A committed change to CAT-domain state advances CFG_SEQ and waits to be journaled (R229, R232). -/
def Dev.cfgChange (d : Dev) : Dev :=
  let d := d.setCfgSeq (d.cfgSeq + 1)
  { d.addSat R.PRS.JRNSTS.PEND 1 with prs := { d.prs with chg := d.prs.chg ++ [{ at_ := d.time.cclk, seq := d.cfgSeq, after := d.image 1 }] } }

/-- The latest change was made by a principal's command: its record carries that principal's counter (R230, R231). -/
def Dev.changedBy (d : Dev) (prin : Nat) : Dev :=
  let cnt := (Tbl.get d.mgmt.keys {} prin).cnt
  let d := { d with mgmt := { d.mgmt with keys := Tbl.upd d.mgmt.keys {} prin (fun k => { k with jcnt := cnt }) } }
  match d.prs.chg.getLast? with
  | none => d
  | some c => { d with prs := { d.prs with chg := d.prs.chg.dropLast ++ [{ c with dev := false, prin := prin, cnt := cnt, after := d.image 1 }] } }

end Sys2Proof.Machine
end

