-- ==== Sys2Proof/Machine/Protect.lean ====
section
/-! DEFINITION. Counters (R350 to R353), slices, attribution, translation and region rules (R137 to R149),
protection records (R147, R160), generations (R149) and the dirty-page log (R155 to R157). -/
namespace Sys2Proof.Machine

/-! ### Counters -/

/-- First counter of a port unit, a directory slice, a compartment, a slice, and how many each has (R350). -/
def ctrPu (p : Nat) : Nat × Nat := (24 * p, 24)
def ctrDs (n : Nat) : Nat × Nat := (1536 + 32 * n, 32)
def ctrCp (c : Nat) : Nat × Nat := (2048 + 8 * c, 8)
def ctrSl (s : Nat) : Nat × Nat := (2080 + 16 * s, 16)

/-- An event adds `n` to the block's running COUNT counters that select it (R351 to R353); codes marked C respect CMASK. -/
def Dev.count (d : Dev) (blk : Nat × Nat) (code : Nat) (cls : Option Cls) (n : Nat) : Dev :=
  let hit := d.ctrsels.filter (fun (k, e) => blk.1 ≤ k && k < blk.1 + blk.2 && e.en && !e.ovr && e.event == code &&
    cls.all (fun c => hasBit e.cmask c.idx))
  { d with ctrvals := hit.foldl (fun t (k, _) => Tbl.set t 0 k ((Tbl.get t 0 k + n) % 2 ^ 64)) d.ctrvals }

/-! ### Slices -/

/-- A slice's entry. -/
def Dev.sl (d : Dev) (s : Nat) : SliceE := Tbl.get d.slices {} s

/-- Store a slice's entry. -/
def Dev.setSl (d : Dev) (s : Nat) (e : SliceE) : Dev := { d with slices := Tbl.set d.slices {} s e }

/-- Slice states (R134). -/
abbrev slFree : Nat := 0
abbrev slBound : Nat := 1
abbrev slDrain : Nat := 2
abbrev slRecall : Nat := 3
abbrev slAdvance : Nat := 4

/-- A slice's windows in order. -/
def SliceE.wins (e : SliceE) : List Window := [e.win0, e.win1, e.win2, e.win3]

/-- Replace window w. -/
def SliceE.setWin (e : SliceE) (w : Nat) (x : Window) : SliceE :=
  match w with
  | 0 => { e with win0 := x }
  | 1 => { e with win1 := x }
  | 2 => { e with win2 := x }
  | _ => { e with win3 := x }

/-- The window holds the GiB `g` (R142). -/
def Window.holds (w : Window) (g : Nat) : Bool := w.en && w.base ≤ g && g ≤ w.base + w.num

/-- The slices bound to a port: not FREE and owned by it. -/
def Dev.slicesOf (d : Dev) (p : Nat) : List Nat := (d.slices.filter (fun e => e.2.st != slFree && e.2.port == p)).map (·.1)

/-- The slice of a HOST port whose enabled window contains a host address (R138). -/
def Dev.memSlice (d : Dev) (p addr : Nat) : Option Nat :=
  (d.slicesOf p).find? (fun s => (d.sl s).wins.any (fun w => w.holds (addr / 2 ^ 30)))

/-- The slice of a CXL.io request: by PASID, or the default slice (R138). -/
def Dev.ioSlice (d : Dev) (p : Nat) (pasid : Option Nat) : Option Nat :=
  match pasid with
  | some x => (d.slicesOf p).find? (fun s => (d.sl s).pasidEn && (d.sl s).pasid == x)
  | none => (d.slicesOf p).find? (fun s => (d.sl s).ioDef)

/-- An extent's entry. -/
def Dev.ext (d : Dev) (e : Nat) : ExtentE := Tbl.get d.extents {} e

/-- Store an extent's entry. -/
def Dev.setExt (d : Dev) (e : Nat) (x : ExtentE) : Dev := { d with extents := Tbl.set d.extents {} e x }

/-- Translation of a slice address to a pool address (R142): the first window that holds it. -/
def Dev.translate (d : Dev) (s addr : Nat) : Option Nat :=
  match (d.sl s).wins.find? (fun w => w.holds (addr / 2 ^ 30)) with
  | none => none
  | some w => some ((w.ext + (addr / 2 ^ 30 - w.base)) * 2 ^ 30 + addr % 2 ^ 30)

/-- The slice address of a pool address a slice maps: the first window that maps its extent. -/
def Dev.sliceAddr (d : Dev) (s pool : Nat) : Nat :=
  match (d.sl s).wins.find? (fun w => w.en && w.ext ≤ pool / 2 ^ 30 && pool / 2 ^ 30 ≤ w.ext + w.num) with
  | none => pool
  | some w => (w.base + (pool / 2 ^ 30 - w.ext)) * 2 ^ 30 + pool % 2 ^ 30

/-- The device physical address of a pool address (R142). -/
def Dev.dpa (d : Dev) (pool : Nat) : Nat := (d.ext (pool / 2 ^ 30)).dpa * 2 ^ 30 + pool % 2 ^ 30

/-- Permission masks: RD 1, WR 2, ATOM 4 (R145). -/
def permBits (rd wr at_ : Bool) : Nat := bit rd + 2 * bit wr + 4 * bit at_

/-- Why a part is refused (R147, R160): KIND, the rule, whether a rule refused. `quiet`: the slice is in DRAIN, RECALL or ADVANCE (R148). -/
structure Deny where
  kind : Nat
  rule : Nat := 0
  hit : Bool := false
  quiet : Bool := false
  deriving DecidableEq, Repr

/-- The KIND of a permission refusal: the first permission needed that `perm` does not give, 1 RD, 2 WR, 3 ATOM. -/
def needKind (need perm : Nat) : Nat :=
  if hasBit need 0 && !hasBit perm 0 then 1 else if hasBit need 1 && !hasBit perm 1 then 2 else 3

/-- The region rules of a slice with their numbers. -/
def Dev.rulesOf (d : Dev) (s : Nat) : List (Nat × RuleE) := (List.range 8).map (fun k => (k, Tbl.get d.rules {} (8 * s + k)))

/-- The region check of one part (R145): the first enabled rule that holds the page decides, else the default permissions. -/
def Dev.regionCheck (d : Dev) (s addr src need : Nat) : Option Deny :=
  let pg := addr / 2 ^ 12
  let e := d.sl s
  match (d.rulesOf s).find? (fun (_, r) => r.en && r.base ≤ pg && pg ≤ r.limit) with
  | some (k, r) =>
    if src = 3 ∧ r.lock ∧ d.get R.SEC.LCSTS.STATE ≠ 3 then some { kind := 4, rule := k, hit := true }
    else if !hasBit r.src src then some { kind := needKind need 0, rule := k, hit := true }
    else if (permBits r.rd r.wr r.atom) &&& need = need then none
    else some { kind := needKind need (permBits r.rd r.wr r.atom), rule := k, hit := true }
  | none => if (permBits e.defRd e.defWr e.defAtom) &&& need = need then none else some { kind := needKind need (permBits e.defRd e.defWr e.defAtom) }

/-- The check of one part of an access to a slice (R134, R142, R145): a refusal, or the pool address. A compatibility link carries only slices
0 to 255 (R242). -/
def Dev.checkPart (d : Dev) (s addr src need : Nat) : Except Deny Nat :=
  if (d.sl s).st ≠ slBound then .error { kind := 0, quiet := true }
  else match d.translate s addr with
    | none => .error { kind := 0 }
    | some pool =>
      let x := d.ext (pool / 2 ^ 30)
      if !x.valid ∨ 2 ≤ x.st then .error { kind := 0 }
      else if 256 ≤ s ∧ d.role x.port = 3 ∧ d.is (R.PU.CFG.XCOMPAT x.port) then .error { kind := 0 }
      else match d.regionCheck s addr src need with
        | some r => .error r
        | none => .ok pool

/-- The parts of an access: split at every 4-KiB page (R146). -/
def parts : Nat → Nat → Nat → List (Nat × Nat)
  | 0, _, _ => []
  | fuel + 1, addr, len =>
    if len = 0 then [] else
    let n := min len (4096 - addr % 4096)
    (addr, n) :: parts fuel (addr + n) (len - n)

/-- The parts of an access of `len` bytes. -/
def partsOf (addr len : Nat) : List (Nat × Nat) := parts (len / 4096 + 2) addr len

/-! ### Protection records -/

/-- Where a checker's record lies: a stand's, the Skidder's, the debug master's (R160). -/
def pvStand (p : Nat) : Nat := 0x180040 + 0x1000 * (p / 4)
abbrev pvSkid : Nat := 0x70010
abbrev pvDbg : Nat := 0x70020

/-- Record a refusal (R147): the first one fills the record and sets VIO; a further one sets OVF and counts. -/
def Dev.pvRecord (d : Dev) (o slice port src : Nat) (r : Deny) (addr : Nat) (split db : Bool) : Dev :=
  if r.quiet then d
  else if d.is (.mk3 o 0 1 0) then (d.on (.mk3 o 1 1 0)).addSat (.mk3 o 16 16 0) 1
  else
    let d := d.on (.mk3 o 0 1 0)
    let d := (d.set (.mk3 (o + 4) 0 32 0) (addr % 2 ^ 32)).set (.mk3 (o + 8) 0 20 0) (if db then 0 else addr / 2 ^ 32)
    let d := ((d.set (.mk3 (o + 12) 0 9 0) slice).set (.mk3 (o + 12) 9 6 0) port).set (.mk3 (o + 12) 15 3 0) src
    let d := ((d.set (.mk3 (o + 12) 18 3 0) r.kind).set (.mk3 (o + 12) 21 3 0) r.rule).put (.mk3 (o + 12) 24 1 0) r.hit
    (d.put (.mk3 (o + 12) 25 1 0) split).put (.mk3 (o + 12) 26 1 0) db

/-- VIO_CLEAR (R147): VIO, OVF and CNT clear together. Checkers: 0 to 15 the stands, 16 the Skidder, 17 the debug master. -/
def Dev.vioClear (d : Dev) (c : Nat) : Dev :=
  let o := if c < 16 then 0x180040 + 0x1000 * c else if c = 16 then pvSkid else pvDbg
  ((d.off (.mk3 o 0 1 0)).off (.mk3 o 1 1 0)).off (.mk3 o 16 16 0)

/-- The debug master is enabled by the lifecycle state; in PROD it is not, until an unlock (R159). -/
def Dev.lcDebug (d : Dev) : Dev := if d.get R.SEC.LCSTS.STATE = 2 then d.off R.SEC.LCSTS.DBG_EN else d.on R.SEC.LCSTS.DBG_EN

/-! ### Generations and the dirty-page log -/

/-- A discard for a generation mismatch (R149, R401). -/
def Dev.gdisc (d : Dev) (s : Nat) : Dev :=
  let e := d.sl s
  (d.setSl s { e with gdisc := satAdd e.gdisc 1 0xFFFF }).addMod R.TEN.GDISC.VALUE 1

/-- The duplicate filter's entry of a page (R156). -/
def dfIdx (s page : Nat) : Nat := 256 * s + ((page ^^^ (page / 2 ^ 8) ^^^ (page / 2 ^ 16)) % 256)

/-- Clear a slice's duplicate filter (R156). -/
def Dev.clearFilter (d : Dev) (s : Nat) : Dev := { d with dfilt := Tbl.keep d.dfilt (fun k => k / 256 != s) }

end Sys2Proof.Machine
end

