-- ==== Sys2Proof/Machine/XepBase.lean ====
section
/-! DEFINITION. The sending side of a Xepin link (R243, R246 to R259): frames, credits, the replay buffer, MIR and BYP messages; link groups (R260, R261). -/
namespace Sys2Proof.Machine

/-- A port's Xepin link. -/
def Dev.xl (d : Dev) (p : Nat) : XepRt := Tbl.get d.xep {} p

/-- Change a port's Xepin link. -/
def Dev.updXl (d : Dev) (p : Nat) (f : XepRt → XepRt) : Dev := { d with xep := Tbl.set d.xep {} p (f (d.xl p)) }

/-- The stand of a port. -/
def stOf (p : Nat) : Nat := p / 4

/-- A Xepin fault of a port (R271): the first one records its port unit. -/
def Dev.xepRaise (d : Dev) (p b : Nat) : Dev :=
  let first := d.get (R.ST.XSTS.FIRST (stOf p)) = 0 && !d.is ((Sts.xep (stOf p)).bit b)
  let d := d.raise (.xep (stOf p)) b
  if first then d.set (R.ST.XSTS.PU (stOf p)) p else d

/-- The port runs in compatibility mode (R242). -/
def Dev.xcompat (d : Dev) (p : Nat) : Bool := d.is (R.PU.CFG.XCOMPAT p)

/-- A port's bring-up begins: it takes ST.XCTL as it stands (R271). -/
def Dev.xepBring (d : Dev) (p : Nat) : Dev :=
  if d.isXep p then
    d.updXl p (fun x => { x with rplyMax := d.get (R.ST.XCTL.RPLY_MAX (stOf p)), crMin := d.get (R.ST.XCTL.CR_MIN (stOf p)), crPool := d.get (R.ST.XCTL.CR_POOL (stOf p)) })
  else d

/-- Credits a link has: reserved per channel and shared (R257, ST.XCTL). -/
def Dev.crMin (d : Dev) (p : Nat) : Nat := max 1 (d.xl p).crMin
def Dev.crPool (d : Dev) (p : Nat) : Nat := max 16 (d.xl p).crPool

/-- The channel a message takes: RSP for answers, REQ for everything else (R250 to R252). -/
def Msg.onRsp (m : Msg) : Bool :=
  match m.kind with
  | .data | .cpl | .ioCpl | .ioCplData | .snpRsp => true
  | _ => false

/-! ### Frames out (R246, R249, R253, R255, R257) -/

/-- Where a Xepin port's frames go. -/
def Dev.xchan (d : Dev) (p : Nat) : Chan := if d.role p = 4 then .mirror else .xep p

/-- The header of a frame that leaves now (R249): ACK is the last frame accepted whole, the CR fields the totals returned. -/
def Dev.fhdr (d : Dev) (p ftype seq : Nat) (shr nak : Bool) : FHdr :=
  let x := d.xl p
  { seq := seq, ack := (x.exp + 4095) % 4096, nak := nak, ftype := ftype, shr := shr, crReq := x.gReq, crRsp := x.gRsp, crShr := x.gShr }

/-- The bytes of a REQ or RSP frame that leaves or is replayed now (R255): ACK and the CR fields afresh. -/
def Dev.frameOf (d : Dev) (p : Nat) (f : XFrame) : List Nat :=
  frameBytes (d.fhdr p (if f.rsp then 2 else 1) f.seq f.shr false) f.slots (hasBit f.stomps 0) (hasBit f.stomps 1) (!d.xcompat p)

/-- An IDLE frame that asks for a replay (R249, R254). -/
def Dev.nakFrame (d : Dev) (p : Nat) : List Nat := frameBytes (d.fhdr p 0 0 false true) [] false false (!d.xcompat p)

/-- A BYP frame with one message in its first slot pair (R259). -/
def Dev.bypFrame (d : Dev) (p : Nat) (msg : List Nat) : List Nat := frameBytes (d.fhdr p 3 0 false false) (bytesSlots msg) false false (!d.xcompat p)

/-- A channel's reserved credits are all in use. -/
def Dev.spent (d : Dev) (p : Nat) (rsp : Bool) : Bool := decide (d.crMin p ≤ (if rsp then (d.xl p).uRsp else (d.xl p).uReq))

/-- A new frame of a channel may leave (R253, R257). -/
def Dev.hasRoom (d : Dev) (p : Nat) (rsp : Bool) : Bool :=
  (d.xl p).unack.length < 4095 && (!d.xcompat p || !d.spent p rsp || (d.xl p).uShr < d.crPool p)

/-- A new frame leaves: the next SEQ, a credit in compatibility mode, a place in the replay buffer (R253, R257). -/
def Dev.pushFrame (d : Dev) (p : Nat) (f : XFrame) : Dev :=
  let shr := d.xcompat p && d.spent p f.rsp
  let f := { f with seq := (d.xl p).next, shr := shr }
  let d := d.updXl p (fun x =>
    let x := { x with next := (x.next + 1) % 4096, unack := x.unack ++ [f] }
    if !d.xcompat p then x
    else if shr then { x with uShr := x.uShr + 1 }
    else if f.rsp then { x with uRsp := x.uRsp + 1 } else { x with uReq := x.uReq + 1 })
  d.emit (d.xchan p) .frame (d.frameOf p f)

/-- The link takes new frames: up, in L0 or L0p. -/
def Dev.linkOpen (d : Dev) (p : Nat) : Bool := d.isUp p && !(d.prt p).recov && decide (d.get (R.PU.LNKSTS.PM p) < 2)

/-- Frames that wait leave as far as they may, in order (R253, R257). -/
def Dev.xflowN : Nat → Dev → Nat → Dev
  | 0, d, _ => d
  | n + 1, d, p =>
    match (d.xl p).wait with
    | [] => d
    | f :: rest => if d.linkOpen p && d.hasRoom p f.rsp then Dev.xflowN n ((d.updXl p (fun x => { x with wait := rest })).pushFrame p f) p else d
def Dev.xflow (d : Dev) (p : Nat) : Dev := Dev.xflowN (d.xl p).wait.length d p

/-- Frames for a link: they leave behind those that wait. -/
def Dev.xsend (d : Dev) (p : Nat) (l : List XFrame) : Dev := (d.updXl p (fun x => { x with wait := x.wait ++ l })).xflow p

/-- Slots in frames of 14, the last one filled with IDLE slots. -/
def framesN : Nat → List Nat → List (List Nat)
  | 0, _ => []
  | n + 1, l => if l.isEmpty then [] else l.take 14 :: framesN n (l.drop 14)
def inFrames (l : List Nat) : List (List Nat) := framesN (l.length / 14 + 1) l

/-- The frames of a message's data lines alone; stomped in both halves where its data is lost (R77, R88, R248). -/
def lineFrames (rsp : Bool) (lines : List Nat) (m : Msg) : List XFrame :=
  (inFrames lines).map (fun s => { rsp := rsp, slots := s, stomps := if m.stomp then (if 7 < s.length then 3 else 1) else 0, msg := some m })

/-- The frames a message leaves in. Whole, its slots follow each other. One whose data is stomped has its header end a half, so that only data lines lie in
stomped halves (R248). One whose data has not come has its header end a frame, and its lines follow in the next frames of its channel (R75, R250; log entry 146). -/
def Msg.frames (m : Msg) (x : XMsg) : List XFrame :=
  let head := x.slots.take 2
  let lines := x.slots.drop 2
  if !m.dataIn ∧ !lines.isEmpty then [{ rsp := m.onRsp, slots := List.replicate 12 0 ++ head, msg := some m }]
  else if m.stomp ∧ !lines.isEmpty then
    { rsp := m.onRsp, slots := List.replicate 5 0 ++ head ++ lines.take 7, stomps := 2, msg := some m } :: lineFrames m.onRsp (lines.drop 7) m
  else (inFrames x.slots).map (fun s => { rsp := m.onRsp, slots := s, msg := some m })

/-- A message's header as it leaves (R251): its class, its poison, its tag on this link. -/
def Msg.wire (m : Msg) (tag : Nat) : XMsg := { m.x.getD {} with cls := m.cls.idx, poison := m.poison, tag := tag }

/-- A message may start on a Xepin link: nothing waits to be sent there, there is room for its first frame, and no message of its channel still waits for
its data (R75, R250). -/
def Dev.mayFrame (d : Dev) (p : Nat) (m : Msg) : Bool :=
  !d.isXep p || ((d.xl p).wait.isEmpty && d.hasRoom p m.onRsp && !d.buf.msgs.any (fun e => e.egress == p && e.hdrLeft && !e.dataIn && e.onRsp == m.onRsp))

/-- A message leaves on a Xepin link under a tag. -/
def Dev.frameOut (d : Dev) (p : Nat) (m : Msg) (tag : Nat) : Dev := if d.isXep p then d.xsend p ({ m with tag := tag }.frames (m.wire tag)) else d

/-- The data of a message whose header has left follows, on a Xepin link (R75, R77). -/
def Dev.dataOut (d : Dev) (m : Msg) : Dev :=
  if d.isXep m.egress then d.xsend m.egress (lineFrames m.onRsp ((m.wire m.tag).slots.drop 2) m) else d

/-! ### The end of an ingress link (R77) -/

/-- A write kept until its completion, so that it can be reissued (R87). -/
def Dev.keeps (d : Dev) (m : Msg) : Bool := d.isMem m.egress && m.alt && (m.kind == .memWrite || m.kind == .memWb)

/-- A message whose header has left is completed with its data poisoned (CXL) or stomped (Xepin); it is kept where R87 keeps it. -/
def Dev.cutMsg (d : Dev) (m : Msg) : Dev :=
  let d := (d.raise (.buf (cpOf m.pu)) 3).addSat (R.CP.CTFCNT.CTF_CNT (cpOf m.pu)) 1
  let n := { m with dataIn := true, poison := true, stomp := true }
  let d := if d.isXep m.egress then d.dataOut n else d.emit (if d.isMem m.egress then .mem m.egress else .host m.egress) .msgPoison [m.id, m.tag]
  let d := d.updPrt m.egress (fun r => { r with outs := r.outs.map (fun o => if o.msg.id = m.id then { o with msg := { o.msg with dataIn := true, poison := true } } else o) })
  if d.keeps m then d.updMsg m.id (fun x => { x with dataIn := true, poison := true }) else d.release m true

/-- The ingress link of port unit range `p ..< p + w` goes down (R77): a message whose header has left and whose data has not all been
written is completed; one whose header has not left is discarded and released. -/
def Dev.cutFail (d : Dev) (p w : Nat) : Dev :=
  (d.buf.msgs.filter (fun m => p ≤ m.pu && m.pu < p + w && m.arr != 0 && !m.dataIn)).foldl (fun d m => if m.hdrLeft then d.cutMsg m else d.release m false) d

/-! ### The mirror link (R276 to R279) -/

/-- The MIRROR port is UP. -/
def Dev.mirrorUp (d : Dev) : Bool := d.mirrorPort.any d.isUp

/-- BYP frames carry heartbeats and acknowledgements (R259, R276). -/
def Dev.mirrorByp (d : Dev) : Bool := d.mirrorPort.any (fun m => (d.xl m).byp)

/-- Send a MIR message over the mirror link in REQ frames (R276, R277), counted in MIRTX. MID numbers the messages a MACK answers, PREP, GO and CPL; the others show
the next number (log entry 151). -/
def Dev.sendMir (d : Dev) (h : MirHdr) (payload : List Nat) : Dev :=
  let h := if h.mtype ≤ 2 then h else { h with mid := d.commit.next }
  (d.mirrorPort.elim d (fun m => d.xsend m ((inFrames (mirSlots h payload)).map (fun s => { slots := s })))).addMod R.PAIR.MIRTX.VALUE 1

/-- A message of the bypass channel leaves port p (R259). -/
def Dev.sendByp (d : Dev) (p : Nat) (msg : List Nat) : Dev := d.emit (d.xchan p) .frame (d.bypFrame p msg)

/-- A MIR message is accepted; the cells its frames fill are free again (R66). -/
def Dev.rxMir (d : Dev) : Dev :=
  let d := match d.buf.msgs.find? (fun m => m.stage == 3 && m.dataIn && m.op == .frame && d.mirrorPort.any (fun q => m.pu == q)) with
    | some m => d.release m false
    | none => d
  d.addMod R.PAIR.MIRRX.VALUE 1

/-- A heartbeat or an acknowledgement is accepted: a MIR message only where BYP is not in use. -/
def Dev.rxByp (d : Dev) : Dev := if d.mirrorByp then d else d.rxMir

/-- Send a heartbeat (MTYPE 7) or an acknowledgement (8): in a BYP frame, or as a MIR message where BYP is not in use. -/
def Dev.txByp (d : Dev) (mtype : Nat) (msg : List Nat) (seq : Nat) : Dev :=
  if d.mirrorByp then d.mirrorPort.elim d (fun m => d.sendByp m msg) else d.sendMir { mtype := mtype, seq := seq } msg

/-! ### Groups -/

/-- The member ports of a group, in port order. -/
def Dev.groupMembers (d : Dev) (g : Nat) : List Nat := (List.range 64).filter (fun p => hasBit (Tbl.get d.xgrp.members 0 g) p)

/-- Point a bucket at a port, or nowhere. -/
def Dev.setBucket (d : Dev) (g b : Nat) (q : Option Nat) : Dev :=
  { d with xgrp := { d.xgrp with buckets := Tbl.set d.xgrp.buckets none (64 * g + b) q } }

/-- A port joins a group (R260, R261): the first member takes every bucket; MAPREFs that wait for the group leave on it (R263). -/
def Dev.joinGroup (d : Dev) (p g : Nat) : Dev :=
  let m := Tbl.get d.xgrp.members 0 g
  let d := { d with buf := { d.buf with msgs := d.buf.msgs.map (fun (x : Msg) => if x.kind = MsgKind.mapref ∧ x.stage = 1 ∧ !x.hdrLeft ∧ (d.xl x.egress).nbr = some g ∧ (d.groupOf x.egress).isNone then { x with egress := p } else x) } }
  let d := { d with xgrp := { d.xgrp with members := Tbl.set d.xgrp.members 0 g (setB m p) } }
  if m = 0 then (List.range 64).foldl (fun d b => d.setBucket g b (some p)) d else d

/-- A port leaves its group (R83, R261): its buckets are dealt to the remaining members in port order, cyclically. -/
def Dev.leaveGroup (d : Dev) (p : Nat) : Dev :=
  match d.groupOf p with
  | none => d
  | some g =>
    let d := { d with xgrp := { d.xgrp with members := Tbl.set d.xgrp.members 0 g (clrB (Tbl.get d.xgrp.members 0 g) p) } }
    let ms := d.groupMembers g
    let mine := (List.range 64).filter (fun b => Tbl.get d.xgrp.buckets none (64 * g + b) == some p)
    (mine.zip (List.range mine.length)).foldl (fun d (b, i) => d.setBucket g b (if ms.isEmpty then none else ms[i % ms.length]?)) d

/-- A XEPIN or MIRROR port reaches UP: it joins the group of its partner's DEV_ID (R260); frames that wait leave. -/
def Dev.xepUp (d : Dev) (p : Nat) : Dev :=
  if d.isXep p then
    Dev.xflow (match (d.xl p).nbr with
    | some g => if (d.groupOf p).isSome then d else d.joinGroup p g
    | none => d) p
  else d

end Sys2Proof.Machine
end

