-- ==== Sys2Proof/Machine/Mgmt.lean ====
section
/-! DEFINITION. The parts of the command service every command rests on: rings, keys, completions, statuses (R322 to R336). -/
namespace Sys2Proof.Machine

/-- A principal's ring record. -/
def Dev.ring (d : Dev) (p : Nat) : RingE := Tbl.get d.mgmt.rings {} p

/-- Change a principal's ring record. -/
def Dev.updRing (d : Dev) (p : Nat) (f : RingE → RingE) : Dev :=
  { d with mgmt := { d.mgmt with rings := Tbl.set d.mgmt.rings {} p (f (d.ring p)) } }

/-- A principal's key record. -/
def Dev.keyOf (d : Dev) (p : Nat) : KeyE := Tbl.get d.mgmt.keys {} p

/-- Change a principal's key record. -/
def Dev.updKey (d : Dev) (p : Nat) (f : KeyE → KeyE) : Dev :=
  { d with mgmt := { d.mgmt with keys := Tbl.set d.mgmt.keys {} p (f (d.keyOf p)) } }

/-! ### Statuses (R334) and state codes (R335) -/

abbrev stOk : Nat := 0
abbrev stConflict : Nat := 1
abbrev stOverlap : Nat := 2
abbrev stBadCmd : Nat := 3
abbrev stAuth : Nat := 4
abbrev stStale : Nat := 5
abbrev stPerm : Nat := 6
abbrev stBadParam : Nat := 7
abbrev stRemote : Nat := 8
abbrev stImage : Nat := 9
abbrev stInternal : Nat := 10

/-- STATE_CONFLICT with an object kind, its state and its index (R335). -/
def conflict (kind st idx : Nat) : Res := { status := stConflict, code := 16 * kind + st, result := idx % 2 ^ 16 }

/-- STATE_CONFLICT for a condition that is not a state. -/
def conflictNone : Res := conflict 0 0 0

/-- PAIR.STATE.PSTATE (R288). -/
abbrev psOff : Nat := 0
abbrev psSeek : Nat := 1
abbrev psSync : Nat := 2
abbrev psPaired : Nat := 3
abbrev psDecide : Nat := 4
abbrev psAlone : Nat := 5
abbrev psYielded : Nat := 6
abbrev psSaving : Nat := 7

/-- The pair state. -/
def Dev.pst (d : Dev) : Nat := d.get R.PAIR.STATE.PSTATE

/-- The device commits with its partner (R282): its pair state is PAIRED. -/
def Dev.inPair (d : Dev) : Bool := d.pst == psPaired

/-- The sequencer serves: PRS.STATE.SEQ is SERVICE. -/
def Dev.inService (d : Dev) : Bool := d.get R.PRS.STATE.SEQ == 1

/-- A SEC fault, with the principal of the first one (R349). -/
def Dev.secRaise (d : Dev) (b p : Nat) : Dev :=
  let first := d.get R.SEC.STS.FIRST = 0 && !d.is (Sts.sec.bit b)
  let d := d.raise .sec b
  if first then d.set R.SEC.STS.PRIN p else d

/-! ### Completions -/

/-- The size of a principal's rings. -/
def Dev.ringSize (d : Dev) (p : Nat) : Nat := 2 ^ d.get (R.PRIN.RCTL.SIZE p)

/-- HEAD moves over the slots whose completions are written (R326). -/
def headOver : Nat → Nat → RingE → RingE
  | 0, _, r => r
  | n + 1, size, r =>
    if r.written.contains r.head then
      let h := (r.head + 1) % size
      headOver n size { r with head := h, phase := if h = 0 then !r.phase else r.phase, written := r.written.erase r.head }
    else r

/-- The PHASE of the completion of a slot (R326): a slot behind HEAD belongs to the next pass. -/
def RingE.phaseOf (r : RingE) (slot : Nat) : Bool := if slot < r.head then !r.phase else r.phase

/-- A status's fault bits and counts (R334, R349). -/
def Dev.statusBits (d : Dev) (p status : Nat) : Dev :=
  if status = stAuth then (d.secRaise 0 p).addSat R.SEC.AUTHCNT.AUTH 1
  else if status = stStale then (d.secRaise 1 p).addSat R.SEC.AUTHCNT.STALE 1
  else if status = stPerm then d.secRaise 2 p
  else if status = stRemote then d.secRaise 7 p
  else if status = stImage then d.raise .cur 1
  else d

/-- The completion of a command (R326, R329): the entry, HEAD, the interrupt, the RING message in a pair, the commit record dropped. -/
def Dev.complete (d : Dev) (p : Nat) (c : PyrCmd) (r : Res) : Dev :=
  let d := (d.statusBits p r.status).addMod R.SEC.CMDCNT.VALUE 1
  let g := d.ring p
  let base := d.get64 (R.PRIN.CPBL.VALUE p) (R.PRIN.CPBH.VALUE p)
  let d := d.emit (.prinMem p) .pyrCpl ((base + 32 * c.slot) :: leBytes (packPyrCpl c.cid r.status r.code c.slot (g.phaseOf c.slot) (d.keyOf p).cnt r.result) 32)
  let d := d.updRing p (fun g => headOver (d.ringSize p) (d.ringSize p) { g with written := g.written ++ [c.slot] })
  let d := { d with mgmt := { d.mgmt with recs := d.mgmt.recs.filter (fun x => !(x.prin == p && x.cmd.slot == c.slot)) } }
  let d := if c.irq ∨ r.status ≠ stOk then d.emit (.prinMem p) .msix [p] else d
  if d.is R.PAIR.CTL.EN then d.sendMir { mtype := 3, seq := d.cfgSeq } (leBytes (packRing p (d.ring p)) 16) else d

/-- Whether a recorded command has opcode `o` and target `t` and still runs. -/
def CommitRec.names (r : CommitRec) (os : List Nat) (t : Nat) : Bool := !r.done && os.contains r.cmd.opcode && r.cmd.target == t

/-- A change is handed to the commit engine (R282). -/
def Dev.submit (d : Dev) (x : Change) : Dev := { d with commit := { d.commit with queue := d.commit.queue ++ [x] } }

/-- The command is the change the commit engine has under way: it completes once the partner has applied it too (R283). -/
def Dev.inCommit (d : Dev) (p : Nat) (c : PyrCmd) : Bool :=
  match d.commit.change with
  | some (.cmd q x _) => q == p && x.slot == c.slot
  | _ => false

/-- The running action of a recorded command ends (R331): its completion is written, or, while the Curator restarts (R332) or the partner
has not applied the change (R283), kept for then. -/
def Dev.endAction (d : Dev) (os : List Nat) (t : Nat) (res : Res) : Dev :=
  match d.mgmt.recs.find? (fun r => r.names os t) with
  | none => d
  | some r =>
    if d.mgmt.down || d.inCommit r.prin r.cmd then
      { d with mgmt := { d.mgmt with recs := d.mgmt.recs.map (fun x => if x = r then { r with done := true, status := res.status, code := res.code, result := res.result } else x) } }
    else d.complete r.prin r.cmd res

/-! ### Commands as octets -/

/-- Octets 0 to 111. -/
def PyrCmd.octets (c : PyrCmd) : List Nat := leBytes c.header 16 ++ leBytes c.params 96

/-- The tag of a command under a key (R336): the first 16 octets of its HMAC. -/
def PyrCmd.tag (c : PyrCmd) (key : Nat) : Nat := ofLe ((hmacSha256 (leBytes key 32) c.octets).take 16)

end Sys2Proof.Machine
end

