-- ==== Sys2Proof/Machine/Noc.lean ====
section
/-! DEFINITION. The network on chip (R24 to R37): where units attach, routing, the checks a router makes, waking gated domains,
quiescing, and the register and table packets up to their target. Routers are numbered 6 * row + column. -/
namespace Sys2Proof.Machine

/-- The router of stand s (R24). -/
def standRouter (s : Nat) : Nat := [1, 2, 6, 12, 3, 4, 11, 17, 18, 24, 31, 32, 23, 29, 33, 34].getD s 0

/-- The router of directory slice n (R24). -/
def sliceRouter (n : Nat) : Nat := [7, 8, 13, 14, 9, 10, 15, 16, 19, 20, 25, 26, 21, 22, 27, 28].getD n 0

/-- The router of domain k: 0 to 15 the stands, 16 to 31 the directory slices (R19). -/
def domRouter (k : Nat) : Nat := if k < 16 then standRouter k else sliceRouter (k - 16)

/-- The domain at local port A of a router, if a stand or slice stops there. -/
def routerDom (r : Nat) : Option Nat := (List.range 32).find? (fun k => domRouter k == r)

/-- The next router toward the destination, or none at the destination (R28). -/
def nextHop (r : Nat) (p : Packet) : Option Nat :=
  let row := r / 6
  let col := r % 6
  if col < p.dstCol then some (r + 1)
  else if p.dstCol < col then some (r - 1)
  else if row < p.dstRow then some (r + 6)
  else if p.dstRow < row then some (r - 6)
  else none

/-- The routers a packet passes from `r` to its destination, `r` first (R28). -/
def routeFrom : Nat → Nat → Packet → List Nat
  | 0, r, _ => [r]
  | n + 1, r, p => match nextHop r p with
    | none => [r]
    | some q => r :: routeFrom n q p

/-- The packet's destination router. -/
def Packet.dst (p : Packet) : Nat := 6 * p.dstRow + p.dstCol

/-- A request type: register and table reads and writes (R26). -/
def Packet.isReq (p : Packet) : Bool := p.typ < 4 && !p.ret

/-- Which stop, router and port, serves a BAR0 offset (R402); none where the bridge itself answers NO_TARGET. -/
def bar0Target (off : Nat) : Option (Nat × Nat) :=
  if off < 0x1000 then some (0, 1)
  else if 0x10000 ≤ off ∧ off < 0x11000 then some (0, 1)
  else if 0x20000 ≤ off ∧ off < 0x21000 then some (0, 1)
  else if 0x30000 ≤ off ∧ off < 0x31000 then some (5, 1)
  else if 0x40000 ≤ off ∧ off < 0x41000 then some (5, 1)
  else if 0x50000 ≤ off ∧ off < 0x51000 then some (35, 0)
  else if 0x60000 ≤ off ∧ off < 0x61000 then some (30, 0)
  else if 0x68000 ≤ off ∧ off < 0x69000 then some (30, 0)
  else if 0x70000 ≤ off ∧ off < 0x71000 then some (30, 1)
  else if 0x80000 ≤ off ∧ off < 0x82400 then some ((off - 0x80000) / 0x100, 2)
  else if 0x90000 ≤ off ∧ off < 0x92000 then some (35, 1)
  else if 0x100000 ≤ off ∧ off < 0x140000 then some (standRouter ((off - 0x100000) / 0x4000), 0)
  else if 0x180000 ≤ off ∧ off < 0x190000 then some (standRouter ((off - 0x180000) / 0x1000), 0)
  else if 0x1C0000 ≤ off ∧ off < 0x1D0000 then some (standRouter (4 * ((off - 0x1C0000) / 0x4000)), 1)
  else if 0x200000 ≤ off ∧ off < 0x210000 then some (sliceRouter ((off - 0x200000) / 0x1000), 0)
  else if 0x240000 ≤ off ∧ off < 0x250000 then some (30, 1)
  else if 0x1000000 ≤ off ∧ off < 0x1008000 then some (30, 1)
  else if 0x1010000 ≤ off ∧ off < 0x1021000 then some (30, 1)
  else if 0x1021000 ≤ off ∧ off < 0x1025000 then some (30, 1)
  else if 0x1028000 ≤ off ∧ off < 0x102C000 then some (30, 1)
  else if 0x102C000 ≤ off ∧ off < 0x102D000 then some (30, 1)
  else if 0x1030000 ≤ off ∧ off < 0x1050000 then some (30, 1)
  else if 0x1050000 ≤ off ∧ off < 0x1070000 then some (30, 0)
  else if 0x1070000 ≤ off ∧ off < 0x1071000 then some (5, 1)
  else if 0x1072000 ≤ off ∧ off < 0x1074000 then some (35, 0)
  else if 0x1080000 ≤ off ∧ off < 0x10C0000 then
    let i := (off % 0x20000) / 8
    if i < 1536 then some (standRouter (i / 96), 0)
    else if i < 2048 then some (sliceRouter ((i - 1536) / 32), 0)
    else if i < 2080 then some (standRouter (4 * ((i - 2048) / 8)), 1)
    else some (35, 0)
  else if 0x1100000 ≤ off ∧ off < 0x1180000 then some (30, 1)
  else if 0x1200000 ≤ off ∧ off < 0x1300000 then some (35, 0)
  else if 0x1400000 ≤ off ∧ off < 0x1800000 then some (sliceRouter ((off - 0x1400000) / 0x40000), 0)
  else none

/-- A table window offset (R391). -/
def isTable (off : Nat) : Bool := 0x1000000 ≤ off

/-- One step of the CRC-32 of R31, polynomial 0x04C11DB7, most significant bit first. -/
def crcBit (c : Nat) (b : Bool) : Nat :=
  let t := (c / 2 ^ 31 % 2 == 1) != b
  let s := c * 2 % 2 ^ 32
  if t then s ^^^ 0x04C11DB7 else s

/-- One byte. -/
def crcByte (c b : Nat) : Nat := (List.range 8).foldl (fun c i => crcBit c (hasBit b (7 - i))) c

/-- The header bits [95:0] (R25). -/
def Packet.header (p : Packet) : Nat :=
  p.dstCol + 2 ^ 3 * p.dstRow + 2 ^ 6 * p.dstPort + 2 ^ 8 * p.srcCol + 2 ^ 11 * p.srcRow + 2 ^ 14 * p.srcPort +
    2 ^ 16 * bit p.vc + 2 ^ 17 * p.typ + 2 ^ 21 * p.data.length + 2 ^ 25 * p.tag + 2 ^ 35 * bit p.poison +
    2 ^ 36 * bit p.e2e + 2 ^ 37 * bit p.ret + 2 ^ 38 * p.err + 2 ^ 42 * p.dwcnt + 2 ^ 64 * p.addr

/-- The end-to-end CRC (R31): over header bits [95:0], then the data flits in order, each from byte 0; final complement. -/
def Packet.crc32 (p : Packet) : Nat :=
  let h := (List.range 12).foldl (fun c i => crcByte c (bits p.header (8 * i) 8)) 0xFFFFFFFF
  let c := p.data.foldl (fun c f => (List.range 16).foldl (fun c i => crcByte c (bits f (8 * i) 8)) c) h
  0xFFFFFFFF - c

/-- The response to a request, before its type and data: source and destination change places, on the response channel. -/
def Packet.answer (p : Packet) (typ err : Nat) (data : List Nat) : Packet :=
  { dstCol := p.srcCol, dstRow := p.srcRow, dstPort := p.srcPort, srcCol := p.dstCol, srcRow := p.dstRow, srcPort := p.dstPort,
    vc := true, typ := typ, tag := p.tag, err := err, dwcnt := p.dwcnt, addr := p.addr, data := data }

/-- A request returned to its source with an error (R33, R36). -/
def Packet.returned (p : Packet) (err : Nat) : Packet := { p.answer p.typ err p.data with ret := true }

/-- Set the noc part. -/
def Dev.setNoc (d : Dev) (n : Noc) : Dev := { d with noc := n }

/-- A packet leaves router `u` for router `r`; from a local port of `r`, `u` is `r` itself. -/
def Dev.send (d : Dev) (u r : Nat) (p : Packet) : Dev := { d with noc := { d.noc with transit := d.noc.transit ++ [(u, r, p)] } }

/-- The router of the packet's source port. -/
def Packet.src (p : Packet) : Nat := 6 * p.srcRow + p.srcCol

/-- The router is quiescing or quiesced (R34). -/
def Dev.quiesced (d : Dev) (r : Nat) : Bool := d.is (R.NOC.CTL.QUIESCE r)

/-- A register or table write that enters the mesh at router `r` carries the end-to-end CRC while E2E_GEN is 1 there (R31). -/
def Dev.seal (d : Dev) (r : Nat) (p : Packet) : Packet :=
  if (p.typ = 1 ∨ p.typ = 3) ∧ !p.ret ∧ d.is (R.NOC.CTL.E2E_GEN r) then { p with e2e := true, crc := Packet.crc32 { p with e2e := true } } else p

/-- While its router is quiesced a stop's local ports are shut (R34): what is not for the router's own registers waits there. -/
def Dev.shut (d : Dev) (r : Nat) (p : Packet) : Bool := d.quiesced r && !(p.dst == r && p.dstPort == 2)

/-- A packet waits at a local port of a quiesced router (R34). -/
def Dev.waitLocal (d : Dev) (r : Nat) (p : Packet) : Dev := { d with noc := { d.noc with locals := d.noc.locals ++ [(r, p)] } }

/-- Answer a request from the stop it has reached. While the stop's router is quiesced it takes nothing from its local ports (R34): the
answer of a unit at one of them waits there; the router's own registers (port 2) are served. -/
def Dev.reply (d : Dev) (p : Packet) (typ err : Nat) (data : List Nat) : Dev :=
  if d.quiesced p.dst ∧ p.dstPort ≠ 2 then d.waitLocal p.dst (p.answer typ err data)
  else d.send p.dst p.dst (p.answer typ err data)

/-- A domain's state; on where nothing else is recorded. -/
def Dev.domSt (d : Dev) (k : Nat) : DomState := Tbl.get d.dom .on k

/-- Put a domain in a state. -/
def Dev.setDom (d : Dev) (k : Nat) (s : DomState) : Dev := { d with dom := Tbl.set d.dom .on k s }

/-- PWRCTL fields of a domain (R23). -/
def pwrGate (k : Nat) : Fld := if k < 16 then R.ST.PWRCTL.GATE k else R.DS.PWRCTL.GATE (k - 16)
def pwrGated (k : Nat) : Fld := if k < 16 then R.ST.PWRCTL.GATED k else R.DS.PWRCTL.GATED (k - 16)
def pwrWoke (k : Nat) : Fld := if k < 16 then R.ST.PWRCTL.WOKE k else R.DS.PWRCTL.WOKE (k - 16)
def pwrRej (k : Nat) : Fld := if k < 16 then R.ST.PWRCTL.GATE_REJ k else R.DS.PWRCTL.GATE_REJ (k - 16)

/-- A wake request for a domain that is not on (R22): the gating request is no longer in force. -/
def Dev.wakeDom (d : Dev) (k : Nat) : Dev :=
  match d.domSt k with
  | .on => d
  | .waking => d
  | _ => ((d.setDom k .waking).off (pwrGate k)).off (pwrGated k)

/-- A packet or a directory request wakes a domain (R23, R401): WOKE is set, and a stand's packet wakes are counted. -/
def Dev.wake (d : Dev) (k : Nat) : Dev :=
  match d.domSt k with
  | .on => d
  | .waking => d.on (pwrWoke k)
  | _ =>
    let d := (d.wakeDom k).on (pwrWoke k)
    if k < 16 then d.addSat (R.ST.WAKECNT.COUNT k) 1 else d

/-- Whether an access is to the PWRCTL of the domain's own block, which the router serves without waking it (R23). -/
def ownPwrctl (k addr : Nat) : Bool := addr == (if k < 16 then 0x180000 + 0x1000 * k else 0x200000 + 0x1000 * (k - 16))

/-- A corrected single-bit error at router `r` (R30): CE_CNT, and CE_OVER at CE_THRESH. -/
def Dev.nocCe (d : Dev) (r : Nat) : Dev :=
  let d := d.addSat (R.NOC.STS.CE_CNT r) 1
  if d.get (R.NOC.CTL.CE_THRESH r) ≤ d.get (R.NOC.STS.CE_CNT r) then d.raise (.noc r) 12 else d

/-- NOC.STS bits. -/
abbrev bUE : Nat := 2
abbrev bSTALL : Nat := 3
abbrev bWAKE : Nat := 4
abbrev bCRC : Nat := 5
abbrev bTMO : Nat := 6
abbrev bREJ : Nat := 7

/-- A packet leaves router `r` at its destination: to the target, or to wait for a gated domain (R33), or NO_TARGET at a disabled local
port (R27). DESIGN CHOICE: R25 reserves DST_PORT 0b11 and names no effect; a packet that carries it is given to the stop like one for its register
port and answered by what its address decodes to there (log entry 139). -/
def Dev.arrive (d : Dev) (r : Nat) (p : Packet) : Dev :=
  let en := d.get (R.NOC.CTL.LOCAL_EN r)
  if p.dstPort < 2 ∧ !hasBit en p.dstPort then
    if p.isReq then d.send r r (p.answer (if p.typ = 0 ∨ p.typ = 2 then 4 else 5) 4 []) else d
  else
    match (if p.dstPort = 0 then routerDom r else none) with
    | some k =>
      if d.domSt k = .on ∨ (p.isReq ∧ ownPwrctl k p.addr) then { d with noc := { d.noc with delivered := d.noc.delivered ++ [p] } }
      else let d := d.wake k; { d with noc := { d.noc with held := d.noc.held ++ [(k, p)] } }
    | none => { d with noc := { d.noc with delivered := d.noc.delivered ++ [p] } }

/-- Injection on departing packets of router `r` (R302, NOC): what the armed channels do to this packet: 0 nothing, 1 one check bit, 2 two,
and whether the header is the part hit; the channels after counting. -/
def Dev.nocInject (d : Dev) (r : Nat) (p : Packet) : Nat × Bool × Tbl InjCh :=
  let hit := fun (c : InjCh) => c.armed && c.chk == 3 && c.inst == r && (c.part == 0 || p.data.length != 0)
  let hs := (d.inj.filter (fun e => hit e.2)).map (·.2)
  let t := d.inj.map (fun (k, c) => if hit c then (k, c.count) else (k, c))
  match hs.find? (fun c => c.double), hs with
  | some c, _ => (2, c.part == 0, t)
  | none, c :: _ => (1, c.part == 0, t)
  | none, [] => (0, true, t)

/-- A packet goes on from router `r` (R28, R36): to its next router, to wait before a quiesced one, or out at its destination. An
injection of R302 is met at the next router. -/
def Dev.forward (d : Dev) (r : Nat) (p : Packet) : Dev :=
  match nextHop r p with
  | none => d.arrive r p
  | some q =>
    if d.quiesced q ∧ ¬(p.dst = q ∧ p.dstPort = 2) then
      { d with noc := { d.noc with waiting := d.noc.waiting ++ [(r, p)] } }
    else
      let (n, hdr, t) := d.nocInject r p
      let d := { d with inj := t }
      match n with
      | 0 => d.send r q p
      | 1 => (d.nocCe q).send r q p
      | _ => if hdr then d.raise (.noc q) bUE else d.send r q { p with poison := true }

/-- Two packets arriving at router `r` from one input go out of one output on one channel: they keep their order (R29). -/
def samePath (r : Nat) (a b : Nat × Nat × Packet) : Bool :=
  a.1 == b.1 && a.2.1 == b.2.1 && a.2.2.vc == b.2.2.vc && nextHop r a.2.2 == nextHop r b.2.2 && ((nextHop r a.2.2).isSome || a.2.2.dstPort == b.2.2.dstPort)

/-- The entry of a packet that arrives at router `r`, unless an earlier one of its path is still to arrive (R29). -/
def firstArrival (r : Nat) (p : Packet) : List (Nat × Nat × Packet) → List (Nat × Nat × Packet) → Option (Nat × Nat × Packet)
  | _, [] => none
  | before, e :: rest =>
    if e.2.1 == r && e.2.2 == p && before.all (fun x => !samePath r x e) then some e else firstArrival r p (before ++ [e]) rest

/-- The arriving packet's entry, if its turn has come. -/
def Dev.arrivalOf (d : Dev) (r : Nat) (p : Packet) : Option (Nat × Nat × Packet) := firstArrival r p [] d.noc.transit

/-- Packets of one channel already held for domain `k` (R33). -/
def Dev.heldOn (d : Dev) (k : Nat) (vc : Bool) : Nat := (d.noc.held.filter (fun e => e.1 == k && e.2.vc == vc)).length

/-- Four packets of the channel wait for the packet's gated domain: a fifth stays in the router's input buffers (R33). -/
def Dev.backedUp (d : Dev) (r : Nat) (p : Packet) : Bool :=
  nextHop r p == none && p.dstPort == 0 && hasBit (d.get (R.NOC.CTL.LOCAL_EN r)) 0 &&
    (match routerDom r with
    | none => false
    | some k => d.domSt k != .on && !(p.isReq && ownPwrctl k p.addr) && decide (4 ≤ d.heldOn k p.vc))

/-- Remove a packet's entry. -/
def Dev.takeTransit (d : Dev) (e : Nat × Nat × Packet) : Dev :=
  { d with noc := { d.noc with transit := d.noc.transit.erase e } }

/-- Set POISON in the header of the packet a data flit belongs to, wherever it now is. -/
def Dev.poisonPacket (d : Dev) (p : Packet) : Dev :=
  let f := fun (q : Packet) => if q = p then { q with poison := true } else q
  { d with noc := { d.noc with transit := d.noc.transit.map (fun e => (e.1, e.2.1, f e.2.2)), delivered := d.noc.delivered.map f, held := d.noc.held.map (fun e => (e.1, f e.2)), waiting := d.noc.waiting.map (fun e => (e.1, f e.2)) } }

/-- The four request sources: router and source port (R24, R32). -/
def NocSrc.at (s : NocSrc) : Nat × Nat :=
  match s with
  | .bridge => (0, 0)
  | .curator => (5, 0)
  | .skidder => (30, 0)
  | .tally => (35, 0)

/-- The source a packet is from. -/
def sourceOf (p : Packet) : Option NocSrc :=
  [NocSrc.bridge, .curator, .skidder, .tally].find? (fun s => s.at == (p.src, p.srcPort))

/-- A request of the Curator, the Skidder or Tally is timed from its entry (R32); the bridge's was noted by BAR0_ACCESS. -/
def Dev.noteReq (d : Dev) (p : Packet) : Dev :=
  match sourceOf p with
  | none => d
  | some s =>
    if p.isReq && s != .bridge && d.noc.reqs.all (fun q => !(q.src == s && q.tag == p.tag)) then
      { d with noc := { d.noc with reqs := d.noc.reqs ++ [⟨s, p.tag, p.typ % 2 == 1, p.addr, d.time.cclk⟩] } }
    else d

/-- An arriving header flit (R30, R26): corrected, or the packet is discarded; a reserved TYPE too. -/
def Dev.header (d : Dev) (r : Nat) (p : Packet) (e : Ecc) : Dev :=
  match e with
  | .double => d.raise (.noc r) bUE
  | .single => if 8 ≤ p.typ then (d.nocCe r).raise (.noc r) bUE else (d.nocCe r).forward r p
  | .none => if 8 ≤ p.typ then d.raise (.noc r) bUE else d.forward r p

/-- A packet of a unit at one of router `r`'s local ports enters the mesh there (R31, R32, R34; log entry 26). -/
def Dev.enterMesh (d : Dev) (r : Nat) (p : Packet) (e : Ecc) : Dev :=
  let d := d.noteReq p
  if d.shut r p then d.waitLocal r p else d.header r (d.seal r p) e

/-- NOC_FLIT_ARRIVE (R28 to R34): SECDED on the arriving flit; the header flit (0) moves the packet on, each path in arrival order. A packet that is not on its
way arrives only from a local port of its source's router. A fifth packet for a waking domain stays where it is (R33). -/
def Dev.flitArrive (d : Dev) (r : Nat) (p : Packet) (flit : Nat) (e : Ecc) : Dev :=
  if flit = 0 then
    if d.noc.transit.any (fun x => x.2.1 == r && x.2.2 == p) then
      match d.arrivalOf r p with
      | none => d
      | some x => if d.backedUp r p then d else (d.takeTransit x).header r p e
    else if p.src = r ∧ d.backedUp r p = false then d.enterMesh r p e
    else d
  else if flit ≤ p.data.length then
    match e with
    | .double => d.poisonPacket p
    | .single => d.nocCe r
    | .none => d
  else d

/-- The source a response is for. -/
def srcOf (p : Packet) : Option NocSrc :=
  [NocSrc.bridge, .curator, .skidder, .tally].find? (fun s => s.at == (p.dst, p.dstPort))

/-- The outstanding request of a source and tag. -/
def Dev.findReq (d : Dev) (s : NocSrc) (tag : Nat) : Option NocReq := d.noc.reqs.find? (fun q => q.src == s && q.tag == tag)

/-- Close a request. -/
def Dev.closeReq (d : Dev) (q : NocReq) : Dev := { d with noc := { d.noc with reqs := d.noc.reqs.erase q } }

/-- A request closed with an error (R32): a BAR0 read completes with Completer Abort; a write is posted and leaves nothing. -/
def Dev.failReq (d : Dev) (q : NocReq) : Dev :=
  let d := d.closeReq q
  if q.src == NocSrc.bridge && !q.write then d.emit .bar0 .bar0Ca [q.tag] else d

/-- Words of a value list. -/
def lowWord (l : List Nat) : Nat := l.headD 0 % 2 ^ 32

/-- BAR0_ACCESS (R402, R32, R34, R389, R390): the bridge makes the packet. The byte enables ride in bits [35:32] of the data flit. -/
def bar0Packet (d : Dev) (write : Bool) (off be value : Nat) : Option Packet :=
  match bar0Target off with
  | none => none
  | some (r, port) =>
    let p : Packet := { dstCol := r % 6, dstRow := r / 6, dstPort := port, srcCol := 0, srcRow := 0, srcPort := 0, typ := (if isTable off then 2 else 0) + bit write, tag := d.noc.nextTag, dwcnt := 1, addr := off, data := if write then [value % 2 ^ 32 + 2 ^ 32 * (be % 16)] else [] }
    some p

/-- The access enters the mesh at RT00, or waits in the bridge while RT00 is quiesced and it is not for RT00's own registers (R34). -/
def Dev.bar0 (d : Dev) (write : Bool) (off be value : Nat) : Dev :=
  match bar0Packet d write (off / 4 * 4) be value with
  | none => if write then d else d.emit .bar0 .bar0Ca [d.noc.nextTag]
  | some p =>
    let d := { d with noc := { d.noc with reqs := d.noc.reqs ++ [NocReq.mk NocSrc.bridge p.tag write p.addr d.time.cclk], nextTag := (p.tag + 1) % 1024 } }
    if d.shut 0 p then { d with noc := { d.noc with bridge := d.noc.bridge ++ [p] } }
    else d.send 0 0 (d.seal 0 p)

/-- A packet is taken from those delivered. -/
def Dev.take (d : Dev) (p : Packet) : Dev := { d with noc := { d.noc with delivered := d.noc.delivered.erase p } }

/-- RD_CPL (R26, R30, R32): a completion at its source closes the request; a poisoned or error completion closes it with an error. -/
def Dev.rdCpl (d : Dev) (p : Packet) : Dev :=
  let d := d.take p
  match srcOf p with
  | none => d
  | some s =>
    match d.findReq s p.tag with
    | none => d
    | some q =>
      if p.err ≠ 0 ∨ p.poison then d.failReq q
      else
        let d := d.closeReq q
        if s == NocSrc.bridge then d.emit .bar0 .bar0Cpl [q.tag, lowWord p.data] else d.emit (.noc p.dst) .arrive (q.tag :: p.data)

/-- WR_ACK (R26, R32): an acknowledgement closes its write, whatever its error code says: a BAR0 write is posted. -/
def Dev.wrAck (d : Dev) (p : Packet) : Dev :=
  let d := d.take p
  match srcOf p with
  | none => d
  | some s =>
    match d.findReq s p.tag with
    | none => d
    | some q => if p.err ≠ 0 then d.failReq q else d.closeReq q

/-- EVENT (R26): an event message reaches the event delivery logic. A poisoned one is dropped: the target acts on no poisoned packet (R30). -/
def Dev.eventMsg (d : Dev) (p : Packet) : Dev :=
  let d := d.take p
  if p.poison then d else { d with noc := { d.noc with events := d.noc.events ++ [p] } }

/-- SNAP (R26, R357): counter snapshot data reaches Tally for writing into the snapshot ring. -/
def Dev.snapMsg (d : Dev) (p : Packet) : Dev :=
  let d := d.take p
  if p.poison then d else { d with noc := { d.noc with snaps := d.noc.snaps ++ [p] } }

/-- NOC_RETURNED_REQUEST (R36, R33, R32): a returned request closes with an error at its source. -/
def Dev.returnedReq (d : Dev) (p : Packet) : Dev :=
  let d := d.take p
  if p.ret ∧ p.err ≠ 0 then
    match srcOf p with
    | none => d
    | some s => match d.findReq s p.tag with
      | none => d
      | some q => d.failReq q
  else d

/-- NOC_REQUEST_TIMEOUT (R32, R34): an unanswered request closes with an error and the source's router sets SRC_TMO; one still in the
bridge, or at a quiesced router's local port, leaves it. -/
def Dev.reqTimeout (d : Dev) (s : NocSrc) (tag : Nat) : Dev :=
  match d.findReq s tag with
  | none => d
  | some q =>
    let d := { d with noc := { d.noc with
      bridge := if s == NocSrc.bridge then d.noc.bridge.filter (fun p => p.tag != tag) else d.noc.bridge,
      locals := d.noc.locals.filter (fun e => !(e.2.isReq && sourceOf e.2 == some s && e.2.tag == tag)) } }
    (d.failReq q).raise (.noc s.at.1) bTMO

/-- NOC_STALL (R36): a packet that has waited 10 us before a quiesced router: STALL; a request returns to its source, a response is
discarded. -/
def Dev.stall (d : Dev) (r : Nat) (p : Packet) : Dev :=
  if (r, p) ∈ d.noc.waiting then
    let d := { d with noc := { d.noc with waiting := d.noc.waiting.erase (r, p) } }
    let d := d.raise (.noc r) bSTALL
    if p.isReq then d.forward r (p.returned 1) else d
  else d

/-- DOMAIN_ON (R22, R33): a waking domain is on: GATE clears, WOKE sets, the packets held for it leave in order. -/
def Dev.domainOn (d : Dev) (k : Nat) : Dev :=
  if d.domSt k = .waking then
    let d := (d.setDom k .on).off (pwrGate k)
    let d := d.off (pwrGated k)
    let mine := d.noc.held.filter (fun e => e.1 == k)
    { d with noc := { d.noc with held := d.noc.held.filter (fun e => e.1 != k), delivered := d.noc.delivered ++ mine.map (·.2) } }
  else d

/-- WAKE_FAIL (R33): held requests return with WAKE_FAIL, held responses are discarded, and the stop's router sets WAKE_FAIL. The domain
stays where the failed wake left it: gated. -/
def Dev.wakeFail (d : Dev) (k : Nat) : Dev :=
  if d.domSt k = .waking then
    let r := domRouter k
    let mine := (d.noc.held.filter (fun e => e.1 == k)).map (·.2)
    let d := { d with noc := { d.noc with held := d.noc.held.filter (fun e => e.1 != k) } }
    let d := (mine.filter (·.isReq)).foldl (fun d p => d.forward r (p.returned 2)) d
    ((d.setDom k .gated).on (pwrGated k)).raise (.noc r) bWAKE
  else d

/-- Something waits for the domain to come on: a packet (R33), or a request at a directory slice's boundary (R23). -/
def Dev.awaited (d : Dev) (k : Nat) : Bool :=
  d.noc.held.any (fun e => e.1 == k) || (decide (16 ≤ k) && (Tbl.get d.dirs {} (k - 16)).retd.any (fun x => x.why == .held))

/-- GATE_REQUEST (R20, R22): a write of PWRCTL.GATE. Gating needs every port unit of the stand DISABLED, or no enabled coherent window
(`ok`); a refusal clears GATE and sets GATE_REJ. Packets and directory requests that wait for a waking domain keep it waking (log entry 27). 0 requests
power-on. -/
def Dev.gateReq (d : Dev) (k : Nat) (gate ok : Bool) : Dev :=
  if gate then
    if !ok then (d.off (pwrGate k)).on (pwrRej k)
    else match d.domSt k with
      | .on => (d.on (pwrGate k)).setDom k .entering
      | .waking => if d.awaited k then d.off (pwrGate k) else (d.on (pwrGate k)).setDom k .entering
      | _ => d.on (pwrGate k)
  else
    let d := d.off (pwrGate k)
    match d.domSt k with
    | .entering => d.setDom k .waking
    | .gated => (d.off (pwrGated k)).setDom k .waking
    | _ => d

/-- DOMAIN_GATED (R22): entry completes; GATED reads 1. -/
def Dev.domainGated (d : Dev) (k : Nat) : Dev :=
  if d.domSt k = .entering then (d.setDom k .gated).on (pwrGated k) else d

/-- What router r still holds (R37): arriving packets, packets held for a wake at its stop, waiting packets. -/
def Dev.routerEmpty (d : Dev) (r : Nat) : Bool :=
  d.noc.transit.all (fun e => e.2.1 != r) && d.noc.waiting.all (fun e => e.1 != r) &&
    d.noc.held.all (fun e => domRouter e.1 != r)

/-- QUIESCE_COMPLETE (R34, R37). -/
def Dev.quiesceDone (d : Dev) (r : Nat) : Dev :=
  if d.quiesced r ∧ d.routerEmpty r then d.on (R.NOC.STS.QUIESCED r) else d

/-- UNQUIESCE (R34, R36): the router returns to service; the packets waiting for it, at its neighbours and at its local ports, continue, and
the bridge's accesses enter when RT00 does. -/
def Dev.unquiesce (d : Dev) (r : Nat) : Dev :=
  let d := (d.off (R.NOC.CTL.QUIESCE r)).off (R.NOC.STS.QUIESCED r)
  let go := d.noc.waiting.filter (fun e => nextHop e.1 e.2 == some r)
  let own := d.noc.locals.filter (fun e => e.1 == r)
  let d := { d with noc := { d.noc with
    waiting := d.noc.waiting.filter (fun e => nextHop e.1 e.2 != some r),
    transit := d.noc.transit ++ go.map (fun e => (e.1, r, e.2)) ++ own.map (fun e => (r, r, d.seal r e.2)),
    locals := d.noc.locals.filter (fun e => e.1 != r) } }
  if r = 0 then { d with noc := { d.noc with bridge := [], transit := d.noc.transit ++ d.noc.bridge.map (fun p => (0, 0, d.seal 0 p)) } } else d

/-- LOCAL_EN_CHANGE (R35): a write of NOC.CTL that changes LOCAL_EN takes it only while QUIESCED is 1, else sets CFG_REJ; the other fields
take effect. -/
def Dev.localEn (d : Dev) (r : Nat) (v : Nat) : Dev :=
  let quiesce := hasBit v 0
  let d1 := ((d.put (R.NOC.CTL.E2E_GEN r) (hasBit v 1)).set (R.NOC.CTL.EVT_MASK r) (bits v 16 7)).set (R.NOC.CTL.CE_THRESH r) (bits v 24 8)
  let d2 :=
    if bits v 2 2 = d.get (R.NOC.CTL.LOCAL_EN r) then d1
    else if d.is (R.NOC.STS.QUIESCED r) then d1.set (R.NOC.CTL.LOCAL_EN r) (bits v 2 2)
    else d1.raise (.noc r) bREJ
  if quiesce then d2.on (R.NOC.CTL.QUIESCE r)
  else if d.quiesced r then d2.unquiesce r else d2

end Sys2Proof.Machine
end

