-- ==== Sys2Proof/Machine/SkidBase.lean ====
section
/-! DEFINITION. The parts of the Skidder the directory and the scheduler rest on (R71, R181, R182, R188, R193, R194, R203, R206): queues, stops, accesses in flight
and what answers them. -/
namespace Sys2Proof.Machine

/-- DMV.STS bits. -/
abbrev dmvTqHalt : Nat := 0
abbrev dmvSqHalt : Nat := 1
abbrev dmvFetch : Nat := 2
abbrev dmvCpl : Nat := 3
abbrev dmvTmo : Nat := 4
abbrev dmvPoison : Nat := 5
abbrev dmvRb : Nat := 6
abbrev dmvVerify : Nat := 7
abbrev dmvScrubBad : Nat := 8
abbrev dmvAdmStall : Nat := 9
abbrev dmvGdisc : Nat := 10
abbrev dmvRej : Nat := 11
abbrev dmvCe : Nat := 12
abbrev dmvUe : Nat := 13
abbrev dmvAbortDone : Nat := 14

/-- Queue states (R182). -/
abbrev qDisabled : Nat := 0
abbrev qActive : Nat := 1
abbrev qStopping : Nat := 2
abbrev qHalted : Nat := 3

/-- Stop kinds (R188). -/
abbrev kDisable : Nat := 1
abbrev kAbort : Nat := 2
abbrev kError : Nat := 3

/-- Statuses (R203). -/
abbrev sAlign : Nat := 1
abbrev sBadDesc : Nat := 2
abbrev sPhase : Nat := 3
abbrev sTrigErr : Nat := 4
abbrev sFragErr : Nat := 5
abbrev sProt : Nat := 6
abbrev sPoison : Nat := 7
abbrev sWrErr : Nat := 8
abbrev sTimeout : Nat := 9
abbrev sRbFail : Nat := 0xA
abbrev sVerify : Nat := 0xB
abbrev sSrcCrc : Nat := 0xC
abbrev sDstCrc : Nat := 0xD
abbrev sAborted : Nat := 0xE
abbrev sFetchErr : Nat := 0xF

/-- A queue's entry and running part. -/
def Dev.qe (d : Dev) (q : Nat) : QueueE := Tbl.get d.queues {} q
def Dev.qr (d : Dev) (q : Nat) : QRt := Tbl.get d.skid.rt {} q
def Dev.updQe (d : Dev) (q : Nat) (f : QueueE → QueueE) : Dev := { d with queues := Tbl.set d.queues {} q (f (d.qe q)) }
def Dev.updQr (d : Dev) (q : Nat) (f : QRt → QRt) : Dev := { d with skid := { d.skid with rt := Tbl.set d.skid.rt {} q (f (d.qr q)) } }

/-- Tenant queues are 0 to 1,023; queue q is queue q % 2 of slice q / 2 (R181). -/
def isTenant (q : Nat) : Bool := q < 1024
def qSlice (q : Nat) : Nat := q / 2

/-- The owner of system queue 1,024 + k (DMV.SQOWN): 0 to 7 a principal, 8 to 14 none, 15 the device. -/
def Dev.sqOwner (d : Dev) (q : Nat) : Nat :=
  let k := q - 1024
  bits (d.get (if k < 8 then R.DMV.SQOWN0.OWN else R.DMV.SQOWN1.OWN)) (4 * (k % 8)) 4

/-- A system queue gets an owner. -/
def Dev.setSqOwner (d : Dev) (k o : Nat) : Dev :=
  let f := if k < 8 then R.DMV.SQOWN0.OWN else R.DMV.SQOWN1.OWN
  let v := d.get f
  d.set f (v - bits v (4 * (k % 8)) 4 * 2 ^ (4 * (k % 8)) + o % 16 * 2 ^ (4 * (k % 8)))

/-- Ring entries of a queue. -/
def QueueE.ents (e : QueueE) : Nat := 2 ^ e.size

/-- The generation a queue's items carry: its slice's, none for a system queue. -/
def Dev.qGen (d : Dev) (q : Nat) : Nat := if isTenant q then (d.sl (qSlice q)).gen else 0

/-! ### Started descriptors and stops (R188) -/

/-- A stop of a queue begins (R188): nothing more is fetched or started; DISABLE and ABORT let started descriptors issue no more bursts and end ABORTED. -/
def Dev.beginStop (d : Dev) (q kind : Nat) : Dev :=
  let d := (d.updQe q (fun e => { e with st := qStopping })).updQr q (fun r => { r with stop := kind, reading := 0 })
  let void := fun (b : SkAcc) => b.q == q && (match b.kind with
    | .ring | .frag _ => true
    | _ => false)
  let d := { d with skid := { d.skid with ready := d.skid.ready.filter (fun x => x.1 != q), accs := d.skid.accs.map (fun b => if void b then { b with void := true } else b) } }
  if kind = kError then d
  else { d with skid := { d.skid with acts := d.skid.acts.map (fun a =>
      if a.q = q ∧ a.status.isNone then { a with stopped := true, aborted := true } else a) } }

/-- Record a started descriptor. -/
def Dev.setAct (d : Dev) (a : ADesc) : Dev :=
  { d with skid := { d.skid with acts := d.skid.acts.map (fun x => if x.q = a.q ∧ x.slot = a.slot then a else x) } }

/-- Drop a started descriptor. -/
def Dev.dropAct (d : Dev) (q slot : Nat) : Dev :=
  { d with skid := { d.skid with acts := d.skid.acts.filter (fun x => !(x.q == q && x.slot == slot)) } }

/-- A started descriptor. -/
def Dev.act (d : Dev) (q slot : Nat) : Option ADesc := d.skid.acts.find? (fun a => a.q == q && a.slot == slot)

/-- An item of an old generation is discarded (R206). -/
def Dev.qDiscard (d : Dev) (q : Nat) : Dev := (d.gdisc (qSlice q)).raise .dmv dmvGdisc

/-! ### Accesses in flight (R71, R193, R194) -/

/-- The side of an access that its present message reaches: a pool address, or none for memory of a host, a principal or the Curator. -/
def SkAcc.side (b : SkAcc) : Option Nat := if b.kind = .write then b.dPool else b.sPool

/-- An access is a burst (R193, R208). -/
def SkAcc.isBurst (b : SkAcc) : Bool := b.kind == .read || b.kind == .write

/-- Bursts in flight. -/
def Dev.bursts (d : Dev) : List SkAcc := d.skid.accs.filter (·.isBurst)

/-- Change an access. -/
def Dev.updAcc (d : Dev) (id : Nat) (f : SkAcc → SkAcc) : Dev :=
  { d with skid := { d.skid with accs := d.skid.accs.map (fun (x : SkAcc) => if x.id = id then f x else x) } }

/-- An access is over: its charge is given back. -/
def Dev.endAcc (d : Dev) (b : SkAcc) : Dev :=
  let d := { d with skid := { d.skid with accs := d.skid.accs.filter (fun x => x.id != b.id) } }
  if isTenant b.q then d.uncharge (qSlice b.q) b.cells else d

/-- The Skidder's access `id` of queue q is answered, with data or, of a write, without. -/
def Dev.accAnswer (d : Dev) (q id : Nat) (write : Bool) (data bad : Nat) : Dev :=
  d.updAcc id (fun b => if b.q = q ∧ (b.kind == .write) = write then { b with here := true, data := data, bad := max b.bad bad } else b)

/-- An item of queue q of an old generation is discarded (R206). -/
def Dev.accDrop (d : Dev) (q id : Nat) : Dev :=
  match d.skid.accs.find? (fun b => b.id == id && b.q == q) with
  | some b => (d.endAcc b).qDiscard q
  | none => d.qDiscard q

/-- A completion, head or interrupt write of a queue has failed (R204, R208): CPL_ERR; the queue halts. -/
def Dev.cplLost (d : Dev) (q : Nat) : Dev :=
  let d := d.raise .dmv dmvCpl
  if (d.qe q).st = qActive then d.beginStop q kError else d

/-- A posted write of a queue is lost on its way (R85, R88): of a burst its access fails, else a completion, head or interrupt write has. -/
def Dev.postLost (d : Dev) (m : Msg) : Dev :=
  match m.src with
  | .skid q => if m.kind ≠ .ioWrite then d else if m.paid then d.accAnswer q m.tag true 0 2 else d.cplLost q
  | _ => d

/-- Reserve cells held by the accesses of system queues (R194). -/
def Dev.sysCells (d : Dev) : Nat := (d.skid.accs.filter (fun b => !isTenant b.q)).foldl (fun n b => n + b.cells) 0

end Sys2Proof.Machine
end

