-- ==== Sys2Proof/Machine/Coherence.lean ====
section
/-! DEFINITION. The coherent home (R92 to R131): windows, the directory and its trackers, requests and grants, races, parking, atomics,
eviction, recall, the sweep of a lost port. -/
namespace Sys2Proof.Machine

/-! ### Lines, slices, entries -/

/-- The directory slice of a line (R98). -/
def dsOf (line : Nat) : Nat := (line ^^^ (line / 2 ^ 14) ^^^ (line / 2 ^ 28)) % 16

/-- Its set. -/
def lineSet (line : Nat) : Nat := ((line / 2 ^ 4) ^^^ (line / 2 ^ 18)) % 1024

/-- Its tag: line[39:14]. -/
def tagOf (line : Nat) : Nat := line / 2 ^ 14 % 2 ^ 26

/-- The line a set and a tag name in a slice (R98). -/
def lineOf (ds set tag : Nat) : Nat :=
  tag * 2 ^ 14 + ((set ^^^ (tag / 2 ^ 4)) % 1024) * 16 + (ds ^^^ (tag % 16) ^^^ (tag / 2 ^ 14 % 16))

/-- A slice's record. -/
def Dev.dir (d : Dev) (ds : Nat) : DirRt := Tbl.get d.dirs {} ds

/-- Change a slice's record. -/
def Dev.updDir (d : Dev) (ds : Nat) (f : DirRt → DirRt) : Dev := { d with dirs := Tbl.set d.dirs {} ds (f (d.dir ds)) }

/-- The way of a set that holds a line, with its entry. -/
def DirRt.find (r : DirRt) (set tag : Nat) : Option (Nat × DirEntry) :=
  ((List.range 16).map (fun w => (w, Tbl.get r.ents {} (16 * set + w)))).find? (fun (_, e) => e.st != .i && e.tag == tag)

/-- Injection on directory entry writes (R302, DIR): what the armed channels do to this write, as the entry's `flaw`; the channels after counting. -/
def Dev.dirInject (d : Dev) (ds : Nat) : Option Nat × Tbl InjCh :=
  let hit := fun (c : InjCh) => c.armed && c.chk == 1 && c.inst == ds
  let hs := (d.inj.filter (fun e => hit e.2)).map (·.2)
  let t := d.inj.map (fun (k, c) => if hit c then (k, c.count) else (k, c))
  match hs.find? (·.double), hs with
  | some c, _ => (some (2 + 2 * c.part), t)
  | none, c :: _ => (some (1 + 2 * c.part), t)
  | none, [] => (none, t)

/-- Write way w of a set. A freed way gives its predictor counter back to the table (R122). -/
def Dev.setEnt (d : Dev) (ds set way : Nat) (e : DirEntry) : Dev :=
  let (fl, t) := d.dirInject ds
  let e := match fl with
    | some f => if e.st = .i then e else { e with flaw := f }
    | none => e
  { d with inj := t }.updDir ds (fun r => { r with ents := Tbl.set r.ents {} (16 * set + way) e })

/-- The predictor table's index of a line without an entry (R122). -/
def predIdx (set tag : Nat) : Nat := (set ^^^ (tag % 1024)) * 4 + tag / 1024 % 4

/-- Free a way (R122). -/
def Dev.freeWay (d : Dev) (ds set way : Nat) : Dev :=
  let e := Tbl.get (d.dir ds).ents {} (16 * set + way)
  (d.updDir ds (fun r => { r with pred := Tbl.set r.pred 1 (predIdx set e.tag) e.pred })).setEnt ds set way {}

/-- The tracker that holds a line. -/
def DirRt.trk (r : DirRt) (line : Nat) : Option Tracker := r.trks.find? (fun t => t.line == line)

/-- Trackers of the slice outside the recall engine's (R102). -/
def DirRt.inUse (r : DirRt) : Nat := (r.trks.filter (fun t => !t.rcl)).length

/-- Store a tracker in place of the one that holds its line. -/
def Dev.putTrk (d : Dev) (ds : Nat) (t : Tracker) : Dev :=
  d.updDir ds (fun r => { r with trks := (r.trks.filter (fun x => x.line != t.line)) ++ [t] })

/-- Holders of an entry other than a port (R104). -/
def DirEntry.holders (e : DirEntry) (but : Option Nat) : List Nat :=
  (List.range 64).filter (fun p => (hasBit e.sharers p || ((e.st == .e || e.st == .m) && !e.ac && e.owner == p)) && but != some p)

/-- Draw a BITag: the one freed longest ago (R102). -/
def DirRt.draw (r : DirRt) : Option (Nat × DirRt) :=
  if r.fresh < 256 then some (r.fresh, { r with fresh := r.fresh + 1 })
  else match r.freed with
    | t :: rest => some (t, { r with freed := rest })
    | [] => none

/-- A BITag returns to the free list. -/
def Dev.freeTag (d : Dev) (ds t : Nat) : Dev := d.updDir ds (fun r => { r with freed := r.freed ++ [t] })

/-! ### Windows -/

/-- The enabled coherent window that covers an extent, or one whose change still runs (R93 to R95). -/
def Dev.winOf (d : Dev) (ext : Nat) : Option (Nat × CWinE) :=
  (d.cwins.find? (fun (_, c) => c.en && c.first ≤ ext && ext ≤ c.first + c.num))

/-- The window's disable is running (R95). -/
def Dev.disabling (d : Dev) (w : Nat) : Bool := (d.winchg.find? (fun (k, c) => k == w && c.kind == 2)).isSome

/-- The pair is paired, taking over or alone with roles, so that HOME counts: PAIR.CTL.EN (R128). -/
def Dev.paired (d : Dev) : Bool := d.is R.PAIR.CTL.EN

/-- This device is home to a window (R93, R128): HOME names its role, or it serves every window while it is alone or has not joined (R292, R296). -/
def Dev.isHome (d : Dev) (c : CWinE) : Bool := !d.paired || d.pair.solo || (c.home == d.is R.PAIR.STATE.ROLE) || d.get R.PAIR.STATE.PSTATE = 0

/-- Requests to a coherent window are held at ingress: in SWITCH and RECALL of a takeover (R291), and to a window that is handed back (R296). -/
def Dev.ingressHeld (d : Dev) (pool : Nat) : Bool :=
  match d.winOf (pool / 2 ^ 30) with
  | none => false
  | some (_, c) => d.pair.stage == 1 || d.pair.stage == 2 || (d.is R.PAIR.SYNCSTS.HANDBACK && c.home != d.is R.PAIR.STATE.ROLE)

/-! ### Messages the home sends -/

/-- Take `n` cells for a message generated in the device (log entry 13). -/
def Buf.grab : Nat → Buf → List Nat → Buf × List Nat
  | 0, b, acc => (b, acc)
  | n + 1, b, acc =>
    match b.anyBank with
    | none => (b, acc)
    | some k =>
      match b.pick k with
      | none => (b, acc)
      | some c => Buf.grab n { b with cells := tadd b.cells c 1 } (acc ++ [c])

/-- A message with its cells joins the buffer and is charged (R68, R71): SCP and what has no slice to the system reserve of port unit `pu`, the rest to its
slice. One whose data has not come is charged at its last unit; an access of the Skidder is charged already. -/
def Dev.joinBuf (d : Dev) (m : Msg) (pu : Nat) : Dev :=
  let n := if m.dataIn then m.touch else 0
  let r := if m.kind.asksData then 2 else 0
  let m := { m with id := d.buf.nextId, since := d.time.cclk }
  let d := { d with buf := { d.buf with nextId := d.buf.nextId + 1 } }
  if m.paid then { d with buf := { d.buf with msgs := d.buf.msgs ++ [m] } }
  else if m.cls = .scp ∨ m.slice = none then
    { d with buf := { d.buf with sysUse := tadd d.buf.sysUse pu n, msgs := d.buf.msgs ++ [{ m with sysPu := some pu, sysN := n }] } }
  else
    let d := d.charge (m.slice.getD 0) (n + r)
    { d with buf := { d.buf with msgs := d.buf.msgs ++ [{ m with chg := n, resp := r }] } }

/-- A message generated in the device joins the buffer in cells of its own (R64, R68, R71): SCP is charged where it leaves. -/
def Dev.enq (d : Dev) (m : Msg) : Dev :=
  let n := cellsFor m.bytes
  let (b, cs) := Buf.grab n d.buf []
  let (h, w, inj) := d.bufInject (cs.headD 0 / 65536) ((m.bytes + 63) / 64)
  let d := Dev.joinBuf { d with buf := b, inj := inj } ({ m with cells := cs, touch := n }.hurt h w) m.egress
  cs.foldl (fun d c => d.count (ctrCp (c / 4096 / 16)) 0x20 none 1) d

/-- A message made of an arrival stays in the arrival's cells, with what the units that carry it have brought (R65, R75, R78); SCP is charged where it entered
(R71). Without an arrival it has come whole, in cells of its own. -/
def Dev.enqFrom (d : Dev) (a : Option Msg) (m : Msg) : Dev :=
  match a with
  | none => d.enq m
  | some a =>
    let d := { d with buf := { d.buf with cells := a.cells.foldl (fun t c => tadd t c 1) d.buf.cells } }
    d.joinBuf { m with cells := a.cells, touch := a.touch, dataIn := a.dataIn, saf := a.saf, unrel := a.unrel, arr := a.arr, pu := a.pu, flaw := a.flaw, poison := m.poison || a.poison } a.pu

/-- A protocol message to HOST port p. -/
def Dev.toHost (d : Dev) (p : Nat) (kind : MsgKind) (op : Op) (args : List Nat) (bytes : Nat) (poison : Bool) : Dev :=
  d.enq { src := .dev, cls := .scp, kind := kind, egress := p, bytes := bytes, op := op, args := args, poison := poison, slice := none }

/-- A CXL.io completion of the device itself to HOST port p: SCP where it carries no data (R161), in order behind the completions of its requester (R80, log entry 148). -/
def Dev.ioCplTo (d : Dev) (p : Nat) (slice : Option Nat) (part : Nat) (op : Op) (args : List Nat) : Dev :=
  d.enq { src := .io p, tag := args.headD 0, cls := .scp, kind := .ioCpl, egress := p, bytes := 16, op := op, args := args, slice := slice, gen := slice.elim 0 (fun s => (d.sl s).gen), part := part }

/-- The port a request to an extent leaves on (R142, R262): the MEM port of its primary head, or the link of its neighbour's group. -/
def Dev.memPort (d : Dev) (slice pool : Nat) : Nat := d.linkFor (d.ext (pool / 2 ^ 30)).port slice pool

/-- The address a request carries: the device address on a MEM port, the pool address on a Xepin link (R251). -/
def Dev.reqAddr (d : Dev) (pool : Nat) : Nat := if d.isXep (d.ext (pool / 2 ^ 30)).port then pool else d.dpa pool

/-- What a request is on its link. -/
def Dev.reqOp (d : Dev) (pool : Nat) (op : Op) : Op := if d.isXep (d.ext (pool / 2 ^ 30)).port then .xReq else op

/-- The generation of a slice. -/
def Dev.gen (d : Dev) (s : Nat) : Nat := (d.sl s).gen

/-- The originator a Xepin header names (R251): device, whether a Skidder queue, queue or port number. -/
def Dev.xOrg (d : Dev) (s : Src) : Nat × Bool × Nat :=
  match s with
  | .host p | .io p => (d.pins.devId, false, p)
  | .skid q => (d.pins.devId, true, q)
  | .xep _ odev oq oidx _ => (odev, oq, oidx)
  | .peer _ odev oidx => (odev, false, oidx)
  | .dev => (d.pins.devId, false, 0)

/-- The header of a message on a Xepin link (R251): SLICE, SYS and ADDR are the request's, in a response too. -/
def Dev.xHdr (d : Dev) (src : Src) (slice : Option Nat) (pool op : Nat) : XMsg :=
  let o := d.xOrg src
  { op := op, odev := o.1, oq := o.2.1, oidx := o.2.2, slice := slice.getD 0, sys := slice.isNone, addr := pool / 64 * 64 }

/-- The slice of a request, none where it has none. -/
def DirReq.sliceOf (r : DirReq) : Option Nat := if r.sys ∨ r.src = .dev then none else some r.slice

/-- The class a request's message to memory travels in (R161): SC2 for a tenant queue of the Skidder and for a slice that a rebind drains, SC3 for a system
queue, else `c`. -/
def Dev.reqCls (d : Dev) (r : DirReq) (c : Cls) : Cls :=
  match r.src with
  | .skid q => if q < 1024 then .sc2 else .sc3
  | _ => if r.sliceOf.any (fun s => (d.sl s).st = slDrain ∧ (d.sl s).pend = 4) then .sc2 else c

/-- The message that brought a request to the directory: it asks for the request's line. -/
def Dev.broughtBy (d : Dev) (r : DirReq) : Option Msg :=
  d.buf.msgs.find? (fun m => m.stage == 2 && m.src == r.src && m.tag == r.tag && decide (m.pool / 64 ≤ r.pool / 64) && decide (r.pool / 64 < m.pool / 64 + m.lines))

/-- It is released when the directory acts on it (R13, R66), one that gathers its answers when it has them. -/
def Dev.takeReq (d : Dev) (r : DirReq) : Dev :=
  match d.broughtBy r with
  | some m => if m.gathers then d else d.release m false
  | none => d

/-- It is given up. -/
def Dev.dropReq (d : Dev) (r : DirReq) : Dev :=
  match d.broughtBy r with
  | some m => d.release m false
  | none => d

/-- The slice of a request has advanced its generation since the request was admitted (R149). A write-back acts all the same. -/
def Dev.reqStale (d : Dev) (r : DirReq) : Bool := r.cls != .wb && r.sliceOf.any (fun s => d.gen s != r.gen)

/-- A request of an old generation, or its answer, is discarded and counted (R149, R206). -/
def Dev.dropStale (d : Dev) (r : DirReq) : Dev :=
  match r.src with
  | .skid q => (d.dropReq r).accDrop q r.tag
  | _ => (d.dropReq r).gdisc r.slice

/-- The request a message carries, for its answer. -/
def Msg.asReq (m : Msg) : DirReq := { src := m.src, cls := .ncr, pool := m.pool, slice := m.slice.getD 0, tag := m.tag, gen := m.gen, sys := m.slice.isNone, part := m.part }

/-- One more line of a request that gathers its answers has come: the request with them all, released, once it has. -/
def Dev.gather (d : Dev) (m : Msg) (r : DirReq) (data : Nat) (poison : Bool) : Dev × Option Msg :=
  let n := { m with got := Tbl.put m.got (r.pool / 64 - m.pool / 64) data, poison := m.poison || poison }
  if n.lines ≤ n.got.length then (d.release m false, some n) else (d.updMsg m.id (fun _ => n), none)

/-- The data a read gathers, from its first byte on; an AtomicOp's answer is its operand's old value. -/
def Msg.gathered (m : Msg) : Nat :=
  let x := m.got.foldl (fun x e => x + e.2 * 2 ^ (512 * e.1)) 0
  if m.kind = .atomic then x else bits x (8 * (m.pool % 64)) (8 * m.ask)

/-- A message the directory sends to memory for a request (R97, R104). -/
def Dev.homeMsg (d : Dev) (r : DirReq) (cls : Cls) (kind : MsgKind) (x : XMsg) : Msg :=
  { src := r.src, cls := cls, kind := kind, egress := d.memPort (r.sliceOf.getD 0) r.pool, addr := d.reqAddr r.pool, pool := r.pool, slice := r.sliceOf, gen := r.gen, tag := r.tag, alt := (d.ext (r.pool / 2 ^ 30)).altEn, home := true, paid := cls != .scp && (match r.src with
    | .skid _ => true
    | _ => false), part := r.part, stage := 1, x := some x }

/-- A read of a line from memory, for a request (R97, R104). -/
def Dev.memRead (d : Dev) (r : DirReq) : Dev :=
  (d.takeReq r).enq { d.homeMsg r (d.reqCls r .sc0) .memRead (d.xHdr r.src r.sliceOf r.pool 1) with bytes := 16, ask := 64, op := d.reqOp r.pool .memRd, args := [d.reqAddr r.pool, (d.ext (r.pool / 2 ^ 30)).ld] }

/-- A line for memory, under a class and charged to a slice or to none. -/
def Dev.lineWrite (d : Dev) (r : DirReq) (cls : Cls) (slice : Option Nat) (data be : Nat) (poison : Bool) : Dev :=
  d.enq { d.homeMsg r cls .memWrite { d.xHdr r.src slice r.pool 5 with be := be, data := data } with bytes := 80, op := d.reqOp r.pool .memWr, args := [d.reqAddr r.pool, data, be], poison := poison, slice := slice }

/-- A request's write to memory (R97, R104). -/
def Dev.memWrite (d : Dev) (r : DirReq) (data be : Nat) (poison : Bool) : Dev := (d.takeReq r).lineWrite r (d.reqCls r .sc1) r.sliceOf data be poison

/-- A write-back to memory (R104, R110, R111, R123): protocol class SCP (R114, R161), charged to no slice (R71). -/
def Dev.memWb (d : Dev) (r : DirReq) (data be : Nat) (poison : Bool) : Dev := (d.takeReq r).lineWrite r .scp none data be poison

/-- The link a request from another device came over. -/
def Src.link : Src → Option Nat
  | .xep p _ _ _ _ => some p
  | .peer m _ _ => some m
  | _ => none

/-- The OP of a response on a Xepin link (R252). -/
def Op.rspCode : Op → Nat
  | .cmpS => 0x81
  | .cmpE => 0x82
  | .cmpM => 0x83
  | _ => 0x80

/-- A RSP message to the neighbour behind port p (R251): OP, STATUS, the originator, SLICE, SYS, ADDR and TAG of its request, data lines. It takes the link of its
bucket (R82, R260). -/
def Dev.xRspMsg (d : Dev) (r : DirReq) (p code status : Nat) (data : Option (Nat × Nat)) (poison : Bool) : Msg :=
  { src := r.src, cls := .scp, kind := if data.isNone then .cpl else .data, egress := d.linkFor p (r.sliceOf.getD 0) r.pool, addr := r.pool, pool := r.pool, bytes := 16 + 64 * (data.elim 0 (·.2)), tag := r.tag, poison := poison, slice := r.sliceOf, gen := r.gen, op := .xRsp, x := some { d.xHdr r.src r.sliceOf r.pool code with status := status, len := data.elim 0 (·.2) - 1, data := data.elim 0 (·.1) } }

/-- It is sent in the protocol class. -/
def Dev.toXep (d : Dev) (r : DirReq) (p code status : Nat) (data : Option (Nat × Nat)) (poison : Bool) : Dev := d.enq (d.xRspMsg r p code status data poison)

/-- An answer in the protocol class to HOST port p for a request (R149: it carries the request's generation). -/
def Dev.hostAns (d : Dev) (r : DirReq) (p : Nat) (kind : MsgKind) (op : Op) (args : List Nat) (bytes : Nat) (poison : Bool) : Dev :=
  d.enq { src := .dev, cls := .scp, kind := kind, egress := p, bytes := bytes, op := op, args := args, poison := poison, slice := r.sliceOf, gen := r.gen }

/-- `n` bytes for the requester: a host, a CXL.io reader, the Skidder, another device (R104). -/
def Dev.giveRead (d : Dev) (r : DirReq) (data n : Nat) (poison : Bool) : Dev :=
  match r.src with
  | .host p => d.hostAns r p .data .memData [r.tag, data] 80 poison
  | .io p => d.enq { src := r.src, tag := r.tag, cls := .scp, kind := .ioCplData, egress := p, bytes := 16 + n, op := .ioCpl, args := [r.tag, data], poison := poison, slice := r.sliceOf, gen := r.gen, part := r.part }
  | .skid q => d.accAnswer q r.tag false data (bit poison)
  | .xep p _ _ _ io => d.toXep r p (if io then 0x85 else 0x84) 0 (some (data, (n + 63) / 64)) poison
  | .peer m _ _ => d.toXep r m 0x84 0 (some (data, 1)) poison
  | .dev => d

/-- The requester's completion without data (R104, R105). A CXL.io write is posted and gets none. -/
def Dev.giveCpl (d : Dev) (r : DirReq) (op : Op) : Dev :=
  match r.src with
  | .host p => d.hostAns r p .cpl op [r.tag] 16 false
  | .io _ => d
  | .skid q => d.accAnswer q r.tag true 0 0
  | .xep p _ _ _ io => if io then d else d.toXep r p op.rspCode 0 none false
  | .peer m _ _ => d.toXep r m op.rspCode 0 none false
  | .dev => d

/-- A line of data answers a request: one that gathers its answers goes back with the last of them (log entry 170); one of an old generation is discarded (R149). -/
def Dev.answerData (d : Dev) (r : DirReq) (data : Nat) (poison : Bool) : Dev :=
  if d.reqStale r then d.dropStale r
  else match (d.broughtBy r).filter (·.gathers) with
    | some m =>
      let x := d.gather m r data poison
      x.2.elim x.1 (fun n => x.1.giveRead n.asReq n.gathered n.ask n.poison)
    | none => (d.takeReq r).giveRead r data 64 poison

/-- A request is completed without data. -/
def Dev.answerCpl (d : Dev) (r : DirReq) (op : Op) : Dev :=
  if d.reqStale r then d.dropStale r
  else match (d.broughtBy r).filter (·.gathers) with
    | some m =>
      let x := d.gather m r 0 false
      x.2.elim x.1 (fun n => x.1.giveCpl n.asReq op)
    | none => (d.takeReq r).giveCpl r op

/-- The HOST port of a host, of either device of a pair (R128). -/
def Src.hostPort : Src → Option Nat
  | .host p => some p
  | .peer _ _ p => some p
  | _ => none

/-- A snoop to HOST port p; in a pair, through the partner's port p while this one is down (R128). -/
def Dev.snoopTo (d : Dev) (p : Nat) (op : Op) (args : List Nat) : Dev :=
  match (if d.paired && !d.isUp p then d.mirrorPort else none) with
  | some m => d.enq { src := .dev, cls := .scp, kind := .snoop, egress := m, bytes := 16, op := .xReq, args := args, tag := args.headD 0, x := some { d.xHdr .dev none (args.getD 1 0) (if op = .bisnpInv then 0x18 else if op = .bisnpData then 0x19 else 0x1A) with oidx := p }, slice := none }
  | none => d.toHost p .snoop op args 16 false

/-- Snoops of a tracker (R102, R107 to R109): the tracker draws one BITag and sends the snoop to each port under it. A HOST port that is down
in a pair is snooped through the partner (R128). Without a free tag the tracker waits, holding its line, until one returns. -/
def Dev.snoop (d : Dev) (ds : Nat) (t : Tracker) (op : Op) (ports : List Nat) : Dev :=
  if ports.isEmpty then d.putTrk ds t
  else
    match t.bitag with
    | some g => (ports.foldl (fun d p => d.snoopTo p op [ds * 256 + g, t.line * 64]) (d.putTrk ds { t with waits := ports }))
    | none =>
      match (d.dir ds).draw with
      | none => d.putTrk ds { t with waits := ports, bitag := none }
      | some (g, r) =>
        let d := d.updDir ds (fun _ => r)
        let d := d.count (ctrDs ds) 0x11 none ports.length
        ports.foldl (fun d p => d.snoopTo p op [ds * 256 + g, t.line * 64]) (d.putTrk ds { t with waits := ports, bitag := some g })

/-- The snoop a busy type sends. -/
def BType.snoopOp (b : BType) : Op :=
  match b with
  | .own => .bisnpData
  | .cur => .bisnpCur
  | _ => .bisnpInv

/-- A BITag returns to the free list; a tracker that waits for one draws it and sends its snoops (R102). -/
def Dev.giveTag (d : Dev) (ds g : Nat) : Dev :=
  let d := d.freeTag ds g
  match (d.dir ds).trks.find? (fun t => t.bitag.isNone && !t.waits.isEmpty) with
  | none => d
  | some t => d.snoop ds t t.bt.snoopOp t.waits

/-! ### Atomic operations -/

/-- Width in bytes of an AtomicOp's operand. -/
def AtomKind.width : AtomKind → Nat
  | .fadd32 | .swap32 | .cas32 => 4
  | .fadd64 | .swap64 | .cas64 => 8
  | .cas128 => 16

/-- Bytes of operands an AtomicOp carries: a compare-and-swap has two. -/
def AtomKind.octets (k : AtomKind) : Nat :=
  match k with
  | .cas32 | .cas64 | .cas128 => 2 * k.width
  | _ => k.width

/-- The operand's place in its line, the old value, the line after (R119). -/
def atomRun (k : AtomKind) (pool line arg cmp : Nat) : Nat × Nat :=
  let w := k.width * 8
  let sh := (pool % 64) * 8
  let old := bits line sh w
  let new := match k with
    | .fadd32 | .fadd64 => (old + arg) % 2 ^ w
    | .swap32 | .swap64 => arg % 2 ^ w
    | _ => if old = cmp % 2 ^ w then arg % 2 ^ w else old
  (old, line - old * 2 ^ sh + new * 2 ^ sh)

/-- The atomic cache's line. -/
def DirRt.acFind (r : DirRt) (line : Nat) : Option AcLine := r.ac.find? (fun a => a.line == line)

/-- Injection on atomic-cache line writes (R302, ACACHE). -/
def Dev.acInject (d : Dev) (ds : Nat) : Nat × Tbl InjCh :=
  let hit := fun (c : InjCh) => c.armed && c.chk == 2 && c.inst == ds
  let hs := (d.inj.filter (fun e => hit e.2)).map (·.2)
  let t := d.inj.map (fun (k, c) => if hit c then (k, c.count) else (k, c))
  (if hs.any (·.double) then 2 else if hs.isEmpty then 0 else 1, t)

/-- A corrected error in the directory slice (R130). -/
def Dev.dirCe (d : Dev) (ds : Nat) : Dev :=
  let d := d.addSat (R.DS.STS.CE_CNT ds) 1
  if d.get (R.DS.CTL.CE_THRESH ds) ≤ d.get (R.DS.STS.CE_CNT ds) then d.raise (.ds ds) 2 else d

/-- Write back and drop a line of the atomic cache (R123, R302): its entry's AC clears; a line that reads back uncorrectable is written
poisoned. -/
def Dev.acFlush (d : Dev) (ds : Nat) (a : AcLine) (req : DirReq) : Dev :=
  let d := if a.flaw = 1 then d.dirCe ds else d
  let d := d.memWb { req with pool := a.line * 64 } a.data (2 ^ 64 - 1) (a.flaw = 2)
  d.updDir ds (fun r => { r with ac := r.ac.filter (fun x => x.line != a.line) })

/-- Replace the least recently used line of a full set of the atomic cache (R123): it goes to memory and its entry is freed. -/
def Dev.acRoom (d : Dev) (ds line : Nat) : Dev :=
  let k := lineSet line % 128
  let ls := (d.dir ds).ac.filter (fun a => lineSet a.line % 128 == k && a.line != line)
  if ls.length < 16 then d
  else match (ls.filter (fun a => ((d.dir ds).trk a.line).isNone)).foldl (fun (m : Option AcLine) a => match m with
      | none => some a
      | some b => if a.lru < b.lru then some a else some b) none with
    | none => d
    | some a =>
      let d := d.acFlush ds a { src := .dev, cls := .wb, pool := a.line * 64 }
      match (d.dir ds).find (lineSet a.line) (tagOf a.line) with
      | some (w, _) => d.freeWay ds (lineSet a.line) w
      | none => d

/-- Write a line of the atomic cache, most recently used (R123). -/
def Dev.acWrite (d : Dev) (ds line data : Nat) : Dev :=
  let d := d.acRoom ds line
  let i := d.acInject ds
  Dev.updDir { d with inj := i.2 } ds (fun (r : DirRt) =>
    { r with use := r.use + 1, ac := (r.ac.filter (fun (a : AcLine) => a.line != line)) ++ [{ line := line, data := data, lru := r.use + 1, flaw := i.1 }] })

/-! ### Integrity (R130) -/

/-- Record the place of the first uncorrectable error. -/
def Dev.errLoc (d : Dev) (ds set way : Nat) : Dev :=
  if d.is (R.DS.ERRLOC.VALID ds) then d
  else ((d.set (R.DS.ERRLOC.SET ds) set).set (R.DS.ERRLOC.WAY ds) way).on (R.DS.ERRLOC.VALID ds)

/-- The atomic cache writes the line of an entry back, where it holds it. -/
def Dev.entFlush (d : Dev) (ds line : Nat) (e : DirEntry) : Dev :=
  match (if e.ac then (d.dir ds).acFind line else none) with
  | some a => d.acFlush ds a { src := .dev, cls := .inv, pool := line * 64 }
  | none => d

/-- Store an entry's fields without a new injection, its check bits right. -/
def Dev.fixEnt (d : Dev) (ds set way : Nat) (e : DirEntry) : Dev := d.updDir ds (fun r => { r with ents := Tbl.set r.ents {} (16 * set + way) { e with flaw := 0 } })

/-- The ports that may hold lines of the window of a line. -/
def Dev.eligOf (d : Dev) (line : Nat) : List Nat :=
  match d.winOf (line * 64 / 2 ^ 30) with
  | some (_, c) => (List.range 64).filter (fun p => hasBit c.elig p)
  | none => []

/-- Every eligible port is snooped for a line whose sharers are lost, then its way is freed (R130). -/
def Dev.snoopAll (d : Dev) (ds set way line : Nat) : Dev :=
  let e := Tbl.get (d.dir ds).ents {} (16 * set + way)
  if (d.eligOf line).isEmpty then d.freeWay ds set way
  else (d.fixEnt ds set way { e with st := .b, bt := .evict }).snoop ds { line := line, bt := .evict, req := { src := .dev, cls := .inv, pool := line * 64 }, old := {}, way := way, since := d.time.cclk } .bisnpInv (d.eligOf line)

/-- An entry with a check-bit error is read (R130, R302). In bits [127:64]: snoop every eligible port, write dirty data back, free the way; of a busy line,
when its transaction ends. In bits [63:0]: free the way and set REBUILD on every enabled window; a transaction under way leaves no entry. -/
def Dev.entErr (d : Dev) (ds set way : Nat) : Dev :=
  let e := Tbl.get (d.dir ds).ents {} (16 * set + way)
  let line := lineOf ds set e.tag
  if e.st = .i then d
  else if e.flaw = 1 ∨ e.flaw = 3 then (d.dirCe ds).fixEnt ds set way e
  else if e.flaw = 4 then
    let d := (d.raise (.ds ds) 1).errLoc ds set way
    if e.st = .b then
      (d.fixEnt ds set way e).updDir ds (fun x => { x with trks := x.trks.map (fun t => if t.line = line then { t with ue := true } else t) })
    else (d.entFlush ds line e).snoopAll ds set way line
  else if e.flaw = 2 then
    let d := (d.raise (.ds ds) 0).errLoc ds set way
    let d := if e.st = .b then d.updDir ds (fun x => { x with trks := x.trks.map (fun t => if t.line = line then { t with way := 16 } else t) }) else d.entFlush ds line e
    let d := d.fixEnt ds set way {}
    { d with cwins := d.cwins.map (fun (k, c) => if c.en then (k, { c with rebuild := true }) else (k, c)) }
  else d

/-- Every way of a set is read at a lookup. -/
def Dev.readSet (d : Dev) (ds set : Nat) : Dev :=
  ((d.dir ds).ents.filter (fun (k, e) => k / 16 == set && e.flaw != 0)).foldl (fun d (k, _) => d.entErr ds set (k % 16)) d

/-! ### Serving a request -/

/-- A park entry's key: the port unit of a source, 64 for the Skidder (R115). -/
def Src.key : Src → Nat
  | .host p => p
  | .io p => p
  | .xep p _ _ _ _ => p
  | .peer m _ _ => m
  | .skid _ => 64
  | .dev => 64

/-- An entry in its place among the parked requests, oldest first. -/
def parkIn (l : List Park) (p : Park) : List Park := l.takeWhile (fun q => q.req.ord < p.req.ord) ++ p :: l.dropWhile (fun q => q.req.ord < p.req.ord)

/-- Park a request (R115): a shared entry, else one of its source's two reserved entries, else it is returned to its port unit (R117). One that
waits again keeps the entry it had (R116). -/
def Dev.park (d : Dev) (ds : Nat) (r : DirReq) (why : ParkWhy) (self : Option Park) : Dev :=
  match self with
  | some p => d.updDir ds (fun x => { x with park := parkIn x.park { p with req := r, why := why } })
  | none =>
    let x := d.dir ds
    let d := d.count (ctrDs ds) 0x12 none 1
    let shared := (x.park.filter (fun p => p.shared && !p.rcl)).length
    let rsv := (x.park.filter (fun p => !p.shared && !p.rcl && p.key == r.src.key)).length
    if shared < 256 then d.updDir ds (fun x => { x with park := parkIn x.park ⟨r, true, r.src.key, why, false⟩ })
    else if rsv < 2 then d.updDir ds (fun x => { x with park := parkIn x.park ⟨r, false, r.src.key, why, false⟩ })
    else d.updDir ds (fun x => { x with retd := x.retd ++ [⟨r, false, r.src.key, why, false⟩] })

/-- Put the line's entry into B, keeping what it was; an entry that is not there stays absent (R102). -/
def Dev.busy (d : Dev) (ds set : Nat) (ent : Option (Nat × DirEntry)) (bt : BType) : Dev :=
  match ent with
  | some (w, e) => d.setEnt ds set w { e with st := .b, bt := bt }
  | none => d

/-- The way an allocating request takes (R106): a free one. -/
def DirRt.freeOne (r : DirRt) (set : Nat) : Option Nat :=
  (List.range 16).find? (fun w => (Tbl.get r.ents {} (16 * set + w)).st == .i)

/-- Parked requests older than a request (R116). -/
def DirRt.ahead (r : DirRt) (q : DirReq) (f : Park → Bool) : Nat := (r.park.filter (fun p => !p.rcl && f p && p.req.ord < q.ord)).length

/-- No tracker is free for a request: older ones that wait for one have theirs first (R115, R116). -/
def DirRt.full (r : DirRt) (q : DirReq) : Bool := 128 ≤ r.inUse + r.ahead q (fun p => p.why == .tracker)

/-- Its 64 operations fill the atomic unit (R119). -/
def DirRt.atomFull (r : DirRt) (q : DirReq) : Bool := 64 ≤ (r.trks.filter (fun t => t.bt == .atom)).length + r.ahead q (fun p => p.why == .atomUnit)

/-- Older requests that wait for a way of the set. -/
def DirRt.wayAhead (r : DirRt) (q : DirReq) : Nat := r.ahead q (fun p => p.why == .way && lineSet (p.req.pool / 64) == lineSet (q.pool / 64))

/-- Free ways of a set, and ways whose eviction is under way. -/
def DirRt.freeWays (r : DirRt) (set : Nat) : Nat := ((List.range 16).filter (fun w => (Tbl.get r.ents {} (16 * set + w)).st == .i)).length
def DirRt.evicting (r : DirRt) (set : Nat) : Nat := (r.trks.filter (fun t => t.bt == .evict && t.way < 16 && lineSet t.line == set)).length

/-- The free way an allocating request may take: one more is free than older requests wait for in the set (R106, R116). -/
def DirRt.freeFor (r : DirRt) (set : Nat) (q : DirReq) : Option Nat := if r.wayAhead q < r.freeWays set then r.freeOne set else none

/-- The victim of an eviction (R124): the least recently used way in S, else in E or M. -/
def DirRt.victim (r : DirRt) (set : Nat) : Option (Nat × DirEntry) :=
  let ws := (List.range 16).map (fun w => (w, Tbl.get r.ents {} (16 * set + w)))
  let low := fun (l : List (Nat × DirEntry)) => l.foldl (fun (m : Option (Nat × DirEntry)) x => match m with
    | none => some x
    | some y => if x.2.lru < y.2.lru then some x else some y) none
  match low (ws.filter (fun x => x.2.st == .s)) with
  | some x => some x
  | none => low (ws.filter (fun x => x.2.st == .e || x.2.st == .m))

/-- A fresh entry for a line: its counter comes from the predictor table (R122). -/
def Dev.newEnt (d : Dev) (ds set tag win : Nat) : DirEntry :=
  { tag := tag, st := .b, win := win, pred := Tbl.get (d.dir ds).pred 1 (predIdx set tag) }

/-- Recency of use for the replacement of ways. -/
def Dev.bumpUse (d : Dev) (ds : Nat) : Dev := d.updDir ds (fun r => { r with use := r.use + 1 })

/-- Write the final entry of a transaction: `st` I frees the way; a swept port is taken out (R129); PRED is the counter as it stands (R121, R122); an entry
whose sharers were lost meanwhile goes on to the snoops of R130. -/
def Dev.finalEnt (d : Dev) (ds set : Nat) (t : Tracker) (e : DirEntry) : Dev :=
  if t.way = 16 then d
  else
    let e := t.swept.foldl (fun e p => { e with sharers := clrB e.sharers p, st := if e.owner = p ∧ (e.st = .e ∨ e.st = .m) ∧ !e.ac then .i else e.st }) e
    let e := if e.st = .s ∧ e.sharers = 0 then { e with st := .i } else e
    if t.ue then (d.entFlush ds t.line { e with ac := true }).snoopAll ds set t.way t.line
    else if e.st = .i then d.freeWay ds set t.way
    else (d.bumpUse ds).setEnt ds set t.way { e with bt := .mem, lru := (d.dir ds).use + 1, pred := (Tbl.get (d.dir ds).ents {} (16 * set + t.way)).pred }

/-- The entry a grant leaves (R104): to the requester in E or M. -/
def ownedBy (e : DirEntry) (p : Nat) (st : DirSt) : DirEntry := { e with st := st, owner := p, ac := false, sharers := 2 ^ p }

/-- End a tracker: the line is no longer busy; its tag returns unless it is held back (R102). -/
def Dev.endTrk (d : Dev) (ds : Nat) (t : Tracker) : Dev :=
  let d := d.updDir ds (fun r => { r with trks := r.trks.filter (fun x => x.line != t.line) })
  match t.bitag with
  | some g => if t.expired then d else d.giveTag ds g
  | none => d

/-- Grant to a host (R105): data first where there is any, and the NDR completion. -/
def Dev.grant (d : Dev) (r : DirReq) (op : Op) (data : Option (Nat × Bool)) : Dev :=
  match data with
  | some (x, po) => (d.answerCpl r op).answerData r x po
  | none => d.answerCpl r op

/-- Merge a partial write over a line: byte i of `new` where bit i of `be` is set. -/
def mergeLine (old new be : Nat) : Nat :=
  (List.range 64).foldl (fun x i => if hasBit be i then x - bits x (8 * i) 8 * 2 ^ (8 * i) + bits new (8 * i) 8 * 2 ^ (8 * i) else x) old

/-- All bytes of a line. -/
abbrev allBytes : Nat := 2 ^ 64 - 1

/-- The data a transaction forwards: the owner's, a partial return merged over memory's, else memory's; lost data is poisoned (R111). -/
def Tracker.data (t : Tracker) : Nat × Bool :=
  match t.ownData, t.memData with
  | some (o, be, p), some (x, q) => if be = allBytes then (o, p || t.lost) else (mergeLine x o be, p || q || t.lost)
  | some (o, _, p), none => (o, p || t.lost)
  | none, some (x, p) => (x, p || t.lost)
  | none, none => (0, true)

/-- A non-caching write over what the owner returned (R104): the line, its byte enables, whether it is poisoned (R113). -/
def Tracker.written (t : Tracker) : Nat × Nat × Bool :=
  let r := t.req
  match t.ownData with
  | some (o, be, p) => if r.be = allBytes then (r.data, allBytes, r.poison) else (mergeLine o r.data r.be, be ||| r.be, r.poison || p || t.lost)
  | none => (r.data, r.be, r.poison)

/-- The requester's port where it caches the line. -/
def DirReq.port (r : DirReq) : Nat := (r.src.hostPort).getD 0

/-- Lines of the window may enter the atomic cache: it is neither disabled nor being written back (R94, R95), and no save drains it (R216). -/
def Dev.mayCache (d : Dev) (pool : Nat) : Bool :=
  !d.saving && (d.winOf (pool / 2 ^ 30)).any (fun (w, c) => c.acacheEn && !d.winchg.any (fun (k, g) => k == w && (g.kind == 2 || !g.new.acacheEn)))

/-- Run an atomic on the line's data and answer it (R120): poisoned data is written back poisoned and answered poisoned. -/
def Dev.atomFinish (d : Dev) (ds set : Nat) (t : Tracker) (keep : Bool) (x : Nat × Bool) : Dev :=
  let r := t.req
  if x.2 then
    let d := (d.memWb { r with pool := t.line * 64 } x.1 allBytes true).answerData r 0 true
    d.finalEnt ds set t {}
  else
    let (old, new) := atomRun r.op r.pool x.1 r.arg r.cmp
    let d := d.answerData r old false
    if keep ∧ t.way < 16 ∧ d.mayCache r.pool = true then
      (d.acWrite ds t.line new).finalEnt ds set t { t.old with st := .m, ac := true, sharers := 0, owner := 0 }
    else (d.memWb { r with pool := t.line * 64 } new allBytes false).finalEnt ds set t {}

/-- The transaction of a tracker ends when everything it waits for has come (R110): the action of R104 and the state after. -/
def Dev.finishTrk (d : Dev) (ds : Nat) (t : Tracker) : Dev :=
  let set := lineSet t.line
  let r := t.req
  let d := d.endTrk ds t
  match t.bt, r.cls with
  | .evict, _ => if t.way = 16 then d else d.freeWay ds set t.way
  | .rcl, _ => d.finalEnt ds set t (if t.owner.isSome ∨ t.old.st = .m ∨ t.old.st = .e then {} else { t.old with sharers := t.waits.foldl clrB t.old.sharers })
  | .atom, _ => d.atomFinish ds set t (t.req.mv == .a) t.data
  | .wr, _ => ((d.memWrite r t.written.1 t.written.2.1 t.written.2.2).answerCpl r .cmp).finalEnt ds set t {}
  | _, .rds =>
    let x := t.data
    match t.bt with
    | .own =>
      if t.rsp = some .s then (d.grant r .cmpS (some x)).finalEnt ds set t { t.old with st := .s, sharers := setB (2 ^ (t.owner.getD 0)) r.port, owner := 0 }
      else (d.grant r .cmpE (some x)).finalEnt ds set t (ownedBy t.old r.port .e)
    | _ =>
      if t.old.st = .s then (d.grant r .cmpS (some x)).finalEnt ds set t { t.old with st := .s, sharers := setB t.old.sharers r.port }
      else (d.grant r .cmpE (some x)).finalEnt ds set t (ownedBy t.old r.port .e)
  | _, .rda => (d.grant r .cmpM (some t.data)).finalEnt ds set t (ownedBy t.old r.port .m)
  | _, .inv => (d.grant r .cmpM none).finalEnt ds set t (ownedBy t.old r.port .m)
  | _, .ncr => (d.answerData r t.data.1 t.data.2).finalEnt ds set t t.old
  | _, .ncw => ((d.memWrite r t.written.1 t.written.2.1 t.written.2.2).answerCpl r .cmp).finalEnt ds set t {}
  | _, .wb => d
  | _, .atom => d

/-- What the transaction still needs from memory once its snoops are answered: data, where the owner returned none or not all of it (R104). -/
def Tracker.needsMem (t : Tracker) : Bool :=
  (t.ownData.all (fun o => o.2.1 != allBytes)) && t.memData.isNone && !t.memWait &&
  (match t.bt with
   | .atom => true
   | .evict => false
   | .rcl => false
   | .wr => false
   | _ => t.req.cls == .rds || t.req.cls == .rda || t.req.cls == .ncr)

/-- No write-back of a line is on its way to memory. -/
def Dev.lineWritten (d : Dev) (line : Nat) : Bool :=
  let is := fun (m : Msg) => m.home && m.kind == .memWrite && m.pool / 64 == line
  !d.buf.msgs.any is && !d.port.any (fun e => e.2.outs.any (fun o => is o.msg))

/-- Memory is read for a tracker, which waits for that answer. -/
def Dev.readFor (d : Dev) (ds : Nat) (t : Tracker) : Dev :=
  (d.memRead { t.req with pool := t.line * 64 }).putTrk ds { t with memWait := true, memId := d.buf.nextId }

/-- Go on with a tracker after something has come. An eviction and a recall end when the dirty data is written (R110). -/
def Dev.advanceTrk (d : Dev) (ds : Nat) (t : Tracker) : Dev :=
  if !t.waits.isEmpty ∨ t.memWait ∨ ((t.bt = .evict ∨ t.bt = .rcl) ∧ !d.lineWritten t.line) then d.putTrk ds t
  else if t.needsMem then (if t.lost then d.finishTrk ds t else d.readFor ds t)
  else d.finishTrk ds t

/-- A write-back of a line has reached memory, or is given up: what waits for it goes on. -/
def Dev.wroteLine (d : Dev) (pool : Nat) : Dev :=
  let ds := dsOf (pool / 64)
  match (d.dir ds).trk (pool / 64) with
  | some t => if (t.bt = .evict ∨ t.bt = .rcl) ∧ t.waits.isEmpty then d.advanceTrk ds t else d
  | none => d

/-- Start a transaction: the line is busy under a tracker; the snoops leave, memory is read at once where R104 reads it. `own`: data the atomic cache gave
in the owner's place (R123). -/
def Dev.begin (d : Dev) (ds : Nat) (r : DirReq) (bt : BType) (ent : Option (Nat × DirEntry)) (ports : List Nat) (owner : Option Nat) (mem : Bool) (own : Option (Nat × Nat × Bool) := none) : Dev :=
  let line := r.pool / 64
  let set := lineSet line
  let d := d.busy ds set ent bt
  let t : Tracker := { line := line, bt := bt, req := r, owner := owner, ownData := own, memWait := mem, memId := d.buf.nextId, old := (ent.map (·.2)).getD {}, way := (ent.map (·.1)).getD 16, since := d.time.cclk }
  let d := if mem then d.memRead { r with pool := line * 64 } else d
  if ports.isEmpty then d.advanceTrk ds t else d.snoop ds t bt.snoopOp ports

/-- Start an eviction of a victim (R124). -/
def Dev.evict (d : Dev) (ds set : Nat) (w : Nat) (e : DirEntry) : Dev :=
  let line := lineOf ds set e.tag
  let req : DirReq := { src := .dev, cls := .inv, pool := line * 64 }
  let d := d.count (ctrDs ds) 0x13 none 1
  let ac := if e.ac then (d.dir ds).acFind line else none
  let d := match ac with
    | some a => d.acFlush ds a req
    | none => d
  d.begin ds req .evict (some (w, e)) (e.holders none) (if (e.st = .e ∨ e.st = .m) ∧ !e.ac then some e.owner else none) false

/-- Serve a request that meets no busy line (R104). `ent`: the line's entry. A request that allocates has its way already. `own`: what the atomic cache, as the M
owner, gave (R123). -/
def Dev.serve (d : Dev) (ds : Nat) (r : DirReq) (ent : Option (Nat × DirEntry)) (own : Option (Nat × Nat × Bool)) : Dev :=
  let me := r.src.hostPort
  let hold := match ent with
    | some (_, e) => e.holders me
    | none => []
  let owner := match ent with
    | some (_, e) => if (e.st = .e ∨ e.st = .m) ∧ !e.ac ∧ me ≠ some e.owner then some e.owner else none
    | none => none
  let st := match ent with
    | some (_, e) => e.st
    | none => .i
  match r.cls with
  | .rds =>
    match owner with
    | some o => d.begin ds r .own ent [o] owner (st == .e)
    | none => d.begin ds r .mem (ent.map (fun (w, e) => (w, if hold.isEmpty then { e with st := .i, sharers := 0 } else e))) [] none own.isNone own
  | .rda => if hold.isEmpty then d.begin ds r .mem ent [] none own.isNone own else d.begin ds r .inv ent hold owner (st != .m)
  | .inv => d.begin ds r .inv ent hold owner false
  | .ncr =>
    match owner with
    | some o => d.begin ds r .cur ent [o] owner (st == .e)
    | none => d.begin ds r .mem ent [] none own.isNone own
  | .ncw => if hold.isEmpty then d.begin ds r .wr ent [] none false own else d.begin ds r .inv ent hold owner false
  | .atom => d.begin ds r .atom ent hold owner (hold.isEmpty || st != .m)
  | .wb => d

/-- What a write-back from a listed holder leaves of an entry (R104). -/
def DirEntry.wbLeft (e : DirEntry) (r : DirReq) : DirEntry :=
  match r.mv with
  | .s => { e with st := .s, sharers := setB e.sharers r.port, owner := if e.owner = r.port then 0 else e.owner }
  | .a => e
  | _ => let sh := clrB e.sharers r.port
    { e with sharers := sh, st := if sh = 0 then .i else e.st }

/-- The entry as it was before the transaction that makes its line busy. -/
def DirRt.before (x : DirRt) (line : Nat) (e : DirEntry) : DirEntry :=
  if e.st = .b then ((x.trk line).map (·.old)).getD e else e

/-- A write-back from a listed holder (R104), never parked (R112): where another transaction holds the line, it changes the entry that
transaction restores. -/
def Dev.serveWb (d : Dev) (ds : Nat) (r : DirReq) (w : Nat) (e : DirEntry) : Dev :=
  let line := r.pool / 64
  let set := lineSet line
  let d := (d.memWb r r.data r.be r.poison).answerCpl r .cmp
  let e' := ((d.dir ds).before line e).wbLeft r
  if e.st = .b then
    let d := d.updDir ds (fun x => { x with trks := x.trks.map (fun t => if t.line = line then { t with old := e' } else t) })
    d.setEnt ds set w { e with sharers := e'.sharers }
  else if e'.st = .i then d.freeWay ds set w
  else if r.mv = .a then d
  else d.setEnt ds set w e'

/-- A port the entry lists as owner or sharer. -/
def DirEntry.names (e : DirEntry) (p : Nat) : Bool := ((e.st == .e || e.st == .m) && !e.ac && e.owner == p) || hasBit e.sharers p

/-- A write from a port that the entry lists is a WB (R103): with MetaValue A only from the owner. -/
def DirEntry.lists (e : DirEntry) (r : DirReq) : Bool :=
  r.src.hostPort.any (fun p => if r.mv == .a then (e.st == .e || e.st == .m) && !e.ac && e.owner == p else e.names p)

/-- The predictor's update at an AtomicOp's first lookup (R121), in the entry or the table. -/
def Dev.predUpdate (d : Dev) (ds : Nat) (r : DirReq) (ent : Option (Nat × DirEntry)) : Dev :=
  let line := r.pool / 64
  let set := lineSet line
  let x := d.dir ds
  let cont := (x.trk line).isSome || (match ent with
    | some (_, e) => e.ac || !(e.holders none).isEmpty
    | none => false) || x.park.any (fun p => p.req.cls == .atom && p.req.pool / 64 == line)
  let f := fun p => if cont then min 3 (p + 1) else p - 1
  match ent with
  | some (w, e) => d.setEnt ds set w { e with pred := f e.pred }
  | none => d.updDir ds (fun x => { x with pred := Tbl.set x.pred 1 (predIdx set (tagOf line)) (f (Tbl.get x.pred 1 (predIdx set (tagOf line)))) })

/-- The mode of an AtomicOp at the lookup it starts at (R121): 0 PASS, 1 HOME, 2 CACHE. -/
def Dev.atomMode (d : Dev) (ds : Nat) (r : DirReq) (c : CWinE) (ent : Option (Nat × DirEntry)) : Nat :=
  let line := r.pool / 64
  let pred := match ent with
    | some (_, e) => e.pred
    | none => Tbl.get (d.dir ds).pred 1 (predIdx (lineSet line) (tagOf line))
  let held := match ent with
    | some (_, e) => !(e.holders none).isEmpty
    | none => false
  if !c.predEn then 1
  else if pred = 0 ∧ c.atomPass ∧ !held then 0
  else if 2 ≤ pred ∧ d.mayCache r.pool = true then 2
  else 1

/-- The data line of an AtomicOp on a Xepin link (R252): the operand, or the compare and the swap value. -/
def atomLine (k : AtomKind) (arg cmp : Nat) : Nat :=
  match k with
  | .cas32 | .cas64 | .cas128 => cmp % 2 ^ (8 * k.width) + 2 ^ (8 * k.width) * (arg % 2 ^ (8 * k.width))
  | _ => arg % 2 ^ (8 * k.width)

/-- The number of an AtomicOp among the OPs 0x08 to 0x0E (R252). -/
def AtomKind.num : AtomKind → Nat
  | .fadd32 => 0
  | .fadd64 => 1
  | .swap32 => 2
  | .swap64 => 3
  | .cas32 => 4
  | .cas64 => 5
  | .cas128 => 6

/-- An AtomicOp forwarded to memory (R119, R120). -/
def Dev.atomMsg (d : Dev) (r : DirReq) (home : Bool) : Dev :=
  (d.takeReq r).enq { d.homeMsg r (d.reqCls r .sc1) .atomic { d.xHdr r.src r.sliceOf r.pool (8 + r.op.num) with addr := r.pool / 64 * 64, data := atomLine r.op r.arg r.cmp } with bytes := 16 + r.op.octets, ask := r.op.width, op := d.reqOp r.pool .atomicOp, args := [d.reqAddr r.pool, r.op.width, r.arg, r.cmp], home := home }

/-- Start an AtomicOp in its mode (R120). `mv` A marks CACHE mode in its tracker. -/
def Dev.atomStart (d : Dev) (ds : Nat) (r : DirReq) (c : CWinE) (ent : Option (Nat × DirEntry)) : Dev :=
  let line := r.pool / 64
  let m := d.atomMode ds r c ent
  let d := d.count (ctrDs ds) (0x14 + m) none 1
  if m = 0 then
    let t : Tracker := { line := line, bt := .atom, req := r, memWait := true, memId := d.buf.nextId, pass := true, old := {}, way := (ent.map (·.1)).getD 16, since := d.time.cclk }
    ((d.atomMsg r true).busy ds (lineSet line) ent .atom).putTrk ds t
  else
    let r := { r with mv := if m = 2 then .a else .none }
    match (if (ent.map (·.2.ac)).getD false then (d.dir ds).acFind line else none), ent with
    | some a, some (wy, e) =>
      if a.flaw = 2 then
        let d := d.updDir ds (fun x => { x with ac := x.ac.filter (fun b => b.line != line) })
        d.atomFinish ds (lineSet line) { line := line, bt := .atom, req := r, old := e, way := wy } false (a.data, true)
      else
        let d := if a.flaw = 1 then d.dirCe ds else d
        let d := if m = 2 then d else d.updDir ds (fun x => { x with ac := x.ac.filter (fun b => b.line != line) })
        d.atomFinish ds (lineSet line) { line := line, bt := .atom, req := r, old := e, way := wy } (m == 2) (a.data, false)
    | _, _ => d.serve ds { r with cls := .atom } ent none

/-- A caching request, the kind that allocates. -/
def DirReq.caches (r : DirReq) : Bool := r.cls == .rds || r.cls == .rda || r.cls == .inv

/-- A request other than an AtomicOp that finds its line in the atomic cache (R123): the line goes to memory, AC clears, and its data stands for what an M owner
returns; the predictor steps down for a caching request (R121). -/
def Dev.dropAc (d : Dev) (ds : Nat) (r : DirReq) (ent : Option (Nat × DirEntry)) : Dev × Option (Nat × DirEntry) × Option (Nat × Nat × Bool) :=
  match ent with
  | some (wy, e) =>
    if e.ac && r.cls != .atom then
      let e' := { e with ac := false, st := .i, sharers := 0, pred := if r.caches then e.pred - 1 else e.pred }
      match (d.dir ds).acFind (r.pool / 64) with
      | some a => (d.acFlush ds a { r with src := .dev }, some (wy, e'), some (a.data, allBytes, a.flaw == 2))
      | none => (d, some (wy, e'), none)
    else (d, ent, none)
  | none => (d, none, none)

/-- Serve after the checks: a line of the atomic cache is taken from it (R123); a caching request allocates its way, or evicts and waits (R106,
R124); a tracker must be free (R115). -/
def Dev.serveAlloc (d : Dev) (ds : Nat) (r : DirReq) (w : Nat) (c : CWinE) (self : Option Park) : Dev :=
  let set := lineSet (r.pool / 64)
  let tag := tagOf (r.pool / 64)
  if (d.dir ds).full r then d.park ds r .tracker self
  else
    let x := d.dropAc ds r ((d.dir ds).find set tag)
    let d := x.1
    let ent := x.2.1
    let alloc := r.caches || (r.cls == .atom && d.atomMode ds r c ent == 2)
    match ent, alloc with
    | none, true =>
      match (d.dir ds).freeFor set r with
      | some wy =>
        let e := { d.newEnt ds set tag w with st := .i }
        if r.cls = .atom then d.atomStart ds r c (some (wy, e)) else d.serve ds r (some (wy, e)) none
      | none =>
        let d := d.park ds r .way self
        if (d.dir ds).wayAhead r < (d.dir ds).freeWays set + (d.dir ds).evicting set then d
        else match (d.dir ds).victim set with
          | some (wy, e) => d.evict ds set wy e
          | none => d
    | _, _ => if r.cls = .atom then d.atomStart ds r c ent else d.serve ds r ent x.2.2

/-- REBUILD (R127): a request that finds no entry first snoops every eligible port but its own. -/
def Dev.rebuildFirst (d : Dev) (ds : Nat) (r : DirReq) (c : CWinE) (self : Option Park) : Option Dev :=
  let line := r.pool / 64
  if c.rebuild ∧ !r.seen ∧ ((d.dir ds).find (lineSet line) (tagOf line)).isNone then
    let ps := (List.range 64).filter (fun p => hasBit c.elig p && r.src.hostPort != some p)
    if ps.isEmpty then none
    else if (d.dir ds).full r then some (d.park ds r .tracker self)
    else some (d.snoop ds { line := line, bt := .inv, req := r, bcast := true, since := d.time.cclk } .bisnpInv ps)
  else none

/-- A caching request from a port that is not eligible (R96): a poisoned answer with a Cmp that grants nothing, or none for an Inv. -/
def Dev.inelig (d : Dev) (ds : Nat) (r : DirReq) : Dev :=
  let d := d.raise (.ds ds) 7
  let d := match r.src with
    | .host p => d.pvRecord (pvStand p) r.slice p 0 { kind := 6 } (d.sliceAddr r.slice r.pool) false false
    | _ => d
  if r.cls = .inv then d.takeReq r else (d.answerCpl r .cmp).answerData r 0 true

/-- A request to private memory (R97, R103, R119): no directory entry. An AtomicOp the memory does not complete is done here under a tracker. -/
def Dev.private_ (d : Dev) (ds : Nat) (r : DirReq) (self : Option Park) : Dev :=
  let x := d.dir ds
  let line := r.pool / 64
  match r.cls with
  | .inv => d.answerCpl r .cmpM
  | .ncw | .wb => (d.memWrite r r.data r.be r.poison).answerCpl r .cmp
  | .atom =>
    if (d.ext (r.pool / 2 ^ 30)).atomOk then d.atomMsg r false
    else if (x.trk line).isSome || x.park.any (fun p => p.req.pool / 64 == line && p.req.ord < r.ord) then d.park ds r .line self
    else if x.atomFull r then d.park ds r .atomUnit self
    else if x.full r then d.park ds r .tracker self
    else (d.count (ctrDs ds) 0x15 none 1).begin ds r .atom none [] none true
  | _ => (d.takeReq r).enq { d.homeMsg r (d.reqCls r .sc0) .memRead (d.xHdr r.src r.sliceOf r.pool 1) with bytes := 16, ask := 64, op := d.reqOp r.pool .memRd, args := [d.reqAddr r.pool, (d.ext (r.pool / 2 ^ 30)).ld], home := false }

/-- The code of a request class on a Xepin link (R252). -/
def ReqCls.code : ReqCls → Nat
  | .ncr => 1
  | .rds => 2
  | .rda => 3
  | .inv => 4
  | .ncw => 5
  | .wb => 6
  | .atom => 8

/-- The code of a MetaValue (R251). -/
def Mv.code : Mv → Nat
  | .i => 0
  | .a => 1
  | .s => 2
  | .none => 3

/-- A request of a home elsewhere in the pair goes to the partner over the mirror link (R128). A write-back says in MV what state it leaves; its OP is WB_I or, where
the host keeps the line, WB_S (log entry 149). -/
def Dev.toPartner (d : Dev) (r : DirReq) : Dev :=
  match d.mirrorPort with
  | none => d
  | some m =>
    let wr := r.cls == .wb || r.cls == .ncw
    let rd := r.cls == .rds || r.cls == .rda || r.cls == .ncr
    let code := r.cls.code + (if r.cls = .atom then r.op.num else if r.cls = .wb ∧ r.mv ≠ .i then 1 else 0)
    (d.takeReq r).enq { src := r.src, cls := if r.cls = .wb then .scp else if rd then d.reqCls r .sc0 else d.reqCls r .sc1, kind := if rd then .memRead else if r.cls = .wb then .memWb else if wr then .memWrite else if r.cls == .inv then .memInv else .atomic, egress := m, addr := r.pool, pool := r.pool, bytes := if wr then 80 else if r.cls = .atom then 16 + r.op.octets else 16, ask := if rd then 64 else 0, slice := r.sliceOf, gen := r.gen, tag := r.tag, poison := r.poison, op := .xReq, stage := 1, x := some { d.xHdr r.src r.sliceOf r.pool code with mv := r.mv.code, be := r.be, data := if r.cls = .atom then atomLine r.op r.arg r.cmp else r.data } }

/-- The request as the directory classes it (R96, R103): caching requests from XEPIN ports, CXL.io and the Skidder cache nothing. -/
def DirReq.class (r : DirReq) : DirReq :=
  match r.src with
  | .host _ | .peer _ _ _ => r
  | _ => match r.cls with
    | .rds | .rda => { r with cls := .ncr }
    | .wb => { r with cls := .ncw }
    | _ => r

/-- The port's snoop data (R110): written to memory, completed at once; the transaction forwards it. -/
def Dev.takeSnoopData (d : Dev) (ds : Nat) (t : Tracker) (r : DirReq) : Dev :=
  ((d.memWb r r.data r.be r.poison).answerCpl r .cmp).putTrk ds { t with ownData := some (r.data, r.be, r.poison) }

/-- A write of the partner's host with a MetaValue came unchecked, as only the home knows whether it is a write-back (log entry 154): as a write it is checked here,
refused with a record of the mirror port's stand (R145, R146). -/
def Dev.peerDeny (d : Dev) (was r : DirReq) : Option Dev :=
  match r.src, decide (was.cls = .wb ∧ r.cls = .ncw) with
  | .peer m _ _, true =>
    match d.checkPart r.slice (d.sliceAddr r.slice r.pool) 0 2 with
    | .error e => some (((d.pvRecord (pvStand m) r.slice m 0 e (d.sliceAddr r.slice r.pool) false false).count (ctrSl r.slice) 0x35 none 1).answerCpl r .cmp)
    | .ok _ => none
  | _, _ => none

/-- A request reaches its directory slice (R104, R110, R115): the lookup. `self`: the park entry it was retried from; `ord` says whether it is its first
arrival. In P1 no caching request is admitted (R216); one of an old generation is discarded (R149). -/
def Dev.lookup (d : Dev) (r : DirReq) (self : Option Park) : Dev :=
  if d.reqStale r then d.dropStale r else
  let line := r.pool / 64
  let ds := dsOf line
  let set := lineSet line
  let first := r.ord == 0
  let r0 := r
  let r := if first then { r.class with age := d.time.cclk, ord := (d.dir ds).nextOrd } else r
  let d := if first then d.updDir ds (fun x => { x with nextOrd := x.nextOrd + 1 }) else d
  let d := if (d.winOf (r.pool / 2 ^ 30)).isSome then (d.count (ctrDs ds) 0x10 none 1).readSet ds set else d
  let x := d.dir ds
  let ent := x.find set (tagOf line)
  match d.winOf (r.pool / 2 ^ 30) with
  | none => d.private_ ds r self
  | some (w, c) =>
    if !d.isHome c then d.toPartner r
    else
      let d := if r.cls = .atom ∧ first then d.predUpdate ds r ent else d
      if r.caches ∧ d.get R.PRS.STATE.SEQ = 3 then (if r.cls = .inv then d.takeReq r else (d.answerCpl r .cmp).answerData r 0 true)
      else if r.cls = .inv ∧ r.src.hostPort.isNone then (d.takeReq r).answerCpl r .cmp
      else if r.caches ∧ !hasBit c.elig r.port then d.inelig ds r
      else
        let off := d.disabling w
        let listed := ent.any (fun (_, e) => (x.before line e).lists r)
        let known := ent.any (fun (_, e) => r.src.hostPort.any (x.before line e).names)
        match (x.trk line).filter (fun t => (r.cls == .wb || r.cls == .ncw) && r.src.hostPort.any t.waits.contains), ent, decide (r.cls = .wb) && listed with
        | some t, _, _ => d.takeSnoopData ds t r
        | none, some (wy, e), true => d.serveWb ds r wy e
        | _, _, _ =>
          let d := if r.cls = .wb ∧ first ∧ !known ∧ !c.rebuild then (d.raise (.ds ds) 6).addSat (R.DS.LATECNT.STRAY_CNT ds) 1 else d
          let r := if r.cls = .wb then { r with cls := .ncw } else r
          match (if first then d.peerDeny r0 r else none) with
          | some d' => d'
          | none =>
          if first ∧ x.retd.any (fun p => p.why != .held && p.req.src.origin == r.src.origin && p.req.slice == r.slice && p.req.pool / 64 == line) then
            d.updDir ds (fun x => { x with retd := x.retd ++ [⟨r, false, r.src.key, .line, false⟩] })
          else if off ∧ r.cls = .inv then d.park ds r .disable self
          else if (x.trk line).isSome ∨ (!r.seen ∧ x.park.any (fun p => p.req.pool / 64 == line && p.req.ord < r.ord)) then d.park ds r .line self
          else if r.cls = .atom ∧ x.atomFull r then d.park ds r .atomUnit self
          else match d.rebuildFirst ds r c self with
            | some d' => d'
            | none =>
              if off ∧ (r.cls = .rds ∨ r.cls = .rda) then
                (if x.full r then d.park ds r .tracker self else (d.answerCpl r .cmp).serveAlloc ds { r with cls := .ncr } w c self)
              else d.serveAlloc ds r w c self

/-- What a request for a line of a message has from the message: slice, part and, of a write, the line's data and byte enables. -/
def DirReq.ofMsg (r : DirReq) (m : Msg) : DirReq :=
  let r := { r with gen := m.gen, sys := r.sys || (m.sysPu.isNone && m.slice.isNone) }
  if !m.gathers then r
  else
    let r := { r with slice := m.slice.getD r.slice, part := m.part }
    let k := r.pool / 64 - m.pool / 64
    match m.x with
    | some x =>
      if m.hasData && m.kind != .atomic then
        { r with data := bits x.data (512 * k) 512, be := if m.kind != .ioWrite && x.len = 0 then x.be else bits ((2 ^ m.span - 1) * 2 ^ (m.pool % 64)) (64 * k) 64, poison := m.poison }
      else r
    | none => r

/-- A gated directory slice is woken by the request and the request waits (R23, R119): the clock of R22 is the environment's. The request has the generation its
slice had when its message was admitted (R149). -/
def Dev.dirReq (d : Dev) (r : DirReq) : Dev :=
  let ds := dsOf (r.pool / 64)
  let r := { (d.broughtBy r).elim { r with gen := d.gen r.slice } r.ofMsg with ord := 0 }
  if d.ingressHeld r.pool then d.updDir ds (fun x => { x with retd := x.retd ++ [⟨r.class, false, r.src.key, .held, false⟩] })
  else if d.domSt (16 + ds) = .on then d.lookup r none
  else (d.wake (16 + ds)).updDir ds (fun x => { x with retd := x.retd ++ [⟨r.class, false, r.src.key, .held, false⟩] })

/-- SNOOP_DATA (R110): a MemWr from a port being snooped is its snoop data: written to memory, completed at once. -/
def Dev.snoopData (d : Dev) (p pool data be : Nat) (poison : Bool) : Dev :=
  let tag := ((d.buf.msgs.find? (fun m => m.stage == 2 && m.src == .host p && m.kind == .memWrite && m.pool / 64 == pool / 64)).map (·.tag)).getD 0
  match (d.dir (dsOf (pool / 64))).trk (pool / 64) with
  | none => d
  | some t => if t.waits.contains p then d.takeSnoopData (dsOf (pool / 64)) t { src := .host p, cls := .wb, pool := pool, tag := tag, data := data, be := be, poison := poison, sys := true } else d

/-- A snoop answer for a tracker (R104, R110). With the last one its tag returns, unless it is held back after an expiry (R102); after a REBUILD broadcast its
request is served (R127). -/
def Dev.answered (d : Dev) (ds : Nat) (t : Tracker) (p : Nat) (rsp : SnpRsp) : Dev :=
  let t := { t with waits := t.waits.erase p, rsp := if t.owner = some p ∨ t.owner = none then some rsp else t.rsp }
  if !t.waits.isEmpty then d.putTrk ds t
  else
    let d := match t.bitag with
      | some g => if t.expired then d else (d.putTrk ds { t with bitag := none }).giveTag ds g
      | none => d
    let t := if t.expired then t else { t with bitag := none }
    if t.bcast then (d.endTrk ds t).lookup { t.req with seen := true } none else d.advanceTrk ds t

/-- No late answer is awaited under a tag any more (R102): it returns, unless its tracker still awaits another port under it. -/
def Dev.backOver (d : Dev) (ds g : Nat) : Dev :=
  match (d.dir ds).trks.find? (fun t => t.bitag == some g) with
  | some t => d.putTrk ds { t with expired := false }
  | none => d.giveTag ds g

/-- BIRSP (R102, R110): matched by BITag; one that no waiting tracker awaits is discarded, and a late one frees a held-back tag. -/
def Dev.birsp (d : Dev) (p bitag : Nat) (rsp : SnpRsp) : Dev :=
  let ds := bitag / 256 % 16
  let g := bitag % 256
  let x := d.dir ds
  match x.trks.find? (fun t => t.bitag == some g && t.waits.contains p) with
  | some t => d.answered ds t p rsp
  | none =>
    let d := (d.raise (.ds ds) 5).addSat (R.DS.LATECNT.LATE_CNT ds) 1
    match x.back.find? (fun (b : Nat × List Nat × Nat) => b.1 == g && b.2.1.contains p) with
    | none => d
    | some b =>
      let left := b.2.1.erase p
      let d := d.updDir ds (fun x => { x with back := (x.back.filter (fun (y : Nat × List Nat × Nat) => y.1 != g)) ++ (if left.isEmpty then [] else [(g, left, b.2.2)]) })
      if left.isEmpty then d.backOver ds g else d

/-- BICONFLICT (R112): the ack goes behind every completion already sent to that host for the line: it queues after them. -/
def Dev.biconflict (d : Dev) (p pool : Nat) : Dev :=
  (d.count (ctrDs (dsOf (pool / 64))) 0x17 none 1).toHost p .biConflict .biConflictAck [pool / 64 * 64] 16 false

/-- A missing BIRsp of port p (R111): from an owner of E or M the data is lost and the line is written poisoned. The tag is held back. -/
def Dev.expireSnoop (d : Dev) (ds : Nat) (t : Tracker) (p : Nat) : Dev :=
  let d := d.raise (.ds ds) 3
  let d := match t.bitag with
    | some g =>
      if t.expired then d.updDir ds (fun x => { x with back := x.back.map (fun (b : Nat × List Nat × Nat) => if b.1 = g then (b.1, p :: b.2.1, b.2.2) else b) })
      else d.updDir ds (fun x => { x with back := x.back ++ [(g, [p], d.time.cclk)] })
    | none => d
  let lost := t.owner == some p
  let d := if lost then d.memWb { t.req with src := .dev, pool := t.line * 64 } (t.ownData.elim 0 (·.1)) allBytes true else d
  let t := { t with expired := t.bitag.isSome, lost := t.lost || lost, ownData := if lost then some (t.ownData.elim 0 (·.1), allBytes, true) else t.ownData }
  d.answered ds t p .i

/-- RSP_TMO (R111): a message the directory awaits has not come. -/
def Dev.rspTmo (d : Dev) (pool : Nat) (what : Awaited) : Dev :=
  let line := pool / 64
  let ds := dsOf line
  match (d.dir ds).trk line with
  | none => d
  | some t =>
    match what with
    | .bi p => if t.waits.contains p then d.expireSnoop ds t p else d
    | .mem => if t.memWait then (d.raise (.ds ds) 3).advanceTrk ds { t with memWait := false, memData := some (0, true) } else d

/-- BITAG_RETURN (R102): a held-back tag returns 2 x RSP_TMO after its expiry. -/
def Dev.bitagReturn (d : Dev) (ds g : Nat) : Dev :=
  if (d.dir ds).back.any (fun b => b.1 == g) then
    (d.updDir ds (fun x => { x with back := x.back.filter (fun b => b.1 != g) })).backOver ds g
  else d

/-- Memory data arrives at the tracker that waits for it (R110): the grant may follow. A PASS-mode completion is forwarded as it came (R120). `id`: the message it
answers; what answers no transaction under way any more is discarded. -/
def Dev.memData (d : Dev) (id pool data : Nat) (poison : Bool) : Dev :=
  let line := pool / 64
  let ds := dsOf line
  match (d.dir ds).trk line with
  | none => d
  | some t =>
    if t.memWait ∧ t.memId = id then
      if t.pass then (d.answerData t.req data poison).endTrk ds t |>.finalEnt ds (lineSet line) t {}
      else d.advanceTrk ds { t with memWait := false, memData := some (data, poison) }
    else d

/-! ### Retries -/

/-- Whether a parked request may go now (R116): its line is free and no older request for it is parked, and what it waits for is there. -/
def DirRt.mayRetry (r : DirRt) (disabling : Bool) (p : Park) : Bool :=
  let line := p.req.pool / 64
  let set := lineSet line
  let freed := (r.trk line).isNone && !r.park.any (fun q => q.req.pool / 64 == line && q.req.ord < p.req.ord)
  freed && match p.why with
    | .line => true
    | .tracker => !r.full p.req
    | .way => (r.freeFor set p.req).isSome || (r.freeWays set + r.evicting set ≤ r.wayAhead p.req && (r.victim set).isSome)
    | .disable => !disabling
    | .held => false
    | .atomUnit => !r.atomFull p.req

/-- RETURNED_REQUEST_PRESENT (R117): the oldest returned request of a source is presented when one of its reserved entries is free, or when
its slice has come on. -/
def Dev.present (d : Dev) (ds key : Nat) : Dev :=
  let x := d.dir ds
  if d.domSt (16 + ds) ≠ .on then d
  else
    let full := 2 ≤ (x.park.filter (fun p => !p.shared && !p.rcl && p.key == key)).length
    match x.retd.find? (fun p => p.key == key && (p.why == .held || !full) && !d.ingressHeld p.req.pool) with
    | none => d
    | some p => (d.updDir ds (fun x => { x with retd := x.retd.erase p })).lookup p.req none

/-- PRED_CLR (R122): every predictor table entry is 1. -/
def Dev.predClr (d : Dev) (ds : Nat) : Dev := d.updDir ds (fun x => { x with pred := [] })

/-! ### Recall (R125) -/

/-- The entry is one the recall selects. Mode 3 is the device's own: the lines of a window that a removed port holds (R94). -/
def Recall.selects (c : Recall) (e : DirEntry) : Bool :=
  match c.mode with
  | 0 => true
  | 1 => e.win == c.win
  | 2 => (e.holders none).contains c.port
  | _ => e.win == c.win && (e.holders none).contains c.port

/-- Recall one entry: an atomic-cache line is written back; holders are snooped, in mode PORT only that port. The line is busy until what is dirty is written. -/
def Dev.recallEnt (d : Dev) (ds : Nat) (c : Recall) (set way : Nat) (e : DirEntry) : Dev :=
  let line := lineOf ds set e.tag
  let req : DirReq := { src := .dev, cls := .inv, pool := line * 64 }
  let d := d.updDir ds (fun x => { x with rcl := x.rcl.map (fun c => { c with lines := c.lines + 1 }) })
  let d := d.entFlush ds line e
  let ports := if e.ac then [] else if 2 ≤ c.mode then [c.port] else e.holders none
  let keep := 2 ≤ c.mode && e.st == .s
  let t : Tracker := { line := line, bt := .rcl, req := req, owner := if (e.st = .e ∨ e.st = .m) ∧ !e.ac then some e.owner else none, old := if keep then { e with sharers := clrB e.sharers c.port } else { e with st := .m }, way := way, rcl := true, since := d.time.cclk }
  let d := d.setEnt ds set way { e with st := .b, bt := .rcl, ac := false }
  if ports.isEmpty then d.advanceTrk ds t else d.snoop ds t .bisnpInv ports

/-- Trackers of the recall engine in use: recalls in flight and parked recalls. -/
def DirRt.rclFlight (r : DirRt) : Nat := (r.trks.filter (·.rcl)).length + (r.park.filter (·.rcl)).length

/-- Park a recall behind the transaction of its line (R125), with the age of this cycle. -/
def Dev.parkRecall (d : Dev) (ds line : Nat) : Dev :=
  d.updDir ds (fun x => { x with nextOrd := x.nextOrd + 1, park := parkIn x.park ⟨{ src := .dev, cls := .inv, pool := line * 64, age := d.time.cclk, ord := x.nextOrd }, false, 64, .line, true⟩ })

/-- The engine walks on: ways in order, up to 64 recalls in flight; a busy line has its recall parked behind its transaction. -/
def recallWalk : Nat → Nat → Dev → Dev
  | 0, _, d => d
  | n + 1, ds, d =>
    match (d.dir ds).rcl with
    | none => d
    | some c =>
      let goTo := fun (d : Dev) (k : Nat) => d.updDir ds (fun x => { x with rcl := x.rcl.map (fun c => { c with pos := k }) })
      if 64 ≤ (d.dir ds).rclFlight then d
      else
        match (d.dir ds).ents.find? (fun e => c.pos ≤ e.1) with
        | none => goTo d 16384
        | some (k, _) =>
          let d := goTo (d.entErr ds (k / 16) (k % 16)) (k + 1)
          let e := Tbl.get (d.dir ds).ents {} k
          if e.st = .i then recallWalk n ds d
          else if e.st = .b then recallWalk n ds (d.parkRecall ds (lineOf ds (k / 16) e.tag))
          else recallWalk n ds (if c.selects e then d.recallEnt ds c (k / 16) (k % 16) e else d)

/-- The walk goes on from where it stands. -/
def Dev.recallPump (d : Dev) (ds : Nat) : Dev := recallWalk ((d.dir ds).ents.length + 2) ds d

/-- Start a recall (R125) for `who`: every way is still to be visited. -/
def Dev.recallBegin (d : Dev) (ds mode win port who : Nat) : Dev :=
  (d.updDir ds (fun x => { x with rcl := some { mode := mode, win := win, port := port, since := d.time.cclk, who := who } })).recallPump ds

/-- A parked recall is retried (R125): the line is recalled if the mode still selects it. -/
def Dev.recallAgain (d : Dev) (ds line : Nat) : Dev :=
  match (d.dir ds).rcl, (d.dir ds).find (lineSet line) (tagOf line) with
  | some c, some (w, e) => if c.selects e && e.st != .b then d.recallEnt ds c (lineSet line) w e else d
  | _, _ => d

/-- PARK_RETRY (R116): the oldest parked request that may go is retried; one that must wait again keeps its entry and its age. -/
def Dev.parkRetry (d : Dev) (ds : Nat) : Dev :=
  let x := d.dir ds
  let dis := fun (p : Park) => (d.winOf (p.req.pool / 2 ^ 30)).any (fun (w, _) => d.disabling w)
  match x.park.find? (fun p => x.mayRetry (dis p) p) with
  | none => d
  | some p =>
    let d := d.updDir ds (fun x => { x with park := x.park.erase p })
    if p.rcl then d.recallAgain ds (p.req.pool / 64) else d.lookup p.req (some p)

/-- Who a recall runs for: software 0, the command of slice s 1 + s, the change of window w 513 + w. -/
abbrev rclSlice (s : Nat) : Nat := 1 + s
abbrev rclWin (w : Nat) : Nat := 513 + w

/-- The recalls of a takeover (R291) and of a handback (R296). -/
abbrev rclTake : Nat := 770
abbrev rclBack : Nat := 771

/-- Ask all 16 slices for a recall: it starts now, or after the one that runs (R134). -/
def Dev.recallAll (d : Dev) (mode win port who : Nat) : Dev :=
  (List.range 16).foldl (fun d ds =>
    if (d.dir ds).rcl.isSome then d.updDir ds (fun x => { x with rclQ := x.rclQ ++ [(mode, win, port, who)] })
    else d.recallBegin ds mode win port who) d

/-- A recall for `who` runs or waits in some slice. -/
def Dev.recalling (d : Dev) (who : Nat) : Bool :=
  d.dirs.any (fun (e : Nat × DirRt) => e.2.rcl.any (fun c => c.who == who) || e.2.rclQ.any (fun q => q.2.2.2 == who))

/-- RECALL_START (R125, DS.RCLCTL): a reserved mode, or a recall that runs already, sets CFG_REJ. RCLCTL holds what software wrote; the device's own recalls leave
it as it is (log entry 57). -/
def Dev.recallStart (d : Dev) (ds mode win port : Nat) : Dev :=
  if mode = 3 ∨ (d.dir ds).rcl.isSome then d.raise (.ds ds) 8
  else ((((d.on (R.DS.RCLCTL.START ds)).set (R.DS.RCLCTL.MODE ds) mode).set (R.DS.RCLCTL.WIN ds) win).set (R.DS.RCLCTL.PORT ds) port).recallBegin ds mode win port 0

/-- The recall of a slice is over: nothing to visit, nothing in flight, nothing parked. -/
def DirRt.recallOver (r : DirRt) : Bool := r.rcl.any (fun c => c.pos == 16384) && r.rclFlight == 0

/-- RECALL_COMPLETE (R125, DS.RCLSTS): RCL_DONE sets, START clears, the result is recorded; the next one starts. A slice whose recall is
complete on all 16 slices enters ADVANCE (R134); a takeover enters RESUME (R291). -/
def Dev.recallComplete (d : Dev) (ds : Nat) : Dev :=
  let d := d.recallPump ds
  match (d.dir ds).rcl with
  | none => d
  | some c =>
    if (d.dir ds).recallOver then
      let d := (d.off (R.DS.RCLCTL.START ds)).set (R.DS.RCLSTS.LINES ds) c.lines
      let d := d.set (R.DS.RCLSTS.TIME_US ds) (min 0xFFFF ((d.time.cclk - c.since) / 2000))
      let d := (d.updDir ds (fun x => { x with rcl := none })).raise (.ds ds) 9
      let d := match (d.dir ds).rclQ with
        | [] => d
        | q :: rest =>
          (d.updDir ds (fun x => { x with rclQ := rest })).recallBegin ds q.1 q.2.1 q.2.2.1 q.2.2.2
      if 1 ≤ c.who ∧ c.who ≤ 512 ∧ !d.recalling c.who ∧ (d.sl (c.who - 1)).st = slRecall then
        d.setSl (c.who - 1) { d.sl (c.who - 1) with st := slAdvance }
      else if c.who = rclTake ∧ d.pair.stage = 2 ∧ !d.recalling rclTake then
        { d with pair := { d.pair with stage := 3 } }.set R.PAIR.RECALL_T.US (min 0xFFFF ((d.time.cclk - d.pair.stageAt) / 2000))
      else d
    else d

/-! ### Host link loss (R129) -/

/-- The outstanding snoops to a lost port, handled as expired. -/
def Dev.sweepSnoops (d : Dev) (ds p : Nat) : Dev :=
  ((d.dir ds).trks.filter (fun t => t.waits.contains p)).foldl (fun d t =>
    match (d.dir ds).trk t.line with
    | some t => d.expireSnoop ds t p
    | none => d) d

/-- The sweep of one entry. -/
def Dev.sweepEnt (d : Dev) (ds p k : Nat) (e : DirEntry) : Dev :=
  if e.st = .b then
    match (d.dir ds).trk (lineOf ds (k / 16) e.tag) with
    | some t => d.putTrk ds { t with swept := p :: t.swept, old := { t.old with sharers := clrB t.old.sharers p } }
    | none => d
  else if (e.st = .e ∨ e.st = .m) ∧ !e.ac ∧ e.owner = p then
    let d := d.raise (.ds ds) 4
    let d := d.memWb { src := .dev, cls := .wb, pool := lineOf ds (k / 16) e.tag * 64 } 0 allBytes true
    d.freeWay ds (k / 16) (k % 16)
  else if e.st = .s ∧ hasBit e.sharers p then
    if clrB e.sharers p = 0 then d.freeWay ds (k / 16) (k % 16) else d.setEnt ds (k / 16) (k % 16) { e with sharers := clrB e.sharers p }
  else d

/-- PORT_SWEEP (R129): every slice, for a lost HOST port. -/
def Dev.portSweep (d : Dev) (p : Nat) : Dev :=
  (List.range 16).foldl (fun d ds =>
    let d := d.sweepSnoops ds p
    (d.dir ds).ents.foldl (fun d (k, e) => d.sweepEnt ds p k e) d) d

end Sys2Proof.Machine
end

