-- ==== Sys2Proof/Machine/HostMem.lean ====
section
/-! DEFINITION. Host memory written on a slice's behalf (R133, R155 to R157, R187, R358, R362): posted writes to the slice's port, MSI-X vectors, the dirty-page log. -/
namespace Sys2Proof.Machine

/-- The PASID a write carries, plus one: 0 with none. -/
def Dev.pasidOf (d : Dev) (s : Nat) : Nat := if (d.sl s).pasidEn then (d.sl s).pasid + 1 else 0

/-- A posted write of `n` bytes to host memory for a slice: a message to its port, under its generation (R149); its arguments are the address, the PASID, the bytes.
At `stage` 0 the slice's policer takes it first (R164). -/
def Dev.hostWrite (d : Dev) (src : Src) (s : Nat) (cls : Cls) (stage : Nat) (op : Op) (addr pasid n data : Nat) : Dev :=
  d.enq { src := src, slice := some s, cls := cls, kind := .ioWrite, addr := addr, bytes := 16 + n, egress := (d.sl s).port, gen := d.gen s, stage := stage, op := op, args := addr :: pasid :: leBytes data n }

/-- MSI-X vector k of a slice: entry 4 s + k of the table of its port's function (R133). A masked one waits (log entry 162). -/
def Dev.sliceVec (d : Dev) (src : Src) (cls : Cls) (stage s k : Nat) : Dev :=
  let i := 2048 * (d.sl s).port + 4 * s + k
  let e := Tbl.get d.msix {} i
  if e.mask then { d with msix := Tbl.set d.msix {} i { e with pend := true } } else d.hostWrite src s cls stage .msix e.addr 0 4 e.data

/-- A log entry, 8 B (R157). -/
def packDlogEntry (phase : Bool) (kind page : Nat) : Nat := cat [(bit phase, 1), (kind, 2), (0, 9), (page, 52)]

/-- Log a written host-memory page (R155 to R157): KIND 0 completion, 1 data, 2 dump, 3 Landing; by the source of the write, so that R80 keeps the entry ahead of
what follows, in SC3 (R161), past no policer (log entry 161). Nothing is logged from P0 (R214). -/
def Dev.logPage (d : Dev) (src : Src) (s addr kind : Nat) : Dev :=
  if !(d.sl s).dlogEn ∨ d.saving then d else
  let page := addr / 4096
  let k := dfIdx s page
  if Tbl.get d.dfilt 0 k = page + 1 then d else
  let l := Tbl.get d.dlogs {} s
  let n := 2 ^ l.size
  if l.ovf then d
  else if (l.pi + 1) % n = l.ci % n then
    { d with dlogs := Tbl.set d.dlogs {} s { l with ovf := true } }.sliceVec src .sc3 1 s 2
  else
    let d := d.hostWrite src s .sc3 1 .dlogEntry (l.base + 8 * l.pi) (d.pasidOf s) 8 (packDlogEntry l.phase kind page)
    let pi := (l.pi + 1) % n
    let l := { l with pi := pi, phase := if pi = 0 then !l.phase else l.phase }
    let d := { d with dlogs := Tbl.set d.dlogs {} s l, dfilt := Tbl.set d.dfilt 0 k (page + 1) }
    if (pi + n - l.ci % n) % n = n / 2 then d.sliceVec src .sc3 1 s 2 else d

/-- A word of an MSI-X table entry (log entry 162). -/
def MsixE.word (e : MsixE) (k : Nat) : Nat := [bits e.addr 0 32, bits e.addr 32 32, e.data, bit e.mask].getD k 0
def MsixE.put (e : MsixE) (k v : Nat) : MsixE :=
  match k with
  | 0 => { e with addr := e.addr / 2 ^ 32 * 2 ^ 32 + v / 4 % 2 ^ 30 * 4 }
  | 1 => { e with addr := e.addr % 2 ^ 32 + v % 2 ^ 32 * 2 ^ 32 }
  | 2 => { e with data := v % 2 ^ 32 }
  | _ => { e with mask := hasBit v 0 }

/-- A write of the MSI-X table of port p's function: an entry that is no longer masked sends what waited, if its slice is still bound to the port (R133). -/
def Dev.msixWrite (d : Dev) (p i k v : Nat) : Dev :=
  let j := 2048 * p + i
  let e := (Tbl.get d.msix {} j).put k v
  let s := i / 4
  let go := e.pend && !e.mask
  let d := { d with msix := Tbl.set d.msix {} j (if go then { e with pend := false } else e) }
  if go ∧ (d.sl s).st ≠ slFree ∧ (d.sl s).port = p then
    (if i % 4 < 2 then d.sliceVec (.skid (2 * s + i % 4)) .sc2 0 s (i % 4) else d.sliceVec .dev (if i % 4 = 2 then .sc3 else .sc1) 1 s (i % 4))
  else d

end Sys2Proof.Machine
end

