-- ==== Sys2Proof/Machine/Tally.lean ====
section
/-! DEFINITION. Tally (R350 to R364): counter selectors, snapshots, slice dumps, the queue sampler, the Landing ring. -/
namespace Sys2Proof.Machine

/-- TLY.STS bits. -/
abbrev tlySnapLost : Nat := 0
abbrev tlyLandLost : Nat := 1
abbrev tlyWrErr : Nat := 2
abbrev tlyRej : Nat := 3

/-! ### Counters (R350 to R354) -/

/-- The codes a counter's block lists (R352). -/
def ctrCodes (i : Nat) : List Nat :=
  if i < 1536 then [1, 2, 3, 4, 5, 6, 7, 8, 0x40, 0x41, 0x42]
  else if i < 2048 then [0x10, 0x11, 0x12, 0x13, 0x14, 0x15, 0x16, 0x17, 0x50, 0x51, 0x52]
  else if i < 2080 then [0x20, 0x21, 0x60]
  else [0x30, 0x31, 0x32, 0x33, 0x34, 0x35, 0x70]

/-- An occupancy code (R352). -/
def isOcc (code : Nat) : Bool := 0x40 ≤ code && code < 0x80

/-- Cells charged to the messages queued for an egress port that CMASK admits. -/
def Dev.occEgress (d : Dev) (p mask : Nat) : Nat :=
  (d.buf.msgs.filter (fun m => m.egress == p && m.stage == 1 && !m.hdrLeft && hasBit mask m.cls.idx)).foldl (fun n m => n + m.chg + m.sysN) 0

/-- The current value of an occupancy for counter i (R352). -/
def Dev.occ (d : Dev) (i : Nat) (e : CtrSelE) : Nat :=
  match e.event with
  | 0x40 => d.occEgress (i / 24) e.cmask
  | 0x41 => if d.isHost (i / 24) then d.inflight (i / 24) else 0
  | 0x42 => (Tbl.get d.xep {} (i / 24)).unack.length
  | 0x50 => ((Tbl.get d.dirs {} ((i - 1536) / 32)).ents).length
  | 0x51 => (Tbl.get d.dirs {} ((i - 1536) / 32)).trks.length
  | 0x52 => (Tbl.get d.dirs {} ((i - 1536) / 32)).park.length
  | 0x60 => (d.buf.cells.filter (fun c => c.1 / 65536 == (i - 2048) / 8)).length
  | _ => d.buf.chg ((i - 2080) / 16)

/-- A port counter counts only in the lowest unit of a port (R352). -/
def Dev.ctrLive (d : Dev) (i : Nat) : Bool := 1536 ≤ i || (d.prt (i / 24)).ex

/-- One CCLK cycle of the occupancy counters (R353). -/
def Dev.ctrTick (d : Dev) : Dev :=
  let hit := d.ctrsels.filter (fun (i, e) => e.en && isOcc e.event && d.ctrLive i)
  { d with ctrvals := hit.foldl (fun t (i, e) =>
      let v := d.occ i e
      let add := if e.ovr then (if e.thresh < v then 1 else 0) else v
      Tbl.set t 0 i ((Tbl.get t 0 i + add) % 2 ^ 64)) d.ctrvals }

/-- A refused selector write (R353). -/
def Dev.ctrRefuse (d : Dev) (i : Nat) : Dev :=
  let d := d.raise .tly tlyRej
  if d.is R.TLY.CTRERR.VALID then d else (d.set R.TLY.CTRERR.NUMBER i).on R.TLY.CTRERR.VALID

/-- COUNTER_SELECT (R351, R353): a write to a selector zeroes its counter; an illegal one changes nothing and sets CFG_REJ. -/
def Dev.counterSelect (d : Dev) (i x : Nat) : Dev :=
  let e := unpackCtrSel x
  if packCtrSel e ≠ x ∨ !(ctrCodes i).contains e.event ∨ (e.ovr ∧ !isOcc e.event) then d.ctrRefuse i
  else
    let n := { d with ctrsels := Tbl.set d.ctrsels {} i e, ctrvals := Tbl.set d.ctrvals 0 i 0 }
    if n.ctrsels = d.ctrsels then n else n.cfgChange

/-- Zero a slice's 16 values, and its selectors on an unbind of the whole slice (R354). -/
def Dev.zeroSliceCtrs (d : Dev) (s : Nat) (sels : Bool) : Dev :=
  let mine := fun k => (ctrSl s).1 ≤ k && k < (ctrSl s).1 + 16
  let d := { d with ctrvals := Tbl.keep d.ctrvals (fun k => !mine k) }
  if sels then { d with ctrsels := Tbl.keep d.ctrsels (fun k => !mine k) } else d

/-! ### Snapshots (R355 to R358) -/

/-- The counters of the groups, in record order (R357). -/
def groupCtrs (g : Nat) : List Nat :=
  (if hasBit g 0 then List.range 1536 else []) ++ (if hasBit g 1 then (List.range 512).map (1536 + ·) else []) ++
  (if hasBit g 2 then (List.range 32).map (2048 + ·) else []) ++ (if hasBit g 3 then (List.range 8192).map (2080 + ·) else [])

/-- SNAPSHOT_ENABLE (R357): SNAP_EN goes from 0 to 1: PI is 0. -/
def Dev.snapEnable (d : Dev) : Dev :=
  if d.is R.TLY.CTL.SNAP_EN then d
  else (({ d with tally := { d.tally with phase := true } }.on R.TLY.CTL.SNAP_EN).off R.TLY.SNAPIDX.PI).cfgChange

/-- Slices with a dump due at a boundary (R358). -/
def Dev.dumpsDue (d : Dev) : List Dump :=
  (d.sdumps.filter (fun (s, e) => e.en && (d.sl s).st == slBound && (d.sl s).pasidEn)).map (fun (s, e) =>
    { slice := s, gen := (d.sl s).gen, addr := e.addr, seq := d.get R.TLY.SNAPSEQ.VALUE, time := d.ft, values := (List.range 16).map (fun k => Tbl.get d.ctrvals 0 ((ctrSl s).1 + k)) })

/-- SNAPSHOT_BOUNDARY (R355, R356): SNAPSEQ advances; the groups and the slices due latch together, unless the last snapshot is still being
written, which skips this one. None from P0 until PERST_N. -/
def Dev.snapBoundary (d : Dev) : Dev :=
  if !d.is R.TLY.CTL.SNAP_EN ∨ d.saving then d
  else
    let d := d.addMod R.TLY.SNAPSEQ.VALUE 1
    if d.tally.snap.isSome ∨ !d.tally.dumps.isEmpty then
      (({ d with tally := { d.tally with skipped := satAdd d.tally.skipped 1 0xFFFF } }).addSat R.TLY.SNAPLOST.SKIPPED 1).raise .tly tlySnapLost
    else
      let g := d.get R.TLY.SNAPCTL.GROUPS
      let sn := if g = 0 then none else some { seq := d.get R.TLY.SNAPSEQ.VALUE, time := d.ft, groups := g, values := (groupCtrs g).map (fun i => Tbl.get d.ctrvals 0 i) }
      { d with tally := { d.tally with snap := sn, dumps := d.dumpsDue } }

/-- The header of a snapshot record, 64 B (R357). -/
def packSnapHdr (phase : Bool) (groups dev units seq time skipped dropped : Nat) : Nat :=
  cat [(bit phase, 1), (groups, 4), (dev, 3), (0, 8), (units, 16), (seq, 32), (time, 64), (skipped, 16), (dropped, 16), (0, 352)]

/-- Write the record of a latched snapshot, header last (R357). -/
def Dev.snapRecord (d : Dev) (sn : Snap) : Dev :=
  let size := 2 ^ d.get R.TLY.SNAPCTL.SIZE
  let pi := d.get R.TLY.SNAPIDX.PI
  let len := 64 + 8 * sn.values.length
  let d := { d with tally := { d.tally with snap := none } }
  if (pi + 1) % size = d.get R.TLY.SNAPIDX.CI % size then
    (({ d with tally := { d.tally with dropped := satAdd d.tally.dropped 1 0xFFFF } }).addSat R.TLY.SNAPLOST.DROPPED 1).raise .tly tlySnapLost
  else
    let base := d.get64 R.TLY.SNAPBL.VALUE R.TLY.SNAPBH.VALUE
    let m := Chan.prinMem (d.get R.TLY.SNAPCTL.PRIN)
    let d := d.emit m .snapRec ((base + pi * len + 64) :: sn.values.flatMap (fun v => leBytes v 8))
    let d := d.emit m .snapRec ((base + pi * len) :: leBytes (packSnapHdr d.tally.phase sn.groups d.pins.devId ((len + 63) / 64) sn.seq sn.time d.tally.skipped d.tally.dropped) 64)
    let n := (pi + 1) % size
    { d with tally := { d.tally with skipped := 0, dropped := 0, phase := if n = 0 then !d.tally.phase else d.tally.phase } }.set R.TLY.SNAPIDX.PI n

/-- A dump block, 256 B (R358). -/
def packDump (u : Dump) : Nat := cat ([(u.seq, 64), (u.time, 64), (u.gen, 8), (0, 376)] ++ u.values.map (fun v => (v, 64)) ++ [(u.seq, 64), (0, 448)])

/-- Write a dump block (R358): SEQ_BEGIN first, in one write what comes before SEQ_END, in a second one the rest; a block of an old generation is discarded (R149). -/
def Dev.writeDump (d : Dev) (u : Dump) : Dev :=
  if (d.sl u.slice).gen ≠ u.gen ∨ (d.sl u.slice).st = slFree then d.gdisc u.slice
  else
    let d := d.logPage .dev u.slice u.addr 2
    let put := fun (d : Dev) (at_ n : Nat) => d.hostWrite .dev u.slice .sc3 1 .dumpBlock (u.addr + at_) (d.pasidOf u.slice) n (bits (packDump u) (8 * at_) (8 * n))
    put (put d 0 192) 192 64

/-- SNAPSHOT_RECORD_WRITE (R356 to R358): the latched values go to the ring and the dumps to their slices. -/
def Dev.snapWrite (d : Dev) (ok : Bool) : Dev :=
  if d.saving ∨ (d.tally.snap.isNone ∧ d.tally.dumps.isEmpty) then d
  else
    let d := match d.tally.snap with
      | some sn => d.snapRecord sn
      | none => d
    let d := d.tally.dumps.foldl Dev.writeDump { d with tally := { d.tally with dumps := [] } }
    if ok then d else d.raise .tly tlyWrErr

/-! ### Queue sampler (R359, R179) -/

/-- The messages of virtual queue (port, slice or system, class), in the order they joined. -/
def Dev.queueOf (d : Dev) (p : Nat) (s : Option Nat) (c : Nat) : List Msg :=
  d.buf.msgs.filter (fun m => m.egress == p && m.stage == 1 && !m.hdrLeft && m.slice == s && m.cls.idx == c)

/-- SAMPLER_VISIT (R359): the next queue's entry is written, then the starvation check of R179. -/
def Dev.sample (d : Dev) : Dev :=
  if !d.is R.TLY.SAMPCTL.EN ∨ d.saving then d
  else
    let q := d.tally.visit
    let p := q / 2048
    let s := q / 4 % 512
    let c := q % 4
    let ms := if (d.prt p).ex then d.queueOf p (some s) c else []
    let hd := match ms with
      | [] => 0
      | m :: _ => min (2 ^ 24 - 1) ((d.time.cclk - m.since) / 32)
    let e : QsampE := if (d.prt p).ex then
        { msgs := min 0xFFFF ms.length, cells := (ms.foldl (fun n m => n + m.chg) 0) % 2 ^ 18, sweep := d.get R.TLY.SAMPSTS.VALUE % 64, hdelay := hd }
      else {}
    let d := { d with qsamps := Tbl.set d.qsamps {} q e, tally := { d.tally with visit := (q + 1) % 131072 } }
    let d := if q = 131071 then d.addMod R.TLY.SAMPSTS.VALUE 1 else d
    let cp := cpOf p
    let us := d.get (R.CP.SCHCTL.STARVE_US cp)
    if us ≠ 0 ∧ us * 1000 < hd * 16 then
      let d := d.raise (.sch cp) 1
      if d.is (R.CP.STARVEQ.VALID cp) then d
      else (((d.set (R.CP.STARVEQ.PORT cp) p).set (R.CP.STARVEQ.SLICE cp) s).set (R.CP.STARVEQ.CLASS cp) c).on (R.CP.STARVEQ.VALID cp)
    else d

/-! ### The Landing ring (R360 to R363) -/

/-- A channel's running part. -/
def Dev.land (d : Dev) (c : Nat) : LandRt := Tbl.get d.tally.land {} c

/-- Change a channel's running part. -/
def Dev.updLand (d : Dev) (c : Nat) (f : LandRt → LandRt) : Dev :=
  { d with tally := { d.tally with land := Tbl.set d.tally.land {} c (f (d.land c)) } }

/-- The code of a message kind in a record. -/
def MsgKind.code : MsgKind → Nat
  | .memRead => 0
  | .memWrite => 1
  | .memInv => 2
  | .memWb => 3
  | .atomic => 4
  | .ioRead => 5
  | .ioWrite => 6
  | .ioCplData => 7
  | .ioCpl => 8
  | .data => 9
  | .cpl => 10
  | .snoop => 11
  | .snpRsp => 12
  | .biConflict => 13
  | .mapref => 14

/-- The message passes every filter of a channel at a point (0 ingress, 1 egress) of a port (R360, R362). -/
def Dev.landMatch (d : Dev) (c point port : Nat) (m : Msg) : Bool :=
  let dest := d.is (R.LD.LCTL.DEST c)
  d.is (R.LD.LCTL.EN c) && hasBit (d.get (R.LD.LFILT.POINT c)) point &&
    (d.is (R.LD.LFILT.PORT_ANY c) || d.get (R.LD.LFILT.PORT c) == port) && hasBit (d.get (R.LD.LFILT.CMASK c)) m.cls.idx &&
    (match m.slice with
     | some s => (s ^^^ d.get (R.LD.LSLICE.SLICE c)) &&& (if dest then 0x1FF else d.get (R.LD.LSLICE.SMASK c)) == 0
     | none => d.is (R.LD.LFILT.SYS_EN c) && !dest)

/-- The first 64 B of a message at a capture point (R361): as its slots on a Xepin link; the spec gives the bytes of CXL messages no layout, they are free. -/
def Dev.firstBytes (d : Dev) (point port : Nat) (m : Msg) : Nat :=
  if d.isXep port then cat (((if point = 1 then m.wire m.tag else m.x.getD {}).slots.take 4).map (fun s => (s, 128)))
  else Config.cxlBytes m.kind.code ([m.addr, m.tag, m.bytes] ++ m.args) % 2 ^ min 512 (8 * m.bytes)

/-- A Landing record, 128 B (R361). -/
def packLandRec (phase : Bool) (dropped : Nat) (x : LandRec) : Nat :=
  cat [(bit phase, 1), (x.point, 1), (x.port, 6), (x.slice.getD 0, 9), (bit x.slice.isNone, 1), (x.cls, 3), (0, 11), (x.matched, 32), (x.time, 64), (dropped, 16), (0, 112), (x.data, 512), (0, 256)]

/-- A message at a capture point, for one channel (R360, R362). -/
def Dev.captureOn (d : Dev) (point port : Nat) (m : Msg) (c : Nat) : Dev :=
  if d.landMatch c point port m then
    let r := d.land c
    let due := r.matched % (d.get (R.LD.LCTL.RATE c) + 1) == 0 && r.last != some d.time.cclk
    let d := d.updLand c (fun r => { r with matched := (r.matched + 1) % 2 ^ 32 })
    if !due then d
    else if 64 ≤ r.fifo.length then
      ((d.updLand c (fun r => { r with dropped := satAdd r.dropped 1 0xFFFF })).addSat (R.LD.LDROP.FIFO c) 1).raise .tly tlyLandLost
    else d.updLand c (fun r => { r with last := some d.time.cclk, fifo := r.fifo ++ [{ point := point, port := port, slice := m.slice, cls := m.cls.idx, matched := (r.matched + 1) % 2 ^ 32, time := d.ft, gen := (d.sl (d.get (R.LD.LSLICE.SLICE c))).gen, data := d.firstBytes point port m }] })
  else d

/-- A message at a capture point (R360). Capture stops from P0 (R363). -/
def Dev.capture (d : Dev) (point port : Nat) (m : Msg) : Dev :=
  if d.saving then d else (List.range 4).foldl (fun d c => d.captureOn point port m c) d

/-- A channel has nothing left to write: BUSY reads 0. -/
def Dev.landSettle (d : Dev) (c : Nat) : Dev :=
  d.put (R.LD.LCTL.BUSY c) (!d.is (R.LD.LCTL.EN c) && !(d.land c).fifo.isEmpty)

/-- LANDING_RECORD_WRITE (R362): the oldest captured record goes to the ring, or is dropped where the ring is full or its slice has moved on. -/
def Dev.landWrite (d : Dev) (c : Nat) (ok : Bool) : Dev :=
  if d.saving then d else
  match (d.land c).fifo with
  | [] => d
  | x :: rest =>
    let r := d.land c
    let d := d.updLand c (fun r => { r with fifo := rest })
    let size := 2 ^ d.get (R.LD.LCTL.SIZE c)
    let pi := d.get (R.LD.LIDX.PI c)
    let s := d.get (R.LD.LSLICE.SLICE c)
    let dest := d.is (R.LD.LCTL.DEST c)
    let addr := d.get64 (R.LD.LBASEL.VALUE c) (R.LD.LBASEH.VALUE c) + 128 * pi
    if dest ∧ (d.sl s).gen ≠ x.gen then (d.gdisc s).landSettle c
    else if (pi + 1) % size = d.get (R.LD.LIDX.CI c) % size then
      ((((d.updLand c (fun r => { r with dropped := satAdd r.dropped 1 0xFFFF })).addSat (R.LD.LDROP.FULL c) 1).raise .tly tlyLandLost)).landSettle c
    else
      let b := packLandRec r.phase r.dropped x
      let d := if dest then (d.logPage .dev s addr 3).hostWrite .dev s .sc3 1 .landRec addr (d.pasidOf s) 128 b else d.emit (.prinMem (d.get (R.LD.LCTL.PRIN c))) .landRec (addr :: leBytes b 128)
      let n := (pi + 1) % size
      let d := d.updLand c (fun r => { r with dropped := 0, phase := if n = 0 then !r.phase else r.phase })
      let d := (d.set (R.LD.LIDX.PI c) n).landSettle c
      if ok then d else d.raise .tly tlyWrErr

/-- LANDING_ENABLE (R363): EN goes from 0 to 1: PI, PHASE and MATCHED start again; a slice destination must be BOUND with a PASID. -/
def Dev.landEnable (d : Dev) (c : Nat) : Dev :=
  if d.is (R.LD.LCTL.EN c) then d
  else
    let s := d.sl (d.get (R.LD.LSLICE.SLICE c))
    if d.is (R.LD.LCTL.DEST c) ∧ !(s.st = slBound ∧ s.pasidEn) then d.raise .tly tlyRej
    else ((((d.updLand c (fun r => { r with matched := 0, phase := true, last := none })).on (R.LD.LCTL.EN c)).off (R.LD.LIDX.PI c)).off
      (R.LD.LCTL.BUSY c)).cfgChange

/-- LANDING_DISABLE (R363): capture stops; BUSY reads 1 until the FIFO is written. -/
def Dev.landDisable (d : Dev) (c : Nat) : Dev :=
  if d.is (R.LD.LCTL.EN c) then ((d.off (R.LD.LCTL.EN c)).cfgChange).landSettle c else d

/-- A slice leaves BOUND: a channel whose destination it is stops (R362). -/
def Dev.landLeave (d : Dev) (s : Nat) : Dev :=
  (List.range 4).foldl (fun d c => if d.is (R.LD.LCTL.EN c) ∧ d.is (R.LD.LCTL.DEST c) ∧ d.get (R.LD.LSLICE.SLICE c) = s then
    (d.off (R.LD.LCTL.EN c)).landSettle c else d) d

end Sys2Proof.Machine
end

