-- ==== Sys2Proof/Machine/Sched.lean ====
section
/-! DEFINITION. Scheduling (R161 to R180): policers, the shaper tree, gate control lists, and what leaves an egress port. -/
namespace Sys2Proof.Machine

/-! ### Buckets (R165, R173) -/

/-- The ns count of the scheduler clusters. -/
def Dev.ns (d : Dev) : Nat := d.time.cclk / 2

/-- The cap of a bucket: the larger of its burst and 4,112 B, in milli-bytes. -/
def bktCap (burst : Nat) : Int := (max burst 4112 * 1000 : Nat)

/-- Bring a bucket up to date (R165). -/
def Bucket.refill (b : Bucket) (rate burst now : Nat) : Bucket :=
  { level := if b.level < bktCap burst then min (b.level + (rate * (now - b.last) : Nat)) (bktCap burst) else b.level, last := now }

/-- A configuration change (R173). -/
def Bucket.recfg (b : Bucket) (oldRate oldBurst newBurst now : Nat) (service init : Bool) : Bucket :=
  let b := b.refill oldRate oldBurst now
  { b with level := if service then min b.level (bktCap newBurst) else if init then bktCap newBurst else 0 }

/-- A full bucket, its level at reset. -/
def fullBkt (burst : Nat) : Bucket := ⟨bktCap burst, 0⟩

/-- TOP.DSTATE.MODE is SERVICE (R173). -/
def Dev.inServiceMode (d : Dev) : Bool := d.get R.TOP.DSTATE.MODE == 1

/-- A slice's POLICE entry (R168). -/
def Dev.police (d : Dev) (s : Nat) : PoliceE := Tbl.get d.polices {} s

/-- A port's class entry in effect (R171). -/
def Dev.clsE (d : Dev) (p c : Nat) : ClassE := Tbl.get d.classes (clsDef c) (4 * p + c)

/-- The buckets of a slice, of a class, of a port. -/
def Dev.peakB (d : Dev) (s : Nat) : Bucket := Tbl.get d.sched.peak (fullBkt 0x10000) s
def Dev.comB (d : Dev) (s : Nat) : Bucket := Tbl.get d.sched.com (fullBkt 0x10000) s
def Dev.clsB (d : Dev) (p c : Nat) : Bucket := Tbl.get d.sched.cls (fullBkt 0x4000) (4 * p + c)
def Dev.prtB (d : Dev) (p : Nat) : Bucket := Tbl.get d.sched.prt (fullBkt 0x4000) p
def Dev.setPeak (d : Dev) (s : Nat) (b : Bucket) : Dev := { d with sched := { d.sched with peak := Tbl.set d.sched.peak (fullBkt 0x10000) s b } }
def Dev.setCom (d : Dev) (s : Nat) (b : Bucket) : Dev := { d with sched := { d.sched with com := Tbl.set d.sched.com (fullBkt 0x10000) s b } }
def Dev.setClsB (d : Dev) (p c : Nat) (b : Bucket) : Dev :=
  { d with sched := { d.sched with cls := Tbl.set d.sched.cls (fullBkt 0x4000) (4 * p + c) b } }
def Dev.setPrtB (d : Dev) (p : Nat) (b : Bucket) : Dev := { d with sched := { d.sched with prt := Tbl.set d.sched.prt (fullBkt 0x4000) p b } }

/-- The cost of a message (R164): 16 B and the data it asks for or carries; `bytes` counts both. -/
def Msg.cost (m : Msg) : Nat := if m.kind == .memRead || m.kind == .ioRead then 16 + m.ask else max 16 m.bytes

/-! ### Policers (R164 to R168) -/

/-- The peak bucket's test and debit (R166): whether a message of a cost passes. From P0 policers are bypassed (R214). -/
def Dev.policeTry (d : Dev) (s cost : Nat) : Dev × Bool :=
  let e := d.police s
  if e.pir = 0 ∨ d.saving then (d, true)
  else
    let b := (d.peakB s).refill e.pir e.pbs d.ns
    if b.level < 0 then (d.setPeak s b, false)
    else (d.setPeak s { b with level := b.level - (cost * 1000 : Nat) }, true)

/-- A message joins its virtual queue, behind the messages that have joined it (R163). -/
def Dev.joinQueue (d : Dev) (m : Msg) : Dev :=
  { d with buf := { d.buf with msgs := d.buf.msgs.filter (fun x => x.id != m.id) ++ [{ m with stage := 1, since := d.time.cclk }] } }

/-- A request the directory serves before it joins a queue (R13, R119). -/
def Dev.needsDir (d : Dev) (m : Msg) : Bool :=
  m.kind.isReq && d.isMem m.egress &&
    ((d.winOf (m.pool / 2 ^ 30)).isSome || (m.kind == .atomic && !(d.ext (m.pool / 2 ^ 30)).atomOk))

/-- The policer has passed a message (R163): it joins its queue, or goes to its directory slice; an Inv of private memory is answered by the
device itself (R97). -/
def Dev.passed (d : Dev) (m : Msg) : Dev :=
  let d := match m.slice with
    | some s => (d.count (ctrSl s) 0x30 (some m.cls) 1).count (ctrSl s) 0x31 (some m.cls) m.cost
    | none => d
  if m.kind == .memInv && (d.winOf (m.pool / 2 ^ 30)).isNone then
    (d.release m false).answerCpl { m.asReq with cls := .inv } .cmpM
  else if d.needsDir m then (d.updMsg m.id (fun m => { m with stage := 2 })).emit (.noc 0) .dirReq [m.pool, m.tag, m.kind.code]
  else d.joinQueue m

/-- The slice of a queued message has advanced its generation since it was made (R149). A write-back, and what the directory sends for a request, goes on. -/
def Dev.stale (d : Dev) (m : Msg) : Bool := !m.home && m.kind != .memWb && m.slice.any (fun s => d.gen s != m.gen)

/-- A queued message of an old generation is discarded and counted (R149, R206). -/
def Dev.dropOld (d : Dev) (m : Msg) : Dev :=
  match m.src with
  | .skid q => if m.paid then (d.release m false).accDrop q m.tag else (d.release m false).qDiscard q
  | _ => (d.release m false).gdisc (m.slice.getD 0)

/-- The slice's head message at its policer (R149, R166). -/
def Dev.policeHead (d : Dev) (s : Nat) : Dev :=
  match d.buf.msgs.find? (fun m => m.stage == 0 && m.slice == some s) with
  | none => d
  | some m =>
    if d.stale m then d.dropOld m else
    let r := d.policeTry s m.cost
    if r.2 then r.1.passed m else r.1

/-- Weight and credit cap of a slice in a class (R168). -/
def PoliceE.wb (e : PoliceE) (c : Nat) : Nat × Nat :=
  match c with
  | 0 => (e.w0, e.b0)
  | 1 => (e.w1, e.b1)
  | 2 => (e.w2, e.b2)
  | _ => (e.w3, e.b3)

/-- A leaf's quantum and cap (R170): weight 0 acts as 1, a cap below 0x041 as 0x041. Leaf 512 is the system queue (R163). -/
def Dev.leafQC (d : Dev) (leaf c : Nat) : Nat × Nat :=
  let (w, b) := if leaf = 512 then (1, 0x41) else (d.police leaf).wb c
  let q := max w 1 * 64
  (q, max (max b 0x41 * 64) q)

/-- A leaf's virtual queue number (R163). -/
def leafNum (p leaf c : Nat) : Nat := if leaf = 512 then 131072 + 4 * p + c else (p * 512 + leaf) * 4 + c

/-- A new POLICE entry takes effect (R173, R174). -/
def Dev.setPolice (d : Dev) (s : Nat) (e : PoliceE) : Dev :=
  let o := d.police s
  let sv := d.inServiceMode
  let d := d.setPeak s ((d.peakB s).recfg o.pir o.pbs e.pbs d.ns sv e.init)
  let d := d.setCom s ((d.comB s).recfg o.cir o.cbs e.cbs d.ns sv e.init)
  let d := { d with polices := Tbl.set d.polices {} s e }
  { d with sched := { d.sched with leafDef := d.sched.leafDef.map (fun (k, v) =>
      if k < 131072 ∧ k / 4 % 512 = s then (k, min v (d.leafQC s (k % 4)).2) else (k, v)) } }

/-- A slice reset sets both bucket levels as INIT selects (R168). -/
def Dev.resetPolice (d : Dev) (s : Nat) : Dev :=
  let e := d.police s
  (d.setPeak s ⟨if e.init then bktCap e.pbs else 0, d.ns⟩).setCom s ⟨if e.init then bktCap e.cbs else 0, d.ns⟩

/-! ### Gates (R175 to R177) -/

/-- The operational bank of a port. -/
def Dev.operBank (d : Dev) (p : Nat) : Nat := 2 * p + d.get (R.SCH.GCTL.OPER p)

/-- A bank. -/
def Dev.gcl (d : Dev) (b : Nat) : GclBank := Tbl.get d.gcls {} b

/-- The entries in use of a bank. -/
def GclBank.used (g : GclBank) : List GateE := (List.range (g.last + 1)).map (fun i => Tbl.get g.entries {} i)

/-- Every duration in use lies between 1 and 1,000,000 (R177). -/
def GclBank.legal (g : GclBank) : Bool := g.used.all (fun e => 1 ≤ e.dur && e.dur ≤ 1000000)

/-- CYCLE: the sum of the durations in use. -/
def GclBank.cycle (g : GclBank) : Nat := g.used.foldl (fun n e => n + e.dur) 0

/-- The entry a position falls in, with what is left of the list from there and the time left in it (R176). -/
def gatePos : List GateE → Nat → Nat → Option (Nat × Nat)
  | [], _, _ => none
  | e :: r, k, i => if k < e.dur then some (i, e.dur - k) else gatePos r (k - e.dur) (i + 1)

/-- Time until the gate of class c closes, running forward over the entries; `none`: it never does. -/
def gateRun (c : Nat) : List GateE → Nat → Option Nat
  | [], _ => none
  | e :: r, t => if hasBit e.open4 c then gateRun c r (t + e.dur) else some t

/-- The index of the current entry (R178 CUR): none while gating is off or before BASE. -/
def Dev.gateCur (d : Dev) (p : Nat) : Option (Nat × Nat) :=
  let g := d.gcl (d.operBank p)
  if !d.is (R.SCH.GCTL.EN p) ∨ d.ft < g.base ∨ g.cycle = 0 then none
  else gatePos g.used ((d.ft - g.base) % g.cycle) 0

/-- The class gate admits a message that takes `tx` ns (R176). From P0 gates are bypassed (R214). -/
def Dev.gateOpen (d : Dev) (p c tx : Nat) : Bool :=
  if d.saving then true else
  match d.gateCur p with
  | none => true
  | some (i, left) =>
    let l := (d.gcl (d.operBank p)).used
    hasBit ((l.getD i {}).open4) c && (match gateRun c (l.drop (i + 1) ++ l.take i) left with
      | none => true
      | some t => tx ≤ t)

/-- Milli-bytes a lane moves in 2 ns at a rate code (LNKSTS.RATE): an eighth of its raw bit rate. -/
def laneRate (code : Nat) : Nat := [625, 1250, 2000, 4000, 8000, 16000, 32000, 8000].getD code 625

/-- The time a message of `len` bytes takes on a port, rounded up (R176). -/
def Dev.txTime (d : Dev) (p len : Nat) : Nat :=
  let r := laneRate (d.get (R.PU.LNKSTS.RATE p)) * 2 ^ d.get (R.PU.LNKSTS.LWIDTH p)
  (len * 2000 + r - 1) / r

/-! ### Selection (R169 to R172) -/

/-- A CXL.io message (R80). -/
def MsgKind.isIo : MsgKind → Bool
  | .ioRead | .ioWrite | .ioCplData | .ioCpl | .atomic => true
  | _ => false

/-- Two messages have one source (R79): the slice is part of it. The device's own are of one source among its posted writes (R80). -/
def Msg.sameSource (e m : Msg) : Bool := (m.src != .dev || (e.kind.isIo && m.kind.isIo)) && e.src.origin == m.src.origin && e.slice == m.slice

/-- A CXL.io request to a host: its target is that host's memory, not an extent. -/
def Msg.hostward (m : Msg) : Bool := m.kind.isIo && m.x.isNone

/-- Two requests access a common 64-B line of one target: of an extent, by their pool addresses, whatever port they leave on; of a host, by port and address. -/
def Msg.sameLine (e m : Msg) : Bool :=
  let meets := fun (a b : Nat) => a / 64 ≤ (b + m.span - 1) / 64 && b / 64 ≤ (a + e.span - 1) / 64
  if e.hostward || m.hostward then e.hostward && m.hostward && e.egress == m.egress && meets e.addr m.addr else meets e.pool m.pool

/-- A CXL.io completion. -/
def Msg.isCpl (m : Msg) : Bool := m.kind == .ioCpl || m.kind == .ioCplData

/-- The completion of a part of a split CXL.io read waits for the completions of the parts before it (R146). -/
def Dev.partsWait (d : Dev) (m : Msg) : Bool :=
  let before := fun (src : Src) (tag part : Nat) => src == m.src && tag == m.tag && decide (part < m.part)
  decide (0 < m.part) && m.isCpl &&
    (d.buf.msgs.any (fun e => before e.src e.tag e.part && !(e.isCpl && e.hdrLeft)) || d.port.any (fun e => e.2.outs.any (fun o => before o.msg.src o.msg.tag o.msg.part)) ||
      d.dirs.any (fun (e : Nat × DirRt) => e.2.trks.any (fun t => before t.req.src t.req.tag t.req.part) || (e.2.park ++ e.2.retd).any (fun q => before q.req.src q.req.tag q.req.part)))

/-- R79 and R80 make the message wait: an earlier one of its source to a line of its target is still in the buffer, or an earlier CXL.io
message of its source to its port has not left. What the directory sends for a request waits for no message it holds itself: its parking keeps
that order. -/
def Dev.orderWaits (d : Dev) (m : Msg) : Bool :=
  d.buf.msgs.any (fun e => e.id < m.id && e.sameSource m && (!m.home || e.stage == 1) && e.stage != 3 && !(e.stage == 2 && e.gathers && e.tag == m.tag) &&
    ((e.kind.isReq && m.kind.isReq && e.sameLine m) ||
      (e.egress == m.egress && e.stage != 2 && e.kind.isIo && m.kind.isIo && !e.hdrLeft && !(e.isCpl && m.isCpl && e.tag == m.tag && m.part < e.part))))

/-- A message whose header has left still waits for its data on this egress link (R75). -/
def Dev.linkWaits (d : Dev) (p : Nat) : Bool := d.buf.msgs.any (fun e => e.egress == p && e.hdrLeft && !e.dataIn)

/-- The lowest free outstanding-request entry of the device from the next one on (R86). -/
def Dev.freeEntry (d : Dev) : Option Nat :=
  ((List.range 4096).map (fun k => (d.buf.nextIdx + k) % 4096)).find? (fun i => !d.port.any (fun e => e.2.outs.any (fun o => o.idx == i)))

/-- A request sent on a MEM or XEPIN port carries a tag of the device (R86). -/
def Dev.tagged (d : Dev) (p : Nat) (m : Msg) : Bool := (d.isMem p || d.isXep p) && m.kind.isReq

/-- A request that is answered waits while all 4,096 entries are in use (log entry 147). -/
def Dev.hasEntry (d : Dev) (p : Nat) (m : Msg) : Bool := !d.tagged p m || m.kind == .ioWrite || d.freeEntry.isSome

/-- A message that may leave now: joined, its header written and released (R78), its order, its link's data and the request entries not in the way. -/
def Dev.eligible (d : Dev) (p : Nat) (m : Msg) : Bool :=
  m.egress == p && m.stage == 1 && !m.hdrLeft && m.hdr && m.unrel == 0 && (!m.saf || m.dataIn) && d.hasEntry p m && !d.orderWaits m && !d.partsWait m && !(m.hasData && d.linkWaits p) && d.mayFrame p m &&
    (m.cls == .scp || d.gateOpen p m.cls.idx (d.txTime p m.cost))

/-- The eligible head of a leaf of class c (R163): its queue's first message, if eligible. -/
def Dev.leafHead (d : Dev) (p leaf c : Nat) : Option Msg :=
  match d.queueOf p (if leaf = 512 then none else some leaf) c with
  | [] => none
  | m :: _ => if d.eligible p m then some m else none

/-- The slice is committed (R167). -/
def Dev.committed (d : Dev) (s : Nat) : Bool :=
  let e := d.police s
  e.cir ≠ 0 && 0 ≤ ((d.comB s).refill e.cir e.cbs d.ns).level

/-- A list brought up to date: what is gone is off it, what is new joins at the tail. -/
def refresh (old now : List Nat) : List Nat := old.filter (fun l => now.contains l) ++ now.filter (fun l => !old.contains l)

/-- Deficits of those that join a list are 0 (R170). -/
def freshDefs (key : Nat → Nat) (old now : List Nat) (defs : Tbl Nat) : Tbl Nat :=
  (now.filter (fun l => !old.contains l)).foldl (fun t l => Tbl.set t 0 (key l) 0) defs

/-- The leaves of a class with messages in them, oldest first message first. -/
def Dev.leavesOf (d : Dev) (p c : Nat) : List Nat :=
  ((d.buf.msgs.filter (fun m => m.egress == p && m.stage == 1 && !m.hdrLeft && m.cls.idx == c)).map (fun m => m.slice.getD 512)).eraseDups

/-- The active list of a class (R170). -/
def Dev.activeNow (d : Dev) (p c : Nat) : List Nat := refresh (Tbl.get d.sched.active [] (4 * p + c)) (d.leavesOf p c)

/-- The classes of SC0 to SC3 with messages at a port. -/
def Dev.classesOf (d : Dev) (p : Nat) : List Nat :=
  ((d.buf.msgs.filter (fun m => m.egress == p && m.stage == 1 && !m.hdrLeft && m.cls.idx < 4)).map (fun m => m.cls.idx)).eraseDups

/-- What a visit decides: the leaf and message chosen, the order and deficits after. -/
structure Pick where
  leaf : Nat
  msg : Msg
  order : List Nat
  defs : Tbl Nat
  deriving DecidableEq, Repr

/-- Visits of the leaves of a class (R170). `cand`: a leaf's eligible head if it is a candidate of the pass. `visit`: the leaf under visit. -/
def leafLoop (num : Nat → Nat) (qc : Nat → Nat × Nat) (cand : Nat → Option Msg) : Nat → Option Nat → List Nat → Tbl Nat → Option Pick
  | 0, _, _, _ => none
  | fuel + 1, some l, order, defs =>
    match cand l with
    | some m =>
      if m.cost ≤ Tbl.get defs 0 (num l) then some ⟨l, m, order, Tbl.set defs 0 (num l) (Tbl.get defs 0 (num l) - m.cost)⟩
      else leafLoop num qc cand fuel none (order.erase l ++ [l]) defs
    | none => leafLoop num qc cand fuel none (order.erase l ++ [l]) defs
  | fuel + 1, none, order, defs =>
    match order.find? (fun l => (cand l).isSome) with
    | none => none
    | some l =>
      let df := min (Tbl.get defs 0 (num l) + (qc l).1) (qc l).2
      leafLoop num qc cand fuel (some l) order (Tbl.set defs 0 (num l) df)

/-- Which passes a leaf is a candidate in. -/
def Dev.cand (d : Dev) (p c : Nat) (comPass : Bool) (leaf : Nat) : Option Msg :=
  if comPass ∧ leaf ≠ 512 ∧ !d.committed leaf then none else d.leafHead p leaf c

/-- The choice within a class. -/
def Dev.pickLeaf (d : Dev) (p c : Nat) (comPass : Bool) : Option Pick :=
  let order := d.activeNow p c
  let defs := freshDefs (fun l => leafNum p l c) (Tbl.get d.sched.active [] (4 * p + c)) order d.sched.leafDef
  let v := match Tbl.get d.sched.leafVisit 0 (4 * p + c) with
    | 0 => none
    | n + 1 => if order.contains n then some n else none
  leafLoop (fun l => leafNum p l c) (fun l => d.leafQC l c) (d.cand p c comPass) (140 * (order.length + 2)) v order defs

/-- A class shaper admits its class (R171). -/
def Dev.clsOpen (d : Dev) (p c : Nat) : Bool :=
  let e := d.clsE p c
  e.rate == 0 || 0 ≤ ((d.clsB p c).refill e.rate e.burst d.ns).level

/-- A class node's quantum and cap (R171). -/
def Dev.clsQC (d : Dev) (p c : Nat) : Nat × Nat :=
  let q := max (d.clsE p c).weight 1 * 256
  (q, max q 4160)

/-- Visits of the class nodes (R171): the class, its choice, the class order and deficits after. -/
def clsLoop (qc : Nat → Nat × Nat) (pick : Nat → Option Pick) (key : Nat → Nat) : Nat → Option Nat → List Nat → Tbl Nat →
    Option (Nat × Pick × List Nat × Tbl Nat)
  | 0, _, _, _ => none
  | fuel + 1, some c, order, defs =>
    match pick c with
    | some k =>
      if k.msg.cost ≤ Tbl.get defs 0 (key c) then some (c, k, order, Tbl.set defs 0 (key c) (Tbl.get defs 0 (key c) - k.msg.cost))
      else clsLoop qc pick key fuel none (order.erase c ++ [c]) defs
    | none => clsLoop qc pick key fuel none (order.erase c ++ [c]) defs
  | fuel + 1, none, order, defs =>
    match order.find? (fun c => (pick c).isSome) with
    | none => none
    | some c => clsLoop qc pick key fuel (some c) order (Tbl.set defs 0 (key c) (min (Tbl.get defs 0 (key c) + (qc c).1) (qc c).2))

/-- One pass (R169): the choice and the scheduler's state after it. -/
def Dev.onePass (d : Dev) (p : Nat) (comPass : Bool) : Option (Nat × Pick × Sched) :=
  let pick := fun c => if d.clsOpen p c then d.pickLeaf p c comPass else none
  let key := fun c => 4 * p + c
  let fin := fun (c : Nat) (k : Pick) (s : Sched) =>
    { s with active := Tbl.set s.active [] (key c) k.order, leafDef := k.defs, leafVisit := Tbl.set s.leafVisit 0 (key c) (k.leaf + 1) }
  let strict := if d.is (R.SCH.PSHP.CLS_MODE p) then pick 0 else none
  match strict with
  | some k => some (0, k, fin 0 k d.sched)
  | none =>
    let was := Tbl.get d.sched.order [] p
    let all := refresh was (d.classesOf p)
    let defs := freshDefs key was all d.sched.clsDef
    let order := all
    let order := if d.is (R.SCH.PSHP.CLS_MODE p) then order.filter (· != 0) else order
    let v := match Tbl.get d.sched.clsVisit 0 p with
      | 0 => none
      | n + 1 => if order.contains n then some n else none
    match clsLoop (d.clsQC p) pick key 200 v order defs with
    | none => none
    | some (c, k, o, df) =>
      let o := all.filter (fun c => !order.contains c) ++ o
      some (c, k, { fin c k d.sched with order := Tbl.set d.sched.order [] p o, clsVisit := Tbl.set d.sched.clsVisit 0 p (c + 1), clsDef := df })

/-- The port shaper's level now. -/
def Dev.portLevel (d : Dev) (p : Nat) : Bucket := (d.prtB p).refill (d.get (R.SCH.PSHP.RATE p)) (d.get (R.SCH.PBURST.BURST p)) d.ns

/-- Debit the port shaper: never below minus its effective burst (R165). -/
def Dev.debitPort (d : Dev) (p len : Nat) : Dev :=
  if d.get (R.SCH.PSHP.RATE p) = 0 then d
  else
    let b := d.portLevel p
    d.setPrtB p { b with level := max (b.level - (len * 1000 : Nat)) (- bktCap (d.get (R.SCH.PBURST.BURST p))) }

/-- Debit a class shaper. -/
def Dev.debitCls (d : Dev) (p c len : Nat) : Dev :=
  let e := d.clsE p c
  if e.rate = 0 then d
  else
    let b := (d.clsB p c).refill e.rate e.burst d.ns
    d.setClsB p c { b with level := b.level - (len * 1000 : Nat) }

/-- Debit a slice's committed bucket (R167). -/
def Dev.debitCom (d : Dev) (s len : Nat) : Dev :=
  let e := d.police s
  let b := (d.comB s).refill e.cir e.cbs d.ns
  d.setCom s { b with level := b.level - (len * 1000 : Nat) }

/-! ### What leaves -/

/-- The channel of an egress port. -/
def Dev.egressChan (d : Dev) (p : Nat) : Chan :=
  if d.role p = 4 then .mirror else if d.role p = 3 then .xep p else if d.role p = 2 then .mem p else .host p

/-- What a message is on its CXL egress link: data that is poisoned leaves poisoned (R77, R88). -/
def Dev.wireOp (d : Dev) (m : Msg) : Op :=
  if m.op == .memWr then (if m.poison then .memWrPoison else .memWr)
  else if m.op == .memData then (if m.poison then .memDataPoison else .memData)
  else if m.op == .ioCpl then (if m.poison then .ioCplPoison else .ioCpl)
  else if m.op != .msg then m.op
  else if d.isMem m.egress then
    match m.kind with
    | .memRead => .memRd
    | .memWrite | .memWb => if m.poison then .memWrPoison else .memWr
    | .atomic => .atomicOp
    | _ => .ioReq
  else if m.poison then .msgPoison else .msg

/-- A request takes a free outstanding-request entry of the device; its tag names the port's epoch and the entry (R86). A posted write is not answered: its entry is
free again at once. -/
def Dev.outReq (d : Dev) (p : Nat) (m : Msg) : Dev × Nat :=
  let e := d.get (R.PU.EPOCH.EPOCH p) % 16
  let i := d.freeEntry.getD d.buf.nextIdx
  let d := { d with buf := { d.buf with nextIdx := (i + 1) % 4096 } }
  (if m.kind = .ioWrite then d else d.updPrt p (fun r => { r with outs := r.outs ++ [⟨i, e, m, false⟩] }), e * 4096 + i)

/-- The next message of a queue becomes its head now (R359). -/
def Dev.newHead (d : Dev) (m : Msg) : Dev :=
  match d.queueOf m.egress m.slice m.cls.idx with
  | [] => d
  | h :: _ => d.updMsg h.id (fun x => { x with since := d.time.cclk })

/-- In P1 the last write a MEM port completes is kept (R219); a posted one is done when it is sent. -/
def Dev.witnessOf (d : Dev) (p : Nat) (m : Msg) : Dev :=
  if d.get R.PRS.STATE.SEQ = 3 ∧ d.isMem p then
    let w : Witness := if m.kind = .ioWrite then { addr := m.addr, n := m.bytes - 16, data := m.args.getD 2 0, be := 2 ^ (m.bytes - 16) - 1 }
      else { addr := m.addr, n := m.bytes - 16, data := m.args.getD 1 0, be := m.args.getD 2 0 }
    { d with prs := { d.prs with witness := Tbl.put d.prs.witness p w } }
  else d

/-- A message leaves (R66, R75, R86): its header is sent; it is released at once when its data is all in and it is not kept. -/
def Dev.leave (d : Dev) (p : Nat) (m : Msg) : Dev :=
  let asks := d.tagged p m && m.kind != .ioWrite
  let (d, tag) := if d.tagged p m then d.outReq p { m with hdrLeft := true } else (d, m.tag)
  let d := if d.isXep p then d.frameOut p m tag
    else d.emit (d.egressChan p) (d.wireOp m) ([m.kind.code, tag, bit m.poison] ++ (if m.args.isEmpty then [m.addr, m.bytes, m.ask] else m.args))
  let d := if m.kind = .ioWrite then d.witnessOf p m else d
  let d := ((d.count (ctrPu p) 0x02 (some m.cls) 1).count (ctrPu p) 0x04 (some m.cls) m.cost).capture 1 p { m with tag := tag }
  let d := if m.cls = .scp then d.addMod (R.CP.SCPCNT.VALUE (cpOf p)) 1 else d
  let d := if m.dataIn ∧ !d.keeps m then d.release m asks
    else d.updMsg m.id (fun x => { x with hdrLeft := true, tag := if d.tagged p m then tag else x.tag, poison := m.poison, stomp := m.stomp, flaw := if m.dataIn then x.flaw else 0 })
  d.newHead m

/-- The compartment whose banks hold a message's first cell. -/
def Msg.bankCp (m : Msg) : Nat := (m.cells.headD 0) / 65536

/-- What reading the message's words finds (R88, R302): the worse of what the words hold and `err`. -/
def Msg.readErr (m : Msg) (err : Ecc) : Ecc :=
  if m.flaw = 2 ∨ m.flaw = 4 ∨ err = .double then .double else if m.flaw ≠ 0 ∨ err = .single then .single else .none

/-- A selected message is read and leaves (R88): an uncorrectable error poisons its data, or discards it. -/
def Dev.sendMsg (d : Dev) (p : Nat) (m : Msg) (err : Ecc) : Dev :=
  match m.readErr err with
  | .none => d.leave p m
  | .single => (d.bufCe m.bankCp).leave p m
  | .double =>
    let d := d.raise (.buf m.bankCp) 0
    if m.hasData ∧ m.flaw ≠ 4 then d.leave p (if d.isXep p then { m with stomp := true, flaw := 0 } else { m with poison := true, flaw := 0 }) else ((d.release m false).postLost m).newHead m

/-- IDE_REQ lets traffic through only with both streams secure (R58). -/
def Dev.ideOk (d : Dev) (p : Nat) : Bool := !d.is (R.PU.CFG.IDE_REQ p) || (d.is (R.PU.IDESTS.CM_SEC p) && d.is (R.PU.IDESTS.IO_SEC p))

/-- An egress port may read its queues: up, not held (R84), not in L1. -/
def Dev.mayTransmit (d : Dev) (p : Nat) : Bool := d.isUp p && d.ideOk p && (d.prt p).hold == holdService && !(d.prt p).recov && decide (d.get (R.PU.LNKSTS.PM p) < 2)

/-- A leaf or a class that a selection has emptied leaves its active list, its deficit is 0 (R170, R171). -/
def Dev.emptied (d : Dev) (p c leaf : Nat) : Dev :=
  let k := 4 * p + c
  if (d.leavesOf p c).contains leaf then d
  else
    let s := { d.sched with active := Tbl.upd d.sched.active [] k (·.erase leaf), leafDef := Tbl.set d.sched.leafDef 0 (leafNum p leaf c) 0, leafVisit := Tbl.set d.sched.leafVisit 0 k 0 }
    let s := if (d.classesOf p).contains c then s
      else { s with order := Tbl.upd s.order [] p (·.erase c), clsDef := Tbl.set s.clsDef 0 k 0, clsVisit := if Tbl.get s.clsVisit 0 p = c + 1 then Tbl.set s.clsVisit 0 p 0 else s.clsVisit }
    { d with sched := s }

/-- EGRESS_SELECT (R169): SCP first, then the committed and the excess pass. From P0 the oldest eligible message leaves (R214). A message of an old generation that
comes up is discarded (R149). -/
def Dev.select (d : Dev) (p : Nat) (err : Ecc) : Dev :=
  if !d.mayTransmit p then d
  else
    match d.buf.msgs.find? (fun m => m.cls == .scp && d.eligible p m) with
    | some m => if d.stale m then d.dropOld m else (d.debitPort p m.cost).sendMsg p m err
    | none =>
      if d.saving then
        match (d.buf.msgs.filter (fun m => d.eligible p m)).foldl (fun (b : Option Msg) m => match b with
            | none => some m
            | some x => if m.id < x.id then some m else some x) none with
        | some m => if d.stale m then d.dropOld m else d.sendMsg p m err
        | none => d
      else if d.get (R.SCH.PSHP.RATE p) ≠ 0 ∧ (d.portLevel p).level < 0 then d.addSat (R.CP.SHPWAIT.VALUE (cpOf p)) 1
      else
        match d.onePass p true with
        | some (c, k, sc) =>
          if d.stale k.msg then (d.dropOld k.msg).emptied p c k.leaf else
          let d := (({ d with sched := sc }.debitPort p k.msg.cost).debitCls p c k.msg.cost)
          let d := if k.leaf = 512 then d else (d.debitCom k.leaf k.msg.cost).count (ctrSl k.leaf) 0x32 none k.msg.cost
          (d.sendMsg p k.msg err).emptied p c k.leaf
        | none =>
          match d.onePass p false with
          | some (c, k, sc) =>
            if d.stale k.msg then (d.dropOld k.msg).emptied p c k.leaf else
            let d := (({ d with sched := sc }.debitPort p k.msg.cost).debitCls p c k.msg.cost)
            let d := if k.leaf = 512 then d else d.count (ctrSl k.leaf) 0x33 none k.msg.cost
            (d.sendMsg p k.msg err).emptied p c k.leaf
          | none => d

/-! ### Configuration (R171 to R177) -/

/-- CLASS_ENTRY_COMMIT (R171, R173, R174): the bytes last written take effect. -/
def Dev.clsCommit (d : Dev) (p c : Nat) : Dev :=
  let e := Tbl.get d.sched.written (clsDef c) (4 * p + c)
  let o := d.clsE p c
  let d := d.setClsB p c ((d.clsB p c).recfg o.rate o.burst e.burst d.ns d.inServiceMode e.init)
  let d := { d with classes := Tbl.set d.classes (clsDef c) (4 * p + c) e }
  { d with sched := { d.sched with clsDef := Tbl.upd d.sched.clsDef 0 (4 * p + c) (fun v => min v (d.clsQC p c).2) } }

/-- PORT_SHAPER_WRITE (R173, R178): SCH.PSHP or SCH.PBURST of an existing port. -/
def Dev.shaperWrite (d : Dev) (p : Nat) (burst : Bool) (v : Nat) : Dev :=
  if !(d.prt p).ex then d
  else
    let rate := d.get (R.SCH.PSHP.RATE p)
    let br := d.get (R.SCH.PBURST.BURST p)
    let init := if burst then d.is (R.SCH.PSHP.INIT p) else flag v 21
    let d := d.setPrtB p ((d.prtB p).recfg rate br (if burst then bits v 0 24 else br) d.ns d.inServiceMode init)
    if burst then d.set (R.SCH.PBURST.BURST p) (bits v 0 24)
    else ((d.set (R.SCH.PSHP.RATE p) (bits v 0 20)).put (R.SCH.PSHP.CLS_MODE p) (flag v 20)).put (R.SCH.PSHP.INIT p) (flag v 21)

/-- GATE_LIST_ENABLE (R176): the operational bank must be legal. -/
def Dev.gateEnable (d : Dev) (p : Nat) : Dev :=
  if !(d.prt p).ex ∨ d.is (R.SCH.GCTL.EN p) then d
  else if (d.gcl (d.operBank p)).legal then (d.on (R.SCH.GCTL.EN p)).cfgChange
  else d.raise (.sch (cpOf p)) 0

/-- The other bank becomes operational: OPER changes, SWAP clears (R177). -/
def Dev.swapDone (d : Dev) (p : Nat) : Dev :=
  let d := (d.set (R.SCH.GCTL.OPER p) (1 - d.get (R.SCH.GCTL.OPER p))).off (R.SCH.GCTL.SWAP p)
  { d with sched := { d.sched with swap := Tbl.erase d.sched.swap p } }.addMod (R.CP.GCLCNT.VALUE (cpOf p)) 1

/-- The start of the new bank (R177): the smallest BASE + n x CYCLE at least `t`. -/
def swapTime (base cycle t : Nat) : Nat := if t ≤ base then base else base + (t - base + cycle - 1) / cycle * cycle

/-- OPER is CAT: a swap changes the configuration (R229); in a pair it is mirrored as the device's own change (R280). -/
def Dev.mirrorSwap (d : Dev) (p : Nat) : Dev :=
  if d.inPair then d.submit (.dev [{ loc := 0x240008 + 0x400 * p, len := 4, bytes := bit (d.is (R.SCH.GCTL.EN p)) + 2 * d.get (R.SCH.GCTL.OPER p) }]) else d.cfgChange

/-- GATE_LIST_SWAP (R177). -/
def Dev.gateSwap (d : Dev) (p : Nat) : Dev :=
  if !(d.prt p).ex ∨ d.is (R.SCH.GCTL.SWAP p) then d
  else if !(d.gcl (2 * p + (1 - d.get (R.SCH.GCTL.OPER p)))).legal then d.raise (.sch (cpOf p)) 0
  else if !d.is (R.SCH.GCTL.EN p) then (d.swapDone p).mirrorSwap p
  else
    let g := d.gcl (d.operBank p)
    { d with sched := { d.sched with swap := Tbl.put d.sched.swap p (swapTime g.base g.cycle (d.ft + 100)) } }.on (R.SCH.GCTL.SWAP p)

/-- BANK_SWAP (R177): the old bank stays operational until fabric time reaches the swap's time. -/
def Dev.bankSwap (d : Dev) (p : Nat) : Dev :=
  if d.is (R.SCH.GCTL.SWAP p) ∧ Tbl.get d.sched.swap 0 p ≤ d.ft then (d.swapDone p).mirrorSwap p else d

end Sys2Proof.Machine
end

