-- ==== Sys2Proof/Machine/Skidder.lean ====
section
/-! DEFINITION. The Skidder (R181 to R208): queues, descriptors, bursts, triggers, completions, and the scrub of extents (R151, R152). -/
namespace Sys2Proof.Machine

/-- In a pair the SECONDARY forwards doorbell-page writes to the PRIMARY (R275). -/
def Dev.forwards (d : Dev) : Bool := d.inPair && d.is R.PAIR.STATE.ROLE

/-- A doorbell-page write of slice s forwarded to the partner (R275, R278). -/
def Dev.fwdWrite (d : Dev) (s off v : Nat) : Dev := (d.sendMir { mtype := 9, seq := d.cfgSeq } (leBytes (cat [(s, 16), (off, 16), (v, 32)]) 8)).addMod R.PAIR.FWDCNT.VALUE 1

/-- A queue entry without its progress (R280). -/
def QueueE.setup (q : QueueE) : QueueE := { q with head := 0, tail := 0, okSeq := 0, lastStatus := 0, fphase := true, abort := false, resume := false, rej := false }

/-- What a PRIMARY changes in a queue's entry other than its progress is mirrored through the commit engine (R280, R282). -/
def Dev.mirrorQueue (old d : Dev) (q : Nat) : Dev :=
  if d.inPair && (old.qe q).setup != (d.qe q).setup then d.submit (.dev [{ loc := 0x1050000 + 64 * q, len := 64, bytes := packQueue (d.qe q).setup }]) else d

/-- A queue command on this device: on the SECONDARY of a pair a tenant queue's goes to the PRIMARY. -/
def Dev.onQueue (d : Dev) (q off v : Nat) (f : Dev → Dev) : Dev :=
  if d.forwards && isTenant q then d.fwdWrite (qSlice q) (0x100 * (q % 2) + off) v else d.mirrorQueue (f d) q

/-- A corrected error in descriptor or fragment storage (R208). -/
def Dev.dmvCe (d : Dev) : Dev :=
  let d := d.addSat R.DMV.STS.CE_CNT 1
  if d.get R.DMV.CTL.CE_THRESH ≤ d.get R.DMV.STS.CE_CNT then d.raise .dmv 12 else d

/-- Injection on a descriptor or fragment storage write (R302, DMV): 0 none, 1 corrected, 2 uncorrectable; the channels after counting. -/
def Dev.dmvInject (d : Dev) : Nat × Tbl InjCh :=
  let hit := fun (c : InjCh) => c.armed && c.chk == 4
  let hs := (d.inj.filter (fun e => hit e.2)).map (·.2)
  (if hs.any (·.double) then 2 else if hs.isEmpty then 0 else 1, d.inj.map (fun (k, c) => if hit c then (k, c.count) else (k, c)))

/-! ### Interrupts and completions (R186, R187, R201 to R204) -/

/-- The interrupt of a queue (R187): vector i of the slice, or its owner's Skidder event. None is sent from P0 (R215). -/
def Dev.queueIrq (d : Dev) (q : Nat) : Dev :=
  if d.saving then d
  else if isTenant q then d.sliceVec (.skid q) .sc2 0 (qSlice q) (q % 2)
  else if d.sqOwner q < 8 then d.updRing (d.sqOwner q) (fun r => { r with evSq := if r.evSq.contains (q - 1024) then r.evSq else r.evSq ++ [q - 1024] })
  else d

/-- The memory a queue's rings lie in (R182). -/
def Dev.queueMem (d : Dev) (q : Nat) : Chan :=
  if isTenant q then .hostMem (d.sl (qSlice q)).port else if d.sqOwner q < 8 then .prinMem (d.sqOwner q) else .curMem

/-- A write of `n` bytes there: of a tenant queue a posted write to its slice's port (R187); other memory has no port unit before it (log entry 160). -/
def Dev.queueWrite (d : Dev) (q : Nat) (op : Op) (addr n data : Nat) : Dev :=
  if isTenant q then d.hostWrite (.skid q) (qSlice q) .sc2 0 op addr (d.pasidOf (qSlice q)) n data
  else d.emit (d.queueMem q) op (addr :: leBytes data n)

/-- FAIL_OFF (R204): the first byte not performed. -/
def ADesc.failOff (a : ADesc) : Nat :=
  let c := [a.fail.map (·.1), (a.refused.head?).map (·.1), if a.off < a.d.len then some a.off else none].filterMap id
  c.foldl min a.d.len

/-- RESIDUE (R204): refused bytes, and every byte from the first failing burst or the first not issued. -/
def ADesc.residue (a : ADesc) : Nat :=
  let cut := min (match a.fail with
    | some f => f.1
    | none => a.d.len) a.off
  (a.refused.filter (fun r => r.1 < cut)).foldl (fun n r => n + r.2) 0 + (a.d.len - cut)

/-- The status when the bursts have ended and the reads back have been judged (R202, R204). -/
def ADesc.final (a : ADesc) : Nat :=
  match a.fail with
  | some f => f.2
  | none =>
    if a.aborted then sAborted
    else if !a.refused.isEmpty then sProt
    else if a.d.op = 4 ∧ a.d.chk ∧ (a.crc ^^^ 0xFFFFFFFF) ≠ a.d.pattern % 2 ^ 32 then sSrcCrc
    else if a.rbFail then sRbFail
    else if a.d.op = 4 ∧ a.wrote ∧ a.dcrc ≠ a.crc then sDstCrc
    else 0

/-- The completion of a finished descriptor (R202). One that failed its checks has moved nothing. -/
def ADesc.cpl (a : ADesc) (st : Nat) : SCpl :=
  { q := a.q, slot := a.slot, tag := a.d.tag, status := st, phase := a.d.phase, srcCrc := if a.d.op = 4 ∧ 0 < a.off then a.crc ^^^ 0xFFFFFFFF else 0, residue := if st = 0 then 0 else a.residue, failOff := if st = 0 then a.d.len else a.failOff, irq := a.d.irq, gen := a.gen }

/-- Write a completion: the log entries, the entry, the head write-back, the interrupt, in this order (R187). HEAD and the counts move; a status other than OK stops
the queue (R188). -/
def Dev.writeCpl (d : Dev) (c : SCpl) : Dev :=
  let q := c.q
  let e := d.qe q
  let h := (e.head + 1) % e.ents
  let d := d.updQr q (fun r => { r with hphase := if h = 0 then !r.hphase else r.hphase, why := if r.why = 0 ∧ c.status ≠ sAborted then c.status else r.why })
  let d := d.updQe q (fun e => { e with head := h, okSeq := if c.status = 0 then (e.okSeq + 1) % 2 ^ 32 else e.okSeq, lastStatus := if c.status = 0 then e.lastStatus else c.status })
  let ca := e.cpl + 32 * c.slot
  let d := if isTenant q then (d.logPage (.skid q) (qSlice q) ca 0).logPage (.skid q) (qSlice q) e.hwb 0 else d
  let d := d.queueWrite q .cplEntry ca 32 (packSCpl c)
  let d := d.queueWrite q .headWb e.hwb 8 (packHwb h (d.qGen q) (d.qe q).okSeq)
  let d := if c.irq ∨ c.status ≠ 0 then d.queueIrq q else d
  let d := d.addMod R.DMV.DESCCNT.VALUE 1
  let d := if c.status = sAborted then d.addSat R.DMV.ABTCNT.VALUE 1 else if c.status = 0 then d else d.addSat R.DMV.ERRCNT.VALUE 1
  if c.status ≠ 0 ∧ (d.qe q).st = qActive then d.beginStop q kError else d

/-- A completion goes to the partner with the head write-back that follows it (R278, R285). -/
def Dev.sendCpl (d : Dev) (mid : Nat) (c : SCpl) : Dev :=
  let e := d.qe c.q
  let h := packHwb ((c.slot + 1) % e.ents) (d.qGen c.q) ((e.okSeq + bit (c.status == 0)) % 2 ^ 32)
  d.sendMir { mtype := 2, mid := mid, seq := d.cfgSeq } (leBytes c.q 8 ++ leBytes (packSCpl c) 32 ++ leBytes h 8)

/-! ### Armed descriptors and the ready list (R191, R196, R199) -/

/-- Operations that read a source, that write a destination. -/
def Desc.usesSrc (x : Desc) : Bool := x.op == 1 || x.op == 4
def Desc.usesDst (x : Desc) : Bool := 1 ≤ x.op && x.op ≤ 4

/-- The fragment tables that are read (R191): those in use whose place and number of entries pass the checks before it (R192). -/
def Desc.readsSrc (x : Desc) : Bool := x.usesSrc && x.srcInd && 0 < x.srcNfrag && x.srcNfrag ≤ 256 && x.src % 64 == 0
def Desc.readsDst (x : Desc) : Bool := x.usesDst && x.dstInd && 0 < x.dstNfrag && x.dstNfrag ≤ 256 && x.dst % 64 == 0

/-- The fragment tables a descriptor needs are here, or it ends without them. -/
def FDesc.tables (f : FDesc) : Bool :=
  f.ue || !f.pass || f.fragErr || ((!f.d.readsSrc || f.srcFr.isSome) && (!f.d.readsDst || f.dstFr.isSome))

/-- The descriptor is armed (R196): the first not started, its fence passed. -/
def Dev.armed (d : Dev) (q : Nat) (f : FDesc) : Bool :=
  (d.qe q).st == qActive && f.tables && !d.saving && (!f.d.fence || !d.skid.acts.any (fun a => a.q == q))

/-- The queue's first fetched descriptor is armed. -/
def Dev.headArmed (d : Dev) (q : Nat) : Bool := ((d.qr q).fetched.head?).any (fun f => d.armed q f)

/-- The ready list kept (R199): a queue joins at its tail with credit 0 as its descriptor becomes armed, and is off it while none is. -/
def Dev.arm (d : Dev) (q : Nat) : Dev :=
  let l := d.skid.ready
  let l := if !d.headArmed q then l.filter (fun x => x.1 != q) else if l.any (fun x => x.1 == q) then l else l ++ [(q, 0)]
  { d with skid := { d.skid with ready := l } }

/-- Write the completions of a queue that are due, in slot order (R186). In a pair the PRIMARY first sends each as a CPL message and waits
for its MACK (R285). None is written from P0 (R215); one of an old generation is discarded (R206). -/
def Dev.pumpCpl : Nat → Dev → Nat → Dev
  | 0, d, _ => d
  | n + 1, d, q =>
    if d.saving then d else
    match d.act q (d.qe q).head with
    | none => d
    | some a =>
      match a.status with
      | none => d
      | some st =>
        if isTenant q ∧ a.gen ≠ d.qGen q then Dev.pumpCpl n ((d.dropAct q a.slot).qDiscard q) q
        else if d.inPair ∧ !d.is R.PAIR.STATE.ROLE then
          if d.skid.cplWait.any (fun w => w.2.q == q) then d
          else
            let mid := d.commit.next
            let c := a.cpl st
            let d := { d with commit := { d.commit with next := (mid + 1) % 65536 }, skid := { d.skid with cplWait := d.skid.cplWait ++ [(mid, c)] } }
            d.sendCpl mid c
        else Dev.pumpCpl n ((d.dropAct q a.slot).writeCpl (a.cpl st)) q

/-- All completions of a queue that are due; a fence may have passed with them. -/
def Dev.cpls (d : Dev) (q : Nat) : Dev := (Dev.pumpCpl (d.skid.acts.length + 1) d q).arm q

/-- A completion the partner need not confirm, or has (R285), is written; those behind it follow. None is from P0 (R215), none of an old generation (R206). -/
def Dev.confirmed (d : Dev) (c : SCpl) : Dev :=
  if d.saving then d
  else
    let d := d.dropAct c.q c.slot
    (if isTenant c.q ∧ c.gen ≠ d.qGen c.q then d.qDiscard c.q else d.writeCpl c).cpls c.q

/-! ### Accesses (R71, R193, R194) -/

/-- The worst-case cells of an access (R71, log entry 21): its requests, the response held, its data. -/
def accCells (n : Nat) (reads writes : Bool) : Nat :=
  let c := (n + 255) / 256
  (if reads then 1 + max 2 c else 0) + (if writes then 1 + c else 0)

/-- A request of a slice is admitted (R70, R71). -/
def Dev.admitTenant (d : Dev) (s w : Nat) : Bool :=
  let inPool := ((List.range 64).filter (fun q => d.isHost q && (d.slicesOf q).any (fun t => 256 < d.buf.chg t + d.inflight q))).foldl (fun n q => n + d.inflight q) 0
  d.buf.chg s + w ≤ d.sliceLimit && (d.buf.chg s + w ≤ 256 || inPool + w ≤ d.buf.poolFree)

/-- A request of a queue is admitted: for its slice, or from the 512 cells held for system queues (R194). -/
def Dev.admitAcc (d : Dev) (q w : Nat) : Bool := if isTenant q then d.admitTenant (qSlice q) w else decide (d.sysCells + w ≤ 512)

/-- An access begins: it is numbered and its worst case charged. -/
def Dev.addAcc (d : Dev) (b : SkAcc) : Dev :=
  let d := { d with skid := { d.skid with nextId := (d.skid.nextId + 1) % 65536, accs := d.skid.accs ++ [b] } }
  if isTenant b.q then d.charge (qSlice b.q) b.cells else d

/-- A message of an access takes its way: one of a slice to its policer, one of a system queue past it (R194). -/
def Dev.sendAcc (d : Dev) (m : Msg) : Dev :=
  let i := d.buf.nextId
  let d := d.enq m
  if m.slice.isSome then d else (d.buf.msgs.find? (fun x => x.id == i)).elim d d.passed

/-- The read or the write of an access: NCR and NCW requests to pooled memory (R103), CXL.io to the slice's host under its PASID, or, from a system queue, to a principal's or the
Curator's memory (log entry 160). -/
def Dev.accMsg (d : Dev) (b : SkAcc) (op : Op) (write : Bool) (pool : Option Nat) (addr data : Nat) (poison : Bool) : Dev :=
  let s := qSlice b.q
  let own := if isTenant b.q then some s else none
  let m : Msg := { src := .skid b.q, slice := own, cls := if isTenant b.q then .sc2 else .sc3, gen := b.gen, tag := b.id, paid := true, poison := poison, stage := 0, bytes := if write then 16 + b.n else 16, ask := if write then 0 else b.n }
  match pool with
  | some a =>
    let x := { d.xHdr m.src own a (if write then 5 else 1) with len := b.n / 64 - 1, data := data, be := allBytes }
    d.sendAcc { m with kind := if write then .memWrite else .memRead, addr := d.reqAddr a, pool := a, egress := d.memPort (own.getD 0) a, alt := (d.ext (a / 2 ^ 30)).altEn, op := d.reqOp a (if write then .memWr else .memRd), args := if write then [d.reqAddr a, data, 2 ^ b.n - 1] else [d.reqAddr a, (d.ext (a / 2 ^ 30)).ld, b.n], x := some x }
  | none =>
    if isTenant b.q then
      d.sendAcc { m with kind := if write then .ioWrite else .ioRead, addr := addr, egress := (d.sl s).port, op := op, args := addr :: d.pasidOf s :: (if write then leBytes data b.n else [b.n]) }
    else d.emit (d.queueMem b.q) op ([b.id, addr, b.n, bit poison] ++ (if write then leBytes data b.n else []))

/-- The messages of an access that have not left. -/
def Dev.accMsgs (d : Dev) (b : SkAcc) : List Msg := d.buf.msgs.filter (fun m => m.paid && !m.home && !m.hdrLeft && m.src == .skid b.q && m.tag == b.id)

/-- The arrival that answers an access of host memory (log entry 40). -/
def Dev.accArr (d : Dev) (b : SkAcc) : Option Msg :=
  if b.here || b.side.isSome || !isTenant b.q || b.kind == .write then none
  else d.arrival (fun m => m.isCpl && m.tag == b.id && d.portOf m.pu == some (d.sl (qSlice b.q)).port)

/-- An access may be answered: pooled memory has answered; other memory does with the command, once the request has left. -/
def Dev.accReady (d : Dev) (b : SkAcc) : Bool := b.here || (b.side.isNone && (d.accMsgs b).isEmpty && (d.accArr b).all (·.dataIn))

/-- How its answer came: good (0), poisoned (1), an error (2). -/
def Dev.accBad (d : Dev) (b : SkAcc) : Nat := max b.bad ((d.accArr b).elim 0 (fun m => if m.kind = .ioCpl then 2 else bit m.poison))

/-- The data of its answer: from pooled memory, else what the command brings. -/
def SkAcc.bytes (b : SkAcc) (data : Nat) : Nat := bits (if b.side.isSome then b.data else data) 0 (8 * b.n)

/-- An answered access is over. -/
def Dev.accEnd (d : Dev) (b : SkAcc) : Dev := (d.taken (d.accArr b)).endAcc b

/-- A burst or read-back meets its descriptor: one of an old generation is discarded (R206), one whose descriptor is gone ends. -/
def Dev.accAct (d : Dev) (b : SkAcc) (f : Dev → ADesc → Dev) : Dev :=
  if isTenant b.q ∧ b.gen ≠ d.qGen b.q then (d.accEnd b).qDiscard b.q
  else match d.act b.q b.slot with
    | none => d.accEnd b
    | some a => f d a

/-- A side of a burst that lies in pooled memory (R194): its pool address, or why it is refused; a slice's by the region checks, a system queue's by its extent. -/
def Dev.burstSide (d : Dev) (q addr need : Nat) : Except Deny Nat :=
  if isTenant q then d.checkPart (qSlice q) addr 2 need
  else
    let x := d.ext (addr / 2 ^ 30)
    if !x.valid then .error { kind := 0 } else if x.cat ∧ 1028 ≤ q then .error { kind := 4 } else .ok addr

/-- The Skidder checker refuses an access (R147, R194). -/
def Dev.skidDeny (d : Dev) (q : Nat) (e : Deny) (addr : Nat) : Dev :=
  let sl := if isTenant q then qSlice q else 0
  let d := d.pvRecord pvSkid sl (if isTenant q then (d.sl sl).port else 0) 2 e addr false false
  if isTenant q then d.count (ctrSl sl) 0x35 none 1 else d

/-! ### Bursts and read-backs (R190, R193, R201) -/

/-- The address of an offset: in the fragments, or from the base; with the bytes left in its fragment (R191, R193). -/
def locate : List Frag → Nat → Option (Nat × Nat)
  | [], _ => none
  | f :: r, off => if off < f.len then some (f.addr + off, f.len - off) else locate r (off - f.len)

/-- Source and destination of a descriptor at an offset, with what remains of each. -/
def ADesc.srcAt (a : ADesc) (off : Nat) : Nat × Nat :=
  if a.d.srcInd then (locate a.srcFr off).getD (0, 0) else (a.d.src + off, a.d.len - off)
def ADesc.dstAt (a : ADesc) (off : Nat) : Nat × Nat :=
  if a.d.dstInd then (locate a.dstFr off).getD (0, 0) else (a.d.dst + off, a.d.len - off)

/-- Source bytes enter the CRC in offset order: what came ahead waits (R190). -/
def ADesc.takeCrc : Nat → ADesc → ADesc
  | 0, a => a
  | n + 1, a =>
    match a.ahead.find? (fun x => x.1 == a.crcAt) with
    | none => a
    | some x => ADesc.takeCrc n { a with crc := crc32cBytes a.crc x.2, crcAt := a.crcAt + x.2.length, ahead := a.ahead.filter (fun y => y.1 != x.1) }

/-- No more source bytes come: those read enter the CRC in offset order, whatever was refused or failed between them (R202). -/
def ADesc.closeCrc : Nat → ADesc → ADesc
  | 0, a => a
  | n + 1, a =>
    match a.ahead.foldl (fun (m : Option (Nat × List Nat)) x => match m with
        | none => some x
        | some y => if x.1 < y.1 then some x else some y) none with
    | none => a
    | some x => ADesc.closeCrc n { a with crc := crc32cBytes a.crc x.2, ahead := a.ahead.filter (fun y => y.1 != x.1) }

/-- A burst fails (R204): the failing burst of the lowest offset gives the status; no further bursts are issued. -/
def ADesc.failAt (a : ADesc) (off st : Nat) : ADesc :=
  { a with stopped := true, fail := match a.fail with
      | some f => if off < f.1 then some (off, st) else some f
      | none => some (off, st) }

/-- The read-back a descriptor takes next (R201), as offset and length: of a CRC_COPY the destination in offset order, in pieces that cross neither a page nor a fragment,
without what was refused; else the last line written. -/
def ADesc.nextBack (a : ADesc) : Option (Nat × Nat) :=
  if !a.wrote ∨ a.d.op = 3 ∨ a.top ≤ a.rbAt then none
  else if a.d.op ≠ 4 then some (a.top - 64, 64)
  else
    let off := a.refused.foldl (fun o r => if r.1 ≤ o ∧ o < r.1 + r.2 then r.1 + r.2 else o) a.rbAt
    let x := a.dstAt off
    let n := (a.refused.filter (fun r => off < r.1)).foldl (fun n r => min n (r.1 - off)) (min (a.top - off) (min x.2 (4096 - x.1 % 4096)))
    if n = 0 then none else some (off, n)

/-- A read-back or verify read of `n` bytes at an offset is issued: admitted as a burst is, translated, not checked again (log entry 168). One with no address fails. -/
def Dev.issueBack (d : Dev) (a : ADesc) (off n : Nat) : Dev :=
  let dst := (a.dstAt off).1
  let pool := if a.d.dstSp then none else if isTenant a.q then d.translate (qSlice a.q) dst else some dst
  let lost := !a.d.dstSp && pool.isNone
  let b : SkAcc := { id := d.skid.nextId, q := a.q, slot := a.slot, kind := .check, off := off, n := n, src := dst, sPool := pool, gen := a.gen, cells := accCells n true false, here := lost, bad := if lost then 2 else 0 }
  let d := d.addAcc b
  if lost then d else d.accMsg b (if a.d.op = 3 then .verifyRead else .readBack) false pool dst 0 false

/-- A read-back of `n` bytes may be issued: not from P0, and admitted (R71, R194, R215). -/
def Dev.mayBack (d : Dev) (q n : Nat) : Bool := !d.saving && d.admitAcc q (accCells n true false)

/-- Accesses of a descriptor in flight. -/
def Dev.inFlight (d : Dev) (a : ADesc) : Bool := d.skid.accs.any (fun b => b.q == a.q && b.slot == a.slot && (b.isBurst || b.kind == .check))

/-- A started descriptor goes on (R190, R201): a SCRUB's burst that is written is read back; one whose bursts have ended takes its next read-back, or finishes. One of an
old generation is discarded (R206). -/
def Dev.settleAct (d : Dev) (q slot : Nat) : Dev :=
  match d.act q slot with
  | none => d
  | some a =>
    if a.status.isSome then d
    else if isTenant q ∧ a.gen ≠ d.qGen q then (if d.inFlight a then d else (d.dropAct q slot).qDiscard q)
    else match a.verify with
      | v :: rest => if d.mayBack q v.2 then (d.setAct { a with verify := rest }).issueBack a v.1 v.2 else d
      | [] =>
        if d.inFlight a ∨ (!a.stopped ∧ a.off < a.d.len) then d
        else match a.nextBack with
          | some x => if d.mayBack q x.2 then d.issueBack a x.1 x.2 else d
          | none =>
            let a := a.closeCrc a.ahead.length
            (d.setAct { a with status := some a.final }).cpls q

/-- The write of a burst is issued: pages of host memory written for a slice are logged first (R155). -/
def Dev.burstWrite (d : Dev) (a : ADesc) (b : SkAcc) (data : Nat) (poison : Bool) : Dev :=
  let d := if isTenant a.q ∧ a.d.dstSp then d.logPage (.skid a.q) (qSlice a.q) b.dst 1 else d
  let d := d.updAcc b.id (fun x => { x with kind := .write, here := false, data := 0, bad := 0 })
  (d.setAct { a with wrote := true, top := max a.top (b.off + b.n) }).accMsg b .burstWrite true b.dPool b.dst data poison

/-- The pool addresses of the two sides of a descriptor's burst, or the refusal with its address. -/
def Dev.sides (d : Dev) (a : ADesc) (src dst : Nat) : Except (Deny × Nat) (Option Nat × Option Nat) :=
  let one := fun (use : Bool) (addr need : Nat) => if use then (match d.burstSide a.q addr need with
      | .ok p => Except.ok (some p)
      | .error e => Except.error (e, addr)) else Except.ok none
  match one (a.d.usesSrc && !a.d.srcSp) src 1, one (!a.d.dstSp) dst (if a.d.op = 3 then 3 else 2) with
  | .error e, _ => .error e
  | .ok _, .error e => .error e
  | .ok x, .ok y => .ok (x, y)

/-- The data of a burst that reads none: the pattern of a FILL, zeros. -/
def Desc.fill (x : Desc) (n : Nat) : Nat := if x.op = 2 then (List.range (n / 8)).foldl (fun v k => v + x.pattern * 2 ^ (64 * k)) 0 else 0

/-- The next burst of a started descriptor (R193, R194, R199): checked, admitted, issued. A refused one is not performed (R203); one that waits for admission yields. -/
def Dev.issueBurst (d : Dev) (q slot : Nat) : Dev :=
  match d.act q slot with
  | none => d
  | some a =>
    if a.status.isSome ∨ a.stopped ∨ a.d.len ≤ a.off ∨ 64 ≤ d.bursts.length ∨ d.saving then d
    else if isTenant q ∧ a.gen ≠ d.qGen q then (d.dropAct q slot).qDiscard q
    else
      let (src, sr) := a.srcAt a.off
      let (dst, dr) := a.dstAt a.off
      let rd := a.d.usesSrc
      let n := min (min dr (4096 - dst % 4096)) (if rd then min sr (4096 - src % 4096) else dr)
      let w := accCells n rd true
      match d.sides a src dst with
      | .error (e, at_) => (d.skidDeny q e at_).setAct { a with off := a.off + n, refused := a.refused ++ [(a.off, n)], waits := false }
      | .ok (sp, dp) =>
        if !d.admitAcc q w then
          (if a.waits then d else (d.setAct { a with waits := true }).addSat R.DMV.ADMWAIT.VALUE 1)
        else
          let b : SkAcc := { id := d.skid.nextId, q := q, slot := slot, kind := if rd then .read else .write, off := a.off, n := n, src := src, dst := dst, sPool := sp, dPool := dp, gen := a.gen, cells := w }
          let a := { a with waits := false, off := a.off + n }
          let d := ((d.addAcc b).setAct a).addMod R.DMV.BURSTCNT.VALUE 1
          if rd then d.accMsg b .burstRead false sp src 0 false else d.burstWrite a b (a.d.fill n) false

/-- The burst of an id in its read or its write, once that may be answered. -/
def Dev.burst (d : Dev) (id : Nat) (kind : AccKind) : Option SkAcc := d.skid.accs.find? (fun b => b.id == id && b.kind == kind && d.accReady b)

/-- The data of a burst is in the buffer (R193): it enters the CRC, its write is issued; poisoned data, and data that could not be read, is written poisoned (R203). -/
def Dev.burstRead (d : Dev) (a : ADesc) (b : SkAcc) (data bad : Nat) : Dev :=
  let a := if a.d.op = 4 then ADesc.takeCrc (a.ahead.length + 1) { a with ahead := a.ahead ++ [(b.off, leBytes data b.n)] } else a
  if bad = 0 then d.burstWrite a b data false else (d.raise .dmv dmvPoison).burstWrite (a.failAt b.off sPoison) b data true

/-- BURST_READ_DATA (R193). -/
def Dev.burstData (d : Dev) (id data : Nat) (poison : Bool) : Dev :=
  match d.burst id .read with
  | none => d
  | some b => d.accAct b (fun d a => (d.taken (d.accArr b)).burstRead a b (b.bytes data) (max (d.accBad b) (bit poison)))

/-- BURST_COMPLETE (R193, R203): a burst's write completes. A SCRUB burst is then read back (R190). -/
def Dev.burstComplete (d : Dev) (id : Nat) (ok : Bool) : Dev :=
  match d.burst id .write with
  | none => d
  | some b => d.accAct b (fun d a =>
    let ok := ok && b.bad == 0
    let d := d.accEnd b
    let d := if ok then d.set64 R.DMV.BYTESL.VALUE R.DMV.BYTESH.VALUE (d.get64 R.DMV.BYTESL.VALUE R.DMV.BYTESH.VALUE + b.n) else d
    let a := if !ok then a.failAt b.off sWrErr else if a.d.op = 3 then { a with verify := a.verify ++ [(b.off, b.n)] } else a
    (d.setAct a).settleAct b.q b.slot)

/-- The queued writes of an access that ends go on as poisoned messages of their own, charged for themselves (R195). -/
def Dev.orphan (d : Dev) (b : SkAcc) : Dev :=
  (d.accMsgs b).foldl (fun d m =>
    match m.slice with
    | some s => (d.charge s m.touch).updMsg m.id (fun x => { x with paid := false, poison := true, chg := m.touch })
    | none => { d with buf := { d.buf with sysUse := tadd d.buf.sysUse m.egress m.touch } }.updMsg m.id (fun x => { x with paid := false, poison := true, sysPu := some m.egress, sysN := m.touch })) d

/-- BURST_TIMEOUT (R195): the burst fails with TIMEOUT and its data is handled as poisoned: what it has read, or has not, is written poisoned; a write still queued
goes on poisoned. -/
def Dev.burstTimeout (d : Dev) (id : Nat) : Dev :=
  match d.skid.accs.find? (fun b => b.id == id && b.isBurst) with
  | none => d
  | some b => (d.raise .dmv dmvTmo).accAct b (fun d a =>
    let a := a.failAt b.off sTimeout
    if b.kind = .read then ((d.accMsgs b).foldl (fun d m => d.release m false) d).burstWrite a b b.data true
    else ((((d.orphan b).endAcc b).setAct a).settleAct b.q b.slot))

/-- SKIDDER_READ_BACK (R190, R201, R204): a verify read of a SCRUB, or a piece of the read-back of another descriptor, returns and is judged. -/
def Dev.readBack (d : Dev) (q slot id : Nat) (failed : Bool) (data : Nat) : Dev :=
  match d.skid.accs.find? (fun b => b.id == id && b.q == q && b.slot == slot && b.kind == .check && d.accReady b) with
  | none => d
  | some b => d.accAct b (fun d a =>
    let bad := failed || d.accBad b != 0
    let data := b.bytes data
    let d := d.accEnd b
    let x := if a.d.op = 3 then (if bad || data != 0 then ((d.raise .dmv dmvVerify).setAct (a.failAt b.off sVerify)) else d)
      else if bad then (d.raise .dmv dmvRb).setAct { a with rbFail := true, rbAt := a.top }
      else d.setAct { a with rbAt := if a.d.op = 4 then b.off + b.n else a.top, dcrc := if a.d.op = 4 then crc32cBytes a.dcrc (leBytes data b.n) else a.dcrc }
    x.settleAct q slot)

/-! ### Checks and starts (R192, R196, R197, R199) -/

/-- The checks of R192 in their order, for a descriptor whose fragment tables are here. -/
def Dev.descCheck (d : Dev) (q : Nat) (f : FDesc) : Option Nat :=
  let x := f.d
  let sInd := x.usesSrc && x.srcInd
  let dInd := x.usesDst && x.dstInd
  let frs := (if sInd then f.srcFr.getD [] else []) ++ (if dInd then f.dstFr.getD [] else [])
  let sum := fun (l : List Frag) => l.foldl (fun n g => n + g.len) 0
  if f.ue then some sFragErr
  else if !f.pass then some sPhase
  else if 4 < x.op ∨ x.trig = 3 ∨ x.rsv ∨ frs.any (·.rsv) ∨ (x.op = 0 ∧ x.len ≠ 0) ∨ (x.op ≠ 0 ∧ x.len = 0) ∨ (sInd ∧ (x.srcNfrag = 0 ∨ 256 < x.srcNfrag)) ∨
      (dInd ∧ (x.dstNfrag = 0 ∨ 256 < x.dstNfrag)) ∨ (1024 ≤ q ∧ q < 1028 ∧ ((x.usesSrc ∧ x.srcSp) ∨ (x.usesDst ∧ x.dstSp))) then some sBadDesc
  else if x.len % 64 ≠ 0 ∨ (x.usesSrc ∧ x.src % 64 ≠ 0) ∨ (x.usesDst ∧ x.dst % 64 ≠ 0) ∨ frs.any (fun g => g.addr % 64 != 0 || g.len % 64 != 0) then
    some sAlign
  else if f.fragErr then some sFragErr
  else if frs.any (fun g => g.len == 0) ∨ (sInd ∧ sum (f.srcFr.getD []) ≠ x.len) ∨ (dInd ∧ sum (f.dstFr.getD []) ≠ x.len) then some sBadDesc
  else if x.trig = 1 ∧ d.get (R.TMR.CFG.OWNER x.timer) ≠ (if isTenant q then qSlice q else 512) then some sTrigErr
  else if x.trig = 2 ∧ (if isTenant q then 1 < x.chainQ else d.sqOwner (1024 + x.chainQ) ≠ d.sqOwner q) then some sTrigErr
  else none

/-- It may start: it is armed and fewer than ACT_MAX descriptors are active (R196, R199). -/
def Dev.mayStart (d : Dev) (q : Nat) (f : FDesc) : Bool := d.armed q f && d.skid.acts.length < d.get R.DMV.CTL.ACT_MAX

/-- Its trigger holds (R196, R197). -/
def Dev.triggered (d : Dev) (q : Nat) (x : Desc) : Bool :=
  match x.trig with
  | 0 => true
  | 1 => (d.qr q).fired
  | _ =>
    let cq := if isTenant q then 2 * qSlice q + x.chainQ else 1024 + x.chainQ
    (((d.qe cq).okSeq + 2 ^ 16 - x.waitSeq % 2 ^ 16) % 2 ^ 16) < 2 ^ 15

/-- Start the first fetched descriptor of a queue: one that fails a check has its status at once, one with an error in its stored copy without its TAG and with its
slot's PHASE (R192); a NOP finishes. -/
def Dev.startHead (d : Dev) (q : Nat) (f : FDesc) : Dev :=
  let d := d.updQr q (fun r => { r with fetched := r.fetched.drop 1, fired := false })
  let st := d.descCheck q f
  let x := if f.ue then { f.d with tag := 0, phase := f.exp, irq := false } else f.d
  let d := if f.ue then d.raise .dmv dmvUe else d
  let a : ADesc := { q := q, slot := f.slot, d := x, gen := f.gen, srcFr := f.srcFr.getD [], dstFr := f.dstFr.getD [], status := st }
  let d := { d with skid := { d.skid with acts := d.skid.acts ++ [a] } }
  (if st.isSome then d.cpls q else d.settleAct q f.slot).arm q

/-- The first fetched descriptor of a queue starts if it may. -/
def Dev.tryStart (d : Dev) (q : Nat) : Option Dev :=
  match (d.qr q).fetched with
  | [] => none
  | f :: _ =>
    if d.mayStart q f ∧ ((d.descCheck q f).isSome ∨ d.triggered q f.d) then some (d.startHead q f) else none

/-- DESCRIPTOR_START (R196): the queue's armed descriptor starts once its trigger holds; else it waits. -/
def Dev.descStart (d : Dev) (q : Nat) : Dev := (d.tryStart q).getD d

/-- TIMER_FIRE (R196, R198): every descriptor armed on the timer starts; a one-shot timer clears its EN. -/
def Dev.timerFire (d : Dev) (t : Nat) : Dev :=
  if !d.is (R.TMR.CFG.EN t) then d
  else
    let d := d.set R.DMV.TMRFIRE.FIRED (setB (d.get R.DMV.TMRFIRE.FIRED) t)
    let d := if d.is (R.TMR.CFG.ONESHOT t) then d.off (R.TMR.CFG.EN t) else d
    (d.skid.rt.map (·.1)).foldl (fun d q =>
      match (d.qr q).fetched with
      | f :: _ => if f.d.trig = 1 ∧ f.d.timer = t ∧ d.mayStart q f ∧ (d.descCheck q f).isNone then (d.updQr q (fun r => { r with fired := true })).startHead q f else d
      | [] => d) d

/-- TIMER_CONFIG (R208): an illegal value, or a change of PERIOD or OWNER while EN is 1, changes nothing and sets CFG_REJ. -/
def Dev.timerConfig (d : Dev) (t v : Nat) : Dev :=
  let per := bits v 0 20
  let own := bits v 20 10
  if per = 0 ∨ 1000000 < per ∨ (512 < own ∧ own ≠ 0x3FF) ∨
      (d.is (R.TMR.CFG.EN t) ∧ (per ≠ d.get (R.TMR.CFG.PERIOD t) ∨ own ≠ d.get (R.TMR.CFG.OWNER t))) then d.raise .dmv dmvRej
  else
    let n := (((d.set (R.TMR.CFG.PERIOD t) per).set (R.TMR.CFG.OWNER t) own).put (R.TMR.CFG.EN t) (flag v 30)).put (R.TMR.CFG.ONESHOT t) (flag v 31)
    if n.regs = d.regs then d else n.cfgChange

/-! ### Fragment tables (R191, R192) -/

/-- A fetched descriptor of a queue. -/
def Dev.fdesc (d : Dev) (q slot : Nat) : Option FDesc := (d.qr q).fetched.find? (fun f => f.slot == slot)

/-- Change it. -/
def Dev.updFd (d : Dev) (q slot : Nat) (f : FDesc → FDesc) : Dev :=
  d.updQr q (fun r => { r with fetched := r.fetched.map (fun x => if x.slot = slot then f x else x) })

/-- One piece of a table, `off` bytes into it. A piece in pooled memory is checked as a burst's source is; refused, it cannot be read. -/
def Dev.askPiece (d : Dev) (q : Nat) (f : FDesc) (dst sp : Bool) (addr off n : Nat) : Dev :=
  let b : SkAcc := { id := d.skid.nextId, q := q, slot := f.slot, kind := .frag dst, off := off, n := n, src := addr, gen := f.gen, cells := accCells n true false }
  if sp then (d.addAcc b).accMsg b .fragRead false none addr 0 false
  else match d.burstSide q addr 1 with
    | .ok pool => (d.addAcc { b with sPool := some pool }).accMsg b .fragRead false (some pool) addr 0 false
    | .error e => (d.skidDeny q e addr).addAcc { b with here := true, bad := 2 }

/-- A fragment table the descriptor needs is asked for, whole, once its reads are admitted (R71, R191). -/
def Dev.askTable (d : Dev) (q slot : Nat) (dst : Bool) : Dev :=
  match d.fdesc q slot with
  | none => d
  | some f =>
    let x := f.d
    let addr := if dst then x.dst else x.src
    let n := 16 * (if dst then x.dstNfrag else x.srcNfrag)
    let sp := if dst then x.dstSp else x.srcSp
    let due := if dst then x.readsDst && !f.dstAsk else x.readsSrc && !f.srcAsk
    let ps := if sp then [(addr, n)] else partsOf addr n
    if !due ∨ f.ue ∨ !f.pass ∨ d.saving ∨ !d.admitAcc q (ps.foldl (fun w p => w + accCells p.2 true false) 0) then d
    else
      let d := d.updFd q slot (fun f => if dst then { f with dstAsk := true } else { f with srcAsk := true })
      ps.foldl (fun d p => d.askPiece q f dst sp p.1 (p.1 - addr) p.2) d

/-- Both tables of a descriptor. -/
def Dev.askTables (d : Dev) (q slot : Nat) : Dev := (d.askTable q slot false).askTable q slot true

/-- FRAGMENT_READ (R191, R192): a fragment table has arrived; a failed read sets FETCH_ERR, a stored copy that cannot be corrected UE. -/
def Dev.fragRead (d : Dev) (q slot : Nat) (dst : Bool) (res : RdResult) (entries : List Nat) (ue : Bool) : Dev :=
  let mine := d.skid.accs.filter (fun b => b.q == q && b.slot == slot && b.kind == .frag dst)
  let d := (mine.filter (fun b => b.void && d.accReady b)).foldl Dev.accEnd d
  let l := mine.filter (fun b => !b.void)
  if l.isEmpty ∨ !l.all d.accReady then d
  else
    let (inj, t) := d.dmvInject
    let bad := res != .ok || l.any (fun b => d.accBad b != 0)
    let ue := ue || inj == 2
    let n := l.foldl (fun n b => n + b.n) 0 / 16
    let x := l.foldl (fun x b => x + b.data * 2 ^ (8 * b.off)) 0
    let es := if l.any (·.sPool.isSome) then (List.range n).map (fun i => bits x (128 * i) 128) else entries.take n
    let frs := if bad || ue then none else some (es.map unpackFrag)
    let d := l.foldl Dev.accEnd { d with inj := t }
    let d := if inj = 1 then d.dmvCe else d
    let d := if bad then d.raise .dmv dmvFetch else if ue then d.raise .dmv dmvUe else d
    (d.updFd q slot (fun f => { f with fragErr := f.fragErr || bad || ue, srcFr := if dst then f.srcFr else frs, dstFr := if dst then frs else f.dstFr })).arm q

/-! ### Turns (R199) and the scrub of extents (R151, R152) -/

/-- Starts of one turn. -/
def turnStarts : Nat → Dev → Nat → Nat → Dev × Nat
  | 0, d, _, c => (d, c)
  | n + 1, d, q, c =>
    if c = 0 then (d, c)
    else match d.tryStart q with
      | some d' => turnStarts n d' q (c - 1)
      | none => (d, c)

/-- The turn of the first ready queue: it starts what its credit allows, then moves to the tail, or leaves the list. -/
def Dev.readyTurn (d : Dev) : Dev :=
  match d.skid.ready with
  | [] => d
  | (q, cr) :: _ =>
    let e := d.qe q
    let (d, c) := turnStarts 64 d q (min (cr + e.weight) e.burst)
    let rest := d.skid.ready.filter (fun x => x.1 != q)
    { d with skid := { d.skid with ready := if d.headArmed q then rest ++ [(q, c)] else rest } }

/-- The slot number that the scrub of an extent goes by: no ring has it. -/
def scrubSlot (e : Nat) : Nat := 65536 + e

/-- A queued scrub starts on its system queue, one at a time, as a SCRUB of the whole extent (R151, log entry 163). -/
def Dev.scrubStart (d : Dev) (e : Nat) : Dev :=
  let q := 1024 + e % 4
  if d.saving ∨ d.get R.DMV.CTL.ACT_MAX ≤ d.skid.acts.length ∨ d.skid.acts.any (fun a => a.q == q) then d
  else { d with skid := { d.skid with acts := d.skid.acts ++ [{ q := q, slot := scrubSlot e, d := { op := 3, len := 2 ^ 30, dst := e * 2 ^ 30 }, gen := 0 }] } }

/-- QUEUE_TURN (R199): the first ready queue takes its turn; queued scrubs start; tables that wait for admission are asked for; each active descriptor issues its next burst, in the
order they started. -/
def Dev.queueTurn (d : Dev) : Dev :=
  let d := d.skid.scrubs.foldl Dev.scrubStart d.readyTurn
  let d := (d.skid.rt.map (fun e => e.2.fetched.map (fun f => (e.1, f.slot)))).flatten.foldl (fun d x => d.askTables x.1 x.2) d
  (d.skid.acts.map (fun a => (a.q, a.slot))).foldl (fun d (x : Nat × Nat) => (d.issueBurst x.1 x.2).settleAct x.1 x.2) d

/-- An extent enters SCRUB and its scrub is queued on a system queue (R151). -/
def Dev.queueScrub (d : Dev) (e : Nat) : Dev :=
  let d := d.setExt e { d.ext e with st := 2 }
  { d with skid := { d.skid with scrubs := if d.skid.scrubs.contains e then d.skid.scrubs else d.skid.scrubs ++ [e] } }

/-- An extent enters SCRUB by the device's own action, a change of configuration (R229). -/
def Dev.enterScrub (d : Dev) (e : Nat) : Dev := (d.queueScrub e).cfgChange

/-- SCRUB_COMPLETE (R151): the scrub has ended: the extent enters FREE (`ok`) or, after any failure of it, BAD with LASTBAD and SCRUB_BAD. A command that names
the other verdict than the scrub's ends nothing. -/
def Dev.scrubDone (d : Dev) (e : Nat) (ok : Bool) : Dev :=
  let q := 1024 + e % 4
  match (d.act q (scrubSlot e)).bind (·.status) with
  | none => d
  | some st =>
    if (st == 0) != ok then d
    else
    let d := d.dropAct q (scrubSlot e)
    let d := { d with skid := { d.skid with scrubs := d.skid.scrubs.erase e } }
    let x := d.ext e
    if x.st ≠ 2 then d
    else
      let d := (d.setExt e { x with st := if ok then 0 else 3 }).cfgChange
      if ok then d else ((d.set R.TEN.LASTBAD.EXT e).on R.TEN.LASTBAD.VALID).raise .dmv dmvScrubBad

/-! ### Queue states (R184, R185, R188) -/

/-- The enable checks (R184, R188). -/
def Dev.mayEnable (d : Dev) (q : Nat) : Bool :=
  let e := d.qe q
  (if isTenant q then (d.sl (qSlice q)).st == slBound && (d.sl (qSlice q)).pasidEn else d.sqOwner q < 8) &&
    6 ≤ e.size && e.size ≤ 16 && e.ring % 4096 == 0 && e.cpl % 4096 == 0 && e.hwb % 64 == 0

/-- QUEUE_ENABLE: EN written 1. In STOPPING the bit is kept and clears when the stop ends in DISABLED (log entry 165). -/
def Dev.queueEnable (d : Dev) (q : Nat) : Dev :=
  if (d.qe q).st = qStopping then d.updQe q (fun e => { e with en := true })
  else if (d.qe q).st ≠ qDisabled then d
  else if d.mayEnable q then (d.updQe q (fun e => { e with st := qActive, en := true, fphase := (d.qr q).hphase })).updQr q (fun r => { r with fetch := (d.qe q).head, stop := 0, dis := false, fetched := [], reading := 0, fired := false, why := 0 })
  else d.updQe q (fun e => { e with en := false, rej := true })

/-- QUEUE_DISABLE: EN written 0. -/
def Dev.queueDisable (d : Dev) (q : Nat) : Dev :=
  let e := d.qe q
  let d := d.updQe q (fun e => { e with en := false })
  if e.st = qActive then d.beginStop q kDisable
  else if e.st = qStopping then d.updQr q (fun r => { r with dis := true })
  else if e.st = qHalted then d.updQe q (fun e => { e with st := qDisabled, abort := false })
  else d

/-- QUEUE_ABORT: ABORT written 1. In STOPPING the bit sets and the stop keeps its kind; no effect in DISABLED and HALTED. -/
def Dev.queueAbort (d : Dev) (q : Nat) : Dev :=
  let n := d.updQe q (fun e => { e with abort := true })
  if (d.qe q).st = qActive then n.beginStop q kAbort else if (d.qe q).st = qStopping then n else d

/-- QUEUE_RESUME: RESUME written 1; it clears at once outside HALTED. -/
def Dev.queueResume (d : Dev) (q : Nat) : Dev :=
  if (d.qe q).st = qHalted then (d.updQe q (fun e => { e with st := qActive, fphase := (d.qr q).hphase })).updQr q (fun r => { r with fetch := (d.qe q).head, stop := 0, dis := false, why := 0 })
  else d

/-- TAIL_WRITE (R184, R188): stored in every state; fetched from only in ACTIVE. -/
def Dev.tailWrite (d : Dev) (q v : Nat) : Dev := d.updQe q (fun e => { e with tail := v % 2 ^ 16 })

/-- A slice leaves BOUND (R188): its queues stop, kind DISABLE, whatever they were stopping for. -/
def Dev.stopSlice (d : Dev) (s : Nat) : Dev :=
  [2 * s, 2 * s + 1].foldl (fun d q =>
    if (d.qe q).st = qDisabled then d else (d.updQe q (fun e => { e with en := false })).beginStop q kDisable) d

/-- Descriptors a queue holds, fetched or started. -/
def Dev.heldDescs (d : Dev) (q : Nat) : Nat := (d.qr q).fetched.length + (d.skid.acts.filter (fun a => a.q == q)).length

/-- DESCRIPTOR_FETCH (R184): up to 8 posted descriptors, at most 16 held, not past the ring's end in one read, once the read is admitted (R71). -/
def Dev.descFetch (d : Dev) (q : Nat) : Dev :=
  let e := d.qe q
  let r := d.qr q
  let n := min (min ((e.tail % e.ents + e.ents - r.fetch) % e.ents) (e.ents - r.fetch)) (min 8 (16 - d.heldDescs q))
  let b : SkAcc := { id := d.skid.nextId, q := q, slot := r.fetch, kind := .ring, n := 64 * n, src := e.ring + 64 * r.fetch, gen := d.qGen q, cells := accCells (64 * n) true false }
  if e.st ≠ qActive ∨ r.reading ≠ 0 ∨ n = 0 ∨ d.saving ∨ (d.inPair ∧ d.is R.PAIR.STATE.ROLE) ∨ !d.admitAcc q b.cells then d
  else ((d.updQr q (fun r => { r with reading := n })).addAcc b).accMsg b .ringRead false none b.src 0 false

/-- A fetched descriptor is stored (R185, R302): its phase is compared, its fragment tables are asked for. -/
def Dev.storeDesc (d : Dev) (q gen : Nat) (x : Desc) (ue : Bool) : Dev :=
  let e := d.qe q
  let r := d.qr q
  let (inj, t) := d.dmvInject
  let d := { d with inj := t }
  let d := if inj = 1 then d.dmvCe else d
  let nx := (r.fetch + 1) % e.ents
  let f : FDesc := { slot := r.fetch, d := x, gen := gen, ue := ue || inj == 2, pass := x.phase == e.fphase, exp := e.fphase }
  let d := d.updQr q (fun r => { r with fetched := r.fetched ++ [f], fetch := nx })
  let d := d.updQe q (fun e => { e with fphase := if nx = 0 then !e.fphase else e.fphase })
  (d.askTables q f.slot).arm q

/-- FETCH_RETURN (R185, R188, R189): the descriptors of a ring read, 64 B each; a failed or poisoned read stops the queue, kind ERROR, and sets FETCH_ERR. -/
def Dev.fetchReturn (d : Dev) (q : Nat) (res : RdResult) (ds ue : List Nat) : Dev :=
  match d.skid.accs.find? (fun b => b.q == q && b.kind == .ring && d.accReady b) with
  | none => d
  | some b =>
    let bad := res != .ok || d.accBad b != 0
    let d := d.accEnd b
    if b.void then d
    else
      let d := d.updQr q (fun r => { r with reading := 0 })
      if bad then
        (((d.updQe q (fun e => { e with lastStatus := sFetchErr })).updQr q (fun r => { r with why := if r.why = 0 then sFetchErr else r.why })).raise .dmv dmvFetch).beginStop q kError
      else ((ds.take (b.n / 64)).zip (List.range (b.n / 64))).foldl (fun d (x, i) => d.storeDesc q b.gen (unpackDesc x) (ue.contains i)) d

/-- A queue enters HALTED (R187, R188, R208): the first to do so for more than an abort is recorded, with the first status that did it (log entry 172). -/
def Dev.enterHalted (d : Dev) (q : Nat) : Dev :=
  let d := (d.updQe q (fun e => { e with st := qHalted, abort := false })).queueIrq q
  let d := d.raise .dmv (if isTenant q then dmvTqHalt else dmvSqHalt)
  if (d.qr q).why = 0 ∨ d.is R.DMV.ERRQ.VALID then d
  else ((d.set R.DMV.ERRQ.QUEUE q).set R.DMV.ERRQ.STATUS (d.qr q).why).on R.DMV.ERRQ.VALID

/-- STOP_COMPLETE (R188): no burst in flight and every started descriptor completed. -/
def Dev.stopComplete (d : Dev) (q : Nat) : Dev :=
  let d := (d.skid.acts.filter (fun a => a.q == q)).foldl (fun d a => d.settleAct a.q a.slot) d
  let r := d.qr q
  if (d.qe q).st ≠ qStopping ∨ d.bursts.any (fun b => b.q == q) ∨ d.skid.acts.any (fun a => a.q == q) then d
  else
    let d := d.addSat R.DMV.DISCCNT.VALUE r.fetched.length
    let d := d.updQr q (fun r => { r with fetched := [], fetch := (d.qe q).head, stop := 0, dis := false, reading := 0, fired := false })
    let d := d.updQe q (fun e => { e with fphase := r.hphase })
    let d := if r.stop = kAbort then d.raise .dmv dmvAbortDone else d
    if r.stop = kDisable ∨ r.dis then d.updQe q (fun e => { e with st := qDisabled, en := false, abort := false }) else d.enterHalted q

/-- A slice reset returns its queue entries to their reset values (R188). What is in flight comes back under the old generation (R149). -/
def Dev.resetQueues (d : Dev) (s : Nat) : Dev :=
  let mine := fun q => q / 2 == s && isTenant q
  { d with queues := Tbl.keep d.queues (fun q => !mine q), skid := { d.skid with rt := Tbl.keep d.skid.rt (fun q => !mine q), acts := d.skid.acts.filter (fun a => !mine a.q), accs := d.skid.accs.map (fun b => if mine b.q then { b with void := true } else b), ready := d.skid.ready.filter (fun x => !mine x.1) } }

end Sys2Proof.Machine
end

