-- ==== Sys2Proof/Machine/Tenancy.lean ====
section
/-! DEFINITION. Slices, extents and windows under commands (R94, R95, R134 to R157, R168, R181, R182, R263, R264): what each tenancy
command refuses and does, and the slice state machine. -/
namespace Sys2Proof.Machine

/-! ### Slice entries -/

/-- A slice's window holds extents first to last. -/
def Window.exts (w : Window) : List Nat := if w.en then (List.range (w.num + 1)).map (w.ext + ·) else []

/-- Every extent a slice maps, once for each window. -/
def SliceE.exts (e : SliceE) : List Nat := e.wins.flatMap Window.exts

/-- The slice's reservation (R67): 256 cells from the bind until it returns (R73). -/
def Dev.holdsResv (d : Dev) (s : Nat) : Bool := Tbl.get d.buf.resv 0 s != 0

/-- A slice entry changes by a command, here or at the partner (R134): a bind from FREE takes a reservation unless one is still held; leaving
BOUND stops the slice's queues and the Landing channels that write for it. -/
def Dev.putSlice (d : Dev) (s : Nat) (e : SliceE) : Dev :=
  let o := d.sl s
  let d := d.setSl s e
  let d := if o.st = slFree ∧ e.st = slBound ∧ !d.holdsResv s then { d with buf := { d.buf with resv := Tbl.set d.buf.resv 0 s 256 } } else d
  if o.st = slBound ∧ e.st = slDrain then (d.stopSlice s).landLeave s else d

/-! ### Extents (R140, R141, R151, R263) -/

/-- Its head lies behind a Xepin link (R262). -/
def Dev.remote (d : Dev) (e : Nat) : Bool := d.role (d.ext e).port == 3

/-- One more mapping of an extent. -/
def Dev.mapUp (d : Dev) (e : Nat) : Dev :=
  let x := d.ext e
  d.setExt e { x with mapcnt := x.mapcnt + 1, st := if x.st = 0 then 1 else x.st }

/-- One mapping fewer: at zero the extent enters SCRUB (R151). DESIGN CHOICE: so does the entry of an extent that another device owns, by the mappings of this device
alone; the owner's own count decides about the memory (log entry 175). -/
def Dev.mapDown (d : Dev) (e : Nat) : Dev :=
  let x := d.ext e
  let d := d.setExt e { x with mapcnt := x.mapcnt - 1 }
  if x.st = 1 ∧ x.mapcnt ≤ 1 then d.enterScrub e else d

/-- The neighbour's group runs in compatibility mode: no MAPREF is sent (R263). -/
def Dev.compat (d : Dev) (e : Nat) : Bool := d.is (R.PU.CFG.XCOMPAT (d.ext e).port)

/-- A MAPREF leaves toward the owner of an extent (R252, R263): its delta and MSEQ lie in BE. `delta` is a signed 16-bit number. -/
def Dev.sendMapref (d : Dev) (egress e delta mseq : Nat) : Dev :=
  d.enq { src := .dev, cls := .scp, kind := .mapref, egress := egress, addr := e * 2 ^ 30, pool := e * 2 ^ 30, bytes := 16, op := .xReq, x := some { d.xHdr .dev none (e * 2 ^ 30) 0x20 with be := delta % 2 ^ 16 + 2 ^ 32 * mseq }, slice := none }

/-- Send the first MAPREF that waits, if none is under way (R263). MSEQ moves when it is acknowledged, so one lost to a power failure is numbered
alike when it is sent again. -/
def Dev.mapPump (d : Dev) : Dev :=
  match d.commit.maps with
  | [] => d
  | m :: rest =>
    if m.mseq.isSome then d
    else
      let n := (d.xgrp.mseq + 1) % 2 ^ 32
      let d := { d with commit := { d.commit with maps := { m with mseq := some n } :: rest } }
      d.sendMapref (d.linkFor (d.ext m.ext).port 0 (m.ext * 2 ^ 30)) m.ext (if m.delta = 2 then 0xFFFF else m.delta) n

/-- A mapping of a remote extent goes: MAPREF with delta -1 (R263). -/
def Dev.unmapRemote (d : Dev) (e : Nat) : Dev :=
  if d.remote e ∧ !d.compat e then
    Dev.mapPump { d with commit := { d.commit with maps := d.commit.maps ++ [{ ext := e, delta := 2 }] } }
  else d

/-- The remote extents a bind would map, for which a MAPREF must be answered first. -/
def Dev.needRefs (d : Dev) (c : PyrCmd) : List Nat :=
  if c.opcode = 0x10 then
    let o := d.sl (c.target % 512)
    let w := (List.range 4).filter (fun k => c.parBit 24 k) |>.map (fun k => unpackWindow (c.par (32 + 8 * k) 8))
    (w.flatMap (fun (x : Window) => if x.en ∨ o.st = slBound then ({ x with en := true } : Window).exts else [])).filter (fun e => d.remote e && !d.compat e)
  else []

/-! ### Binding (R136) -/

/-- An enabled HOST port, or the refusal. -/
def Dev.portBad (d : Dev) (p : Nat) : Option Res := if d.isHost p then none else some (conflict 5 (d.linkSt p) p)

/-- Two ranges of GiB or of extents meet. -/
def meets (a an b bn : Nat) : Bool := a ≤ b + bn && b ≤ a + an

/-- A range of host addresses overlaps an enabled window of a slice of the port, but for `skip` in slice `s`, or one given before it. -/
def Dev.overlapBad (d : Dev) (s p : Nat) (ws : List Window) (skip : Bool) : Bool :=
  let have_ := (d.slicesOf p).flatMap (fun t => if t = s ∧ skip then [] else (d.sl t).wins.filter (·.en))
  let rec go : List Window → List Window → Bool
    | [], _ => false
    | w :: r, l => l.any (fun (o : Window) => meets w.base w.num o.base o.num) || go r (w :: l)
  go ws have_

/-- The port conditions of a bind from FREE or a rebind (R136). -/
def Dev.portConds (d : Dev) (s p : Nat) (pasidEn : Bool) (pasid : Nat) (ioDef : Bool) (ws : List Window) : Option Res :=
  let others := (d.slicesOf p).filter (· != s)
  match d.portBad p with
  | some r => some r
  | none =>
    match (if pasidEn then others.find? (fun t => (d.sl t).pasidEn && (d.sl t).pasid == pasid) else none) with
    | some t => some (conflict 1 (d.sl t).st t)
    | none =>
      match (if ioDef then others.find? (fun t => (d.sl t).ioDef) else none) with
      | some t => some (conflict 1 (d.sl t).st t)
      | none => if d.overlapBad s p ws true then some (conflict 0 0 s) else none

/-- The extents of the windows may be mapped (R136). -/
def Dev.extsBad (d : Dev) (s : Nat) (ws : List Window) : Option Res :=
  if ws.any (fun w => 65535 < w.ext + w.num) then some (conflict 0 0 s)
  else match (ws.flatMap (fun (w : Window) => ({ w with en := true } : Window).exts)).find? (fun e => let x := d.ext e; !x.valid || 2 ≤ x.st || x.cat) with
    | some e => some (conflict 2 (d.ext e).st e)
    | none => none

/-- The windows a SLICE_BIND gives, by number. -/
def bindGiven (c : PyrCmd) : List (Nat × Window) :=
  ((List.range 4).filter (fun k => c.parBit 24 k)).map (fun k => (k, unpackWindow (c.par (32 + 8 * k) 8)))

/-- SLICE_BIND refuses (R136). DESIGN CHOICE: a window given with EN = 0 at a bind from FREE maps nothing, and its extents and addresses are not checked (log entry 157). -/
def Dev.bindConflict (d : Dev) (c : PyrCmd) : Option Res :=
  let s := c.target
  let o := d.sl s
  let g := bindGiven c
  if o.st ≠ slFree ∧ o.st ≠ slBound then some (conflict 1 o.st s)
  else if o.st = slBound then
    let ws := g.map (fun x => { x.2 with en := true })
    if g.isEmpty ∨ g.any (fun x => (o.wins.getD x.1 {}).en) then some (conflict 1 o.st s)
    else match d.portBad o.port with
      | some r => some r
      | none => if d.overlapBad s o.port ws false then some (conflict 0 0 s) else d.extsBad s ws
  else
    let ws := (g.map (·.2)).filter (·.en)
    match d.portConds s (c.par 16 1) (c.parBit 17 0) (c.par 20 4) (c.parBit 17 1) ws with
    | some r => some r
    | none =>
      match d.extsBad s ws with
      | some r => some r
      | none => if d.buf.poolFree < 256 ∧ !d.holdsResv s then some conflictNone else none

/-- SLICE_BIND acts (R134): the entry is loaded, MAPCNT of every extent mapped rises; from FREE the rules and POLICE entry are reset and
the slice's counters zeroed (R168, R354). -/
def Dev.bindApply (d : Dev) (c : PyrCmd) : Dev :=
  let s := c.target
  let o := d.sl s
  let g := bindGiven c
  if o.st = slBound then
    let ws := g.map (fun x => (x.1, { x.2 with en := true }))
    let d := d.putSlice s (ws.foldl (fun e x => e.setWin x.1 x.2) o)
    (ws.flatMap (fun x => x.2.exts)).foldl Dev.mapUp d
  else
    let e : SliceE := { st := slBound, port := c.par 16 1, gen := o.gen, pasid := c.par 20 4, pasidEn := c.parBit 17 0, ioDef := c.parBit 17 1,
                        defRd := c.parBit 17 2, defWr := c.parBit 17 3, defAtom := c.parBit 17 4 }
    let d := d.putSlice s (g.foldl (fun e x => e.setWin x.1 x.2) e)
    let d := { d with rules := Tbl.keep d.rules (fun k => k / 8 != s) }.setPolice s {}
    let d := d.zeroSliceCtrs s false
    (g.flatMap (fun x => x.2.exts)).foldl Dev.mapUp d

/-- Unbind, reset and rebind need a BOUND slice (R136). -/
def Dev.boundOr (d : Dev) (s : Nat) : Option Res := if (d.sl s).st = slBound then none else some (conflict 1 (d.sl s).st s)

/-- The slice enters DRAIN with its command pending (R134, R137). -/
def Dev.beginSlice (d : Dev) (s pend : Nat) (f : SliceE → SliceE) : Dev := d.putSlice s (f { d.sl s with st := slDrain, pend := pend })

/-- SLICE_UNBIND acts. -/
def Dev.unbindApply (d : Dev) (c : PyrCmd) : Dev :=
  if c.parBit 16 0 then d.beginSlice c.target 1 id else d.beginSlice c.target 2 (fun e => { e with pWin := bits (c.par 16 1) 1 2 })

/-- The bases a SLICE_REBIND gives. -/
def rebindBase (c : PyrCmd) (w : Nat) : Nat := c.par (24 + 4 * w) 4

/-- SLICE_REBIND refuses (R136). -/
def Dev.rebindConflict (d : Dev) (c : PyrCmd) : Option Res :=
  let s := c.target
  let o := d.sl s
  let p := c.par 16 1
  let ws := ((o.wins.zip (List.range 4)).filter (fun x => x.1.en)).map (fun x => { x.1 with base := rebindBase c x.2 })
  match d.boundOr s with
  | some r => some r
  | none =>
    match d.portConds s p (c.parBit 17 0) (c.par 20 4) o.ioDef ws with
    | some r => some r
    | none =>
      match d.cwins.find? (fun x => x.2.en && !hasBit x.2.elig p && o.wins.any (fun w => w.en && meets w.ext w.num x.2.first x.2.num)) with
      | some x => some (conflict 3 1 x.1)
      | none => none

/-- SLICE_REBIND acts: the slice's messages go on in SC2 (R161). -/
def Dev.rebindApply (d : Dev) (c : PyrCmd) : Dev :=
  let f := fun (m : Msg) => if m.slice = some c.target ∧ (m.cls = .sc0 ∨ m.cls = .sc1) then { m with cls := .sc2 } else m
  Dev.beginSlice { d with buf := { d.buf with msgs := d.buf.msgs.map f } } c.target 4 (fun e => { e with pPort := c.par 16 1, pPasidEn := c.parBit 17 0, pPasid := c.par 20 4, pBase0 := rebindBase c 0, pBase1 := rebindBase c 1, pBase2 := rebindBase c 2, pBase3 := rebindBase c 3 })

/-! ### Rules, policers, logs, queues -/

/-- Rule k of a RULE_SET. -/
def ruleOf (c : PyrCmd) (k : Nat) : RuleE :=
  let x := c.par (16 + 12 * k) 12
  { en := hasBit x 0, rd := hasBit x 1, wr := hasBit x 2, atom := hasBit x 3, src := bits x 4 4, lock := hasBit x 8, base := bits x 16 40, limit := bits x 56 40 }

/-- Two enabled rules share a page, or one ends before it begins (R144). -/
def ruleOverlap : List RuleE → Bool
  | [] => false
  | r :: l => (r.en && (r.limit < r.base || l.any (fun o => o.en && r.base ≤ o.limit && o.base ≤ r.limit))) || ruleOverlap l

/-- RULE_SET refuses (R144). -/
def Dev.ruleConflict (d : Dev) (c : PyrCmd) : Option Res :=
  let s := c.target
  if ruleOverlap ((List.range 8).map (ruleOf c)) then some { status := stOverlap }
  else if (d.sl s).st ≠ slFree ∧ (d.rulesOf s).any (fun x => x.2.lock && x.2 != ruleOf c x.1) then some (conflict 1 (d.sl s).st s)
  else none

/-- RULE_SET acts: the whole set between two checks. -/
def Dev.ruleApply (d : Dev) (c : PyrCmd) : Dev :=
  { d with rules := (List.range 8).foldl (fun t k => Tbl.set t {} (8 * c.target + k) (ruleOf c k)) d.rules }

/-- The entry an EXTENT_DEFINE gives. -/
def extOf (c : PyrCmd) : ExtentE := unpackExtent (c.par 16 8)

/-- The port may hold an extent of an enabled coherent window (R264). -/
def Dev.winPortOk (d : Dev) (p : Nat) : Bool := d.role p == 2 || (d.paired && d.role p == 4)

/-- EXTENT_DEFINE refuses (R141, R210, R264, R281). -/
def Dev.extConflict (d : Dev) (c : PyrCmd) : Option Res :=
  let e := c.target
  let x := d.ext e
  let n := extOf c
  if x.mapcnt ≠ 0 ∨ x.st = 2 ∨ x.cat ∨ ((d.winOf e).isSome ∧ n.valid ∧ !d.winPortOk n.port) ∨ (d.paired ∧ d.role n.port = 4) then
    some (conflict 2 x.st e)
  else none

/-- EXTENT_DEFINE acts (R141). -/
def Dev.extApply (d : Dev) (c : PyrCmd) : Dev :=
  let e := c.target
  let x := d.ext e
  let n := { extOf c with st := x.st, cat := x.cat, mapcnt := x.mapcnt }
  if x.st = 3 then
    if n.valid then (d.setExt e n).queueScrub e else d.setExt e { n with st := 0 }
  else d.setExt e n

/-- SLICE_QOS (R168): the entry it gives, from bytes 16 to 47. -/
def policeOf (c : PyrCmd) : PoliceE := unpackPolice (c.par 16 32)

/-- DLOG_CONFIG refuses (R157). -/
def Dev.dlogConflict (d : Dev) (c : PyrCmd) : Option Res :=
  let e := d.sl c.target
  if e.st ≠ slBound ∨ (c.parBit 25 0 ∧ !e.pasidEn) then some (conflict 1 e.st c.target) else none

/-- A log entry takes a BASE and SIZE: a change of either starts it anew (R157). -/
def Dev.setDlog (d : Dev) (s base size : Nat) : Dev :=
  let l := Tbl.get d.dlogs {} s
  if l.base = base ∧ l.size = size then d
  else { d with dlogs := Tbl.set d.dlogs {} s { base := base, size := size } }.clearFilter s

/-- DLOG_EN is written: from 0 to 1 the filter and OVF clear (R156, R157). -/
def Dev.setDlogEn (d : Dev) (s : Nat) (en : Bool) : Dev :=
  let e := d.sl s
  let d := d.setSl s { e with dlogEn := en }
  if en ∧ !e.dlogEn then
    { d with dlogs := Tbl.upd d.dlogs {} s (fun l => { l with ovf := false }) }.clearFilter s
  else d

/-- DLOG_CONFIG acts. -/
def Dev.dlogApply (d : Dev) (c : PyrCmd) : Dev :=
  (d.setDlog c.target (c.par 16 8) (c.par 24 1)).setDlogEn c.target (c.parBit 25 0)

/-- SQ_ASSIGN acts: DMV.SQOWN holds owners as value, 8 none. -/
def Dev.sqApply (d : Dev) (c : PyrCmd) : Dev := d.setSqOwner c.target (c.par 16 1)

/-- QUEUE_QOS acts (R182): from the queue's next turn. -/
def Dev.queueQosApply (d : Dev) (c : PyrCmd) : Dev :=
  d.updQe c.target (fun e => { e with weight := c.par 16 1, burst := c.par 17 1 })

/-! ### Coherent windows (R94, R95) -/

/-- A window's entry. -/
def Dev.cwin (d : Dev) (w : Nat) : CWinE := Tbl.get d.cwins {} w

/-- Store a window's entry. -/
def Dev.setCwin (d : Dev) (w : Nat) (c : CWinE) : Dev := { d with cwins := Tbl.set d.cwins {} w c }

/-- A change of the window still runs. -/
def Dev.winBusy (d : Dev) (w : Nat) : Bool := (Tbl.get? d.winchg w).isSome

/-- The lowest ELIGIBLE bit that is no enabled HOST port. -/
def Dev.eligBad (d : Dev) (m : Nat) : Option Res :=
  match (List.range 64).find? (fun p => hasBit m p && !d.isHost p) with
  | some p => some (conflict 5 (d.linkSt p) p)
  | none => none

/-- The entry a WINDOW_SET gives. -/
def winNew (c : PyrCmd) : CWinE := unpackCWin (c.par 16 16)

/-- WINDOW_SET refuses (R94, R264), in the order R94 lists. -/
def Dev.winConflict (d : Dev) (c : PyrCmd) : Option Res :=
  let w := c.target
  let o := d.cwin w
  let n := winNew c
  if !o.en then
    if !n.en then (if d.winBusy w then some (conflict 3 2 w) else none)
    else if d.cwins.any (fun x => x.1 != w && x.2.en && meets n.first n.num x.2.first x.2.num) ||
        d.winchg.any (fun x => x.1 != w && x.2.kind == 1 && meets n.first n.num x.2.new.first x.2.new.num) then some (conflict 0 0 w)
    else if 65535 < n.first + n.num then some (conflict 0 0 w)
    else match d.eligBad n.elig with
      | some r => some r
      | none =>
        if d.winBusy w then some (conflict 3 2 w)
        else match d.extents.find? (fun x => n.first ≤ x.1 && x.1 ≤ n.first + n.num && x.2.valid && !d.winPortOk x.2.port) with
          | some x => some (conflict 2 x.2.st x.1)
          | none => none
  else
    match (if n.en then d.eligBad n.elig else none) with
    | some r => some r
    | none =>
      let bad := n.first ≠ o.first ∨ n.num ≠ o.num ∨ n.home ≠ o.home ∨
        (n.en ∧ ((n.rebuild ∧ !o.rebuild) ∨ (n.acacheEn ∧ !o.acacheEn) ∨ n.atomPass ≠ o.atomPass))
      if d.winBusy w then some (conflict 3 2 w) else if bad then some (conflict 3 1 w) else none

/-- Every atomic-cache line of a window is written back and released (R94, R123). -/
def Dev.flushWin (d : Dev) (c : CWinE) : Dev :=
  (List.range 16).foldl (fun d ds =>
    ((d.dir ds).ac.filter (fun a => let e := a.line / 2 ^ 24; c.first ≤ e && e ≤ c.first + c.num)).foldl (fun d a =>
      let d := d.acFlush ds a { src := .dev, cls := .wb, pool := a.line * 64 }
      match (d.dir ds).find (lineSet a.line) (tagOf a.line) with
      | some (wy, e) => if e.ac then d.freeWay ds (lineSet a.line) wy else d
      | none => d) d) d

/-- A window takes a new entry, here or at the partner (R21, R94, R95). -/
def Dev.setWindow (d : Dev) (w : Nat) (n : CWinE) : Dev :=
  let o := d.cwin w
  if !o.en then
    let off := (List.range 16).filter (fun ds => d.domSt (16 + ds) != .on)
    if !n.en ∨ off.isEmpty then d.setCwin w n
    else off.foldl (fun d ds => d.wakeDom (16 + ds)) { d with winchg := Tbl.put d.winchg w ⟨1, n⟩ }
  else if !n.en then { d with winchg := Tbl.put d.winchg w ⟨2, n⟩ }.recallAll 1 w 0 (rclWin w)
  else
    let gone := (List.range 64).filter (fun p => hasBit o.elig p && !hasBit n.elig p)
    let d := d.setCwin w { o with elig := o.elig ||| n.elig, rebuild := n.rebuild, predEn := n.predEn }
    let drop := o.acacheEn && !n.acacheEn
    if gone.isEmpty ∧ !drop then d
    else
      let d := { d with winchg := Tbl.put d.winchg w ⟨3, n⟩ }
      let d := if drop then d.flushWin o else d
      gone.foldl (fun d p => d.recallAll 3 w p (rclWin w)) d

/-- No line of the window is on its way to memory, and no AtomicOp to it runs (R94, R123). -/
def Dev.winWritten (d : Dev) (c : CWinE) : Bool :=
  let here := fun (e : Nat) => c.first ≤ e && e ≤ c.first + c.num
  let is := fun (m : Msg) => m.home && m.kind == .memWrite && here (m.pool / 2 ^ 30)
  !d.buf.msgs.any is && !d.port.any (fun e => e.2.outs.any (fun o => is o.msg)) && !d.dirs.any (fun (e : Nat × DirRt) => e.2.trks.any (fun t => t.bt == .atom && here (t.line / 2 ^ 24)))

/-- WINDOW_CHANGE_COMPLETE (R21, R94, R95): the wake, the recalls or the write-back are over; the change takes effect and its command completes. What AtomicOps in
flight left in the atomic caches is written back first. -/
def Dev.winDone (d : Dev) (w : Nat) : Dev :=
  match Tbl.get? d.winchg w with
  | none => d
  | some g =>
    let o := d.cwin w
    let drop := g.kind = 2 ∨ (g.kind = 3 ∧ o.acacheEn ∧ !g.new.acacheEn)
    let d := if drop then d.flushWin o else d
    let ready := if g.kind = 1 then (List.range 16).all (fun ds => d.domSt (16 + ds) == .on) else !d.recalling (rclWin w) && (!drop || d.winWritten o)
    if ready then
      let d := { d with winchg := Tbl.erase d.winchg w }
      (d.setCwin w (if g.kind = 3 then { o with elig := g.new.elig, acacheEn := o.acacheEn && g.new.acacheEn } else g.new)).endAction [0x18] w {}
    else d

/-- WAKE_FAIL (R33, R21): besides the router's part, an enable that waits for that directory slice fails: its window stays disabled. -/
def Dev.wakeFailed (d : Dev) (k : Nat) : Dev :=
  if d.domSt k = .waking then
    let d := d.wakeFail k
    if k < 16 then d
    else (d.winchg.filter (fun x => x.2.kind == 1)).foldl (fun d x =>
      { d with winchg := Tbl.erase d.winchg x.1 }.endAction [0x18] x.1 { status := stInternal }) d
  else d

/-! ### The slice state machine (R134, R135, R150) -/

/-- A slice has an outstanding request: one admitted or issued for it under its generation that is not completed, closed or discarded (R134). -/
def Dev.outstanding (d : Dev) (s : Nat) : Bool :=
  let g := d.gen s
  d.buf.msgs.any (fun m => m.slice == some s && m.gen == g) ||
  d.port.any (fun e => e.2.outs.any (fun o => o.msg.slice == some s && o.msg.gen == g)) ||
  d.dirs.any (fun (e : Nat × DirRt) => e.2.trks.any (fun t => !t.rcl && t.req.sliceOf == some s && t.req.gen == g) ||
    (e.2.park ++ e.2.retd).any (fun p => p.req.sliceOf == some s && p.req.gen == g)) ||
  d.skid.accs.any (fun b => isTenant b.q && qSlice b.q == s && b.gen == g)

/-- The slice enters RECALL: a recall in mode PORT if it maps an extent of an enabled coherent window; without one it enters ADVANCE. -/
def Dev.enterRecall (d : Dev) (s : Nat) : Dev :=
  let e := d.sl s
  if d.cwins.any (fun x => x.2.en && e.wins.any (fun w => w.en && meets w.ext w.num x.2.first x.2.num)) then
    (d.setSl s { e with st := slRecall }).recallAll 2 0 e.port (rclSlice s)
  else d.setSl s { e with st := slAdvance }

/-- SLICE_DRAIN_COMPLETE (R134). -/
def Dev.drained (d : Dev) (s : Nat) : Dev := if (d.sl s).st = slDrain ∧ !d.outstanding s then d.enterRecall s else d

/-- DRAIN_TIMEOUT (R134, R135): what is outstanding is abandoned; its responses come under the old generation. -/
def Dev.drainTmo (d : Dev) (s : Nat) : Dev := if (d.sl s).st = slDrain then d.enterRecall s else d

/-- Mappings of extents end: MAPCNT falls, remote ones are told to their owner. -/
def Dev.unmapAll (d : Dev) (es : List Nat) : Dev := es.foldl (fun d e => (d.mapDown e).unmapRemote e) d

/-- What a slice reset returns to its reset state (R134, R157, R168, R188). -/
def Dev.resetSlice (d : Dev) (s : Nat) : Dev :=
  let d := d.setSl s { d.sl s with dlogEn := false, lost := false }
  let d := { d with dlogs := Tbl.upd d.dlogs {} s (fun l => { base := l.base, size := l.size }) }.clearFilter s
  ((d.resetQueues s).resetPolice s).zeroSliceCtrs s false

/-- The action of ADVANCE (R134, R150): GEN advances and the row of the pending command is taken. `live`: outside the consistency pass, where
no vector is sent (R403). -/
def Dev.advance (d : Dev) (s : Nat) (live : Bool) : Dev :=
  let e := d.sl s
  let g := (e.gen + 1) % 256
  let clr : SliceE := { e with gen := g, st := slBound, pend := 0, pWin := 0, pPort := 0, pPasidEn := false, pPasid := 0, pBase0 := 0, pBase1 := 0, pBase2 := 0, pBase3 := 0 }
  match e.pend with
  | 1 =>
    let d := d.setSl s { gen := g, port := e.port, gdisc := e.gdisc }
    let d := (d.unmapAll e.exts).zeroSliceCtrs s true
    let d := { d with rules := Tbl.keep d.rules (fun k => k / 8 != s), dlogs := Tbl.erase d.dlogs s }.clearFilter s
    (d.setPolice s {}).endAction [0x11] s {}
  | 2 =>
    let w := e.wins.getD e.pWin {}
    ((d.setSl s (clr.setWin e.pWin { w with en := false })).unmapAll w.exts).endAction [0x11] s {}
  | 3 =>
    let d := (d.setSl s clr).resetSlice s
    (if live then d.sliceVec .dev .sc1 1 s 3 else d).endAction [0x13] s {}
  | 4 =>
    let w := fun (x : Window) b => { x with base := b }
    let n := { clr with port := e.pPort, pasidEn := e.pPasidEn, pasid := e.pPasid, dlogEn := false, win0 := w e.win0 e.pBase0, win1 := w e.win1 e.pBase1, win2 := w e.win2 e.pBase2, win3 := w e.win3 e.pBase3 }
    let d := d.setSl s n
    (if live then d.sliceVec .dev .sc1 1 s 3 else d).endAction [0x12] s {}
  | _ => d

/-- A line of the slice's extents that was written back is not in memory yet (R153, R154). -/
def Dev.wbPending (d : Dev) (s : Nat) : Bool :=
  let mine := fun (m : Msg) => m.home && m.kind == .memWrite && (d.sl s).exts.contains (m.pool / 2 ^ 30)
  d.buf.msgs.any mine || d.port.any (fun e => e.2.outs.any (fun o => mine o.msg))

/-- GENERATION_ADVANCE (R134, R150, R154): not while a written-back line of the slice is on its way to memory (log entry 166). -/
def Dev.genAdvance (d : Dev) (s : Nat) : Dev := if (d.sl s).st = slAdvance ∧ !d.wbPending s then d.advance s true else d

/-- RESERVATION_RETURN (R73): the reservation of a FREE slice returns to the pool once its charge is zero. -/
def Dev.resvReturn (d : Dev) (s : Nat) : Dev :=
  if (d.sl s).st = slFree ∧ d.buf.chg s = 0 then { d with buf := { d.buf with resv := Tbl.erase d.buf.resv s } } else d

end Sys2Proof.Machine
end

