-- ==== Sys2Proof/Machine/Expire.lean ====
section
/-! DEFINITION. Egress port loss (R77, R83 to R86, R129): the hold machine, the outcomes of messages for a lost port, and the rows whose
messages may meet one. -/
namespace Sys2Proof.Machine

/-- The port of the alternate head of a request's target (R85); one on the partner is absent while this device is ALONE (R292). -/
def Dev.altPort (d : Dev) (m : Msg) : Option Nat :=
  let x := d.ext (m.pool / 2 ^ 30)
  if m.alt && x.altEn && d.role m.egress == 2 && (d.prt m.egress).hold != holdAbsent then (if x.altPartner then (if d.pst = psAlone then none else d.mirrorPort) else some x.altPort) else none

/-- The other link a message for a lost XEPIN port moves to (R83). -/
def Dev.otherLink (d : Dev) (p : Nat) (m : Msg) : Option Nat :=
  if d.role p = 3 then
    match (d.xl p).nbr with
    | some g => Tbl.get d.xgrp.buckets none (64 * g + m.bucket)
    | none => none
  else none

/-- A Completer Abort for a request (R85, R146). -/
def Dev.answerCa (d : Dev) (r : DirReq) : Dev :=
  let d := d.dropReq r
  match r.src with
  | .host p => d.ioCplTo p r.sliceOf 0 .ioCplCa [r.tag]
  | .io p => d.ioCplTo p r.sliceOf r.part .ioCplCa [r.tag]
  | .skid q => d.accAnswer q r.tag false 0 2
  | .xep p _ _ _ io => d.toXep r p (if io then 0x85 else 0x80) 2 none false
  | .peer m _ _ => d.toXep r m 0x80 2 none false
  | .dev => d

/-- Data in answer to a message to memory: for the transaction of the directory that sent it, where it still waits for it, else for the requester (R110). -/
def Dev.giveData (d : Dev) (m : Msg) (data : Nat) (poison : Bool) : Dev :=
  if m.home then d.memData m.id m.pool data poison else d.answerData m.asReq data poison

/-- An AtomicOp ends with a Completer Abort: a transaction that ran it in PASS mode ends. -/
def Dev.failAtomic (d : Dev) (m : Msg) : Dev :=
  let ds := dsOf (m.pool / 64)
  if m.home then
    match (d.dir ds).trk (m.pool / 64) with
    | some t => if t.memWait ∧ t.memId = m.id then ((d.answerCa t.req).endTrk ds t).finalEnt ds (lineSet (m.pool / 64)) t {} else d
    | none => d
  else d.answerCa m.asReq

/-- The message is taken out of the buffer, or, sent and released already, the cells held for its response (R68). -/
def Dev.dropMsg (d : Dev) (m : Msg) : Dev :=
  match d.buf.msgs.find? (fun x => x.id == m.id) with
  | some x => d.release x false
  | none =>
    match m.slice with
    | some s => d.uncharge s m.resp
    | none => d

/-- A message goes to another port, ahead of later ones (R83, R85): from its place, or, sent already and whole, put back before all others. -/
def Dev.moveMsg (d : Dev) (m : Msg) (q : Nat) (alt : Bool) : Dev :=
  let f := fun (x : Msg) => { x with egress := q, hdrLeft := false, alt := alt, stage := 1 }
  if d.buf.msgs.any (fun x => x.id == m.id) then d.updMsg m.id (fun x => { f x with tag := m.tag })
  else
    let (b, cs) := Buf.grab (cellsFor m.bytes) d.buf []
    let n := f { m with cells := cs, dataIn := true, unrel := 0 }
    let d := { d with buf := { b with msgs := n :: b.msgs } }
    match m.sysPu, m.slice with
    | none, some s => d.charge s m.chg
    | _, _ => { d with buf := { d.buf with sysUse := tadd d.buf.sysUse (m.sysPu.getD 0) m.sysN } }

/-- A write of the directory is over, done or given up: what waits for it goes on. -/
def Dev.wroteHome (d : Dev) (m : Msg) : Dev := if m.home ∧ m.kind = .memWrite then d.wroteLine m.pool else d

/-- An outcome of R85 other than a reissue or a move. -/
def Dev.failMsg (d : Dev) (p : Nat) (m : Msg) : Dev :=
  let d := (d.dropMsg m).addSat (R.CP.CTFCNT.ERRCPL_CNT (cpOf p)) 1
  match m.kind with
  | .memRead => d.giveData m 0 true
  | .ioRead => d.answerCa m.asReq
  | .atomic => d.failAtomic m
  | .memWrite => d.wroteHome m
  | .ioWrite => d.postLost m
  | _ => d

/-- A snoop that can no longer be delivered: it expires (R111, R129). Its HOST port is the lost port, or, over the mirror link, the port it names (R128). -/
def Dev.loseSnoop (d : Dev) (p : Nat) (m : Msg) : Dev :=
  let d := (d.dropMsg m).addSat (R.CP.CTFCNT.ERRCPL_CNT (cpOf p)) 1
  let host := if d.role p = 4 then m.x.elim p (·.oidx) else p
  let ds := m.args.headD 0 / 256 % 16
  match (d.dir ds).trks.find? (fun t => t.bitag == some (m.args.headD 0 % 256) && t.waits.contains host) with
  | some t => d.expireSnoop ds t host
  | none => d

/-- R85 for one message of a lost port: reissue, move, or an outcome. A MAPREF with no other link waits for its group (R263). -/
def Dev.disposeMsg (d : Dev) (p : Nat) (m : Msg) : Dev :=
  if m.kind == .snoop then d.loseSnoop p m
  else match (if m.kind.isReq then d.altPort m else none) with
    | some q => d.moveMsg m q false
    | none =>
      match d.otherLink p m with
      | some q => d.moveMsg m q m.alt
      | none => if m.kind == .mapref then d.moveMsg m p m.alt else d.failMsg p m

/-- The port's hold has expired, or it was not UP at resume-ready (R234): a message for it is disposed of at once. -/
def Dev.lost (d : Dev) (p : Nat) : Bool := holdExpired ≤ (d.prt p).hold

/-- A message is queued for an expired port and does not wait there: a MAPREF with no other link waits for its group (R84, R263). -/
def Dev.overdue (d : Dev) (m : Msg) : Bool :=
  m.stage == 1 && !m.hdrLeft && d.lost m.egress && (m.kind != .mapref || (d.otherLink m.egress m).isSome)

/-- Dispose of the queued messages of expired ports (R84): a reissue or an answer may meet a further one. -/
def Dev.settleN : Nat → Dev → Dev
  | 0, d => d
  | n + 1, d =>
    match d.buf.msgs.filter d.overdue with
    | [] => d
    | l => Dev.settleN n (l.foldl (fun d m => d.disposeMsg m.egress m) d)

/-- A message takes at most three moves: its alternate head, another link, the answer. -/
def Dev.settle (d : Dev) : Dev := Dev.settleN 4 d

/-- Messages once each, in order. -/
def distinctMsgs (l : List Msg) : List Msg := l.foldl (fun r m => if r.any (fun x => x.id == m.id) then r else r ++ [m]) []

/-- Messages a lost port has sent that are not done: requests not answered, and on a Xepin link what lies in frames not acknowledged or not sent yet. -/
def Dev.sentOn (d : Dev) (p : Nat) : List Msg :=
  distinctMsgs ((d.prt p).outs.map (·.msg) ++ ((d.xl p).unack ++ (d.xl p).wait).filterMap (·.msg))

/-- The expiry actions (R85): EPOCH, HOLD_EXP, the queued messages, the requests sent and not answered; on a Xepin link its group, its
INSTANCE and what lies in unacknowledged frames; on a HOST port the sweep of R129. -/
def Dev.expirePort (d : Dev) (p : Nat) : Dev :=
  if (d.prt p).hold = holdExpired then d
  else
    let role := d.role p
    let sent := d.sentOn p
    let d := (d.off (R.PU.EPOCH.HOLD_ACT p)).set (R.PU.EPOCH.EPOCH p) ((d.get (R.PU.EPOCH.EPOCH p) + 1) % 256)
    let d := d.raise (.buf (cpOf p)) 4
    let d := d.updPrt p (fun r => { r with hold := holdExpired, outs := [] })
    let d := if role = 3 ∨ role = 4 then
        let (n, d) := d.draw 16
        (d.leaveGroup p).updXl p (fun x => { x with inst := some n, unack := [], wait := [], tries := 0 })
      else d
    let queued := d.buf.msgs.filter (fun m => m.stage == 1 && m.egress == p && !m.hdrLeft)
    let d := sent.reverse.foldl (fun d m => d.disposeMsg p m) d
    let d := queued.foldl (fun d m => d.disposeMsg p m) d
    let d := if role = 1 then d.portSweep p else d
    d.settle

/-- Link-down declared (R84): the hold starts, or expires at once with HOLD_US 0; the MIRROR port ignores HOLD_US (R286). From P0
HOLD_US is taken as 0 (R214). -/
def Dev.holdStart (d : Dev) (p : Nat) : Dev :=
  if (d.prt p).hold ≠ holdService then d
  else if (d.get (R.PU.EPOCH.HOLD_US p) = 0 ∨ d.saving) ∧ d.role p ≠ 4 then d.expirePort p
  else
    ((d.addSat (R.CP.HOLDCNT.VALUE (cpOf p)) 1).on (R.PU.EPOCH.HOLD_ACT p)).updPrt p (fun r => { r with hold := holdHold, holdUs := d.get (R.PU.EPOCH.HOLD_US p), holdFrom := d.time.cclk })

/-- HOLD_EXPIRE (R84, R85): the hold timer reaches HOLD_US. -/
def Dev.holdExpire (d : Dev) (p : Nat) : Dev :=
  if (d.prt p).hold = holdHold ∧ d.role p ≠ 4 then d.expirePort p else d

/-! ### Rows whose messages may meet a lost port -/

/-- The code of a snoop response on a Xepin link (R252). -/
def SnpRsp.code : SnpRsp → Nat
  | .i => 0
  | .s => 1
  | .e => 2

/-- BIRSP (R58, R102, R110, R128): an answer to a snoop of the partner goes back over the mirror link, to its port. -/
def Dev.birspIn (d : Dev) (p bitag : Nat) (rsp : SnpRsp) : Dev :=
  if !d.ideOk p then d
  else
    let d := d.taken (d.arrival (fun m => m.kind == .snpRsp && d.portOf m.pu == some p && m.tag == bitag))
    match d.mirrorPort with
    | none => d.birsp p bitag rsp
    | some m =>
      match (d.xl m).fsnoop.find? (fun f => f.1 == p && f.2.1 == bitag) with
      | some f =>
        (d.updXl m (fun x => { x with fsnoop := x.fsnoop.erase f })).enq { src := .dev, cls := .scp, kind := .snpRsp, egress := m, bytes := 16, tag := bitag, op := .xRsp, x := some { d.xHdr .dev none f.2.2 (0x88 + rsp.code) with odev := d.pins.devId ^^^ 1, oidx := p }, slice := none }
      | none => d.birsp p bitag rsp

/-- BICONFLICT (R58, R112, R128, R252): about a line whose home is the partner it goes there, and the home's ack comes behind its completions. -/
def Dev.biconflictIn (d : Dev) (p pool : Nat) : Dev :=
  if !d.ideOk p then d
  else
    let d := d.taken (d.arrival (fun m => m.kind == .biConflict && d.portOf m.pu == some p))
    match (d.winOf (pool / 2 ^ 30)), d.mirrorPort with
    | some (_, c), some m =>
      if d.isHome c then d.biconflict p pool
      else d.enq { src := .dev, cls := .scp, kind := .biConflict, egress := m, bytes := 16, op := .xReq, x := some { d.xHdr .dev none pool 0x1B with oidx := p }, slice := none }
    | _, _ => d.biconflict p pool

/-- WAKE_FAIL (R33, R21, R119): an AtomicOp that waits for a directory slice that failed to wake gets a Completer Abort. -/
def Dev.wakeFails (d : Dev) (k : Nat) : Dev :=
  if d.domSt k = .waking then
    let d := d.wakeFailed k
    if k < 16 then d
    else
      let at_ := (d.dir (k - 16)).retd.filter (fun p => p.req.cls == .atom)
      let d := d.updDir (k - 16) (fun x => { x with retd := x.retd.filter (fun p => p.req.cls != .atom) })
      at_.foldl (fun d p => d.answerCa p.req) d
  else d

end Sys2Proof.Machine
end

