-- ==== Sys2Proof/Machine/Msg.lean ====
section
/-! DEFINITION. What arrives on a port (R13, R65, R68 to R78, R86, R138, R145, R146, R183, R214, R234): verification units, the admission of host requests,
credits, responses, CXL.io requests, the doorbell page. -/
namespace Sys2Proof.Machine

/-! ### Cells of arriving units (R64, R65, R72, R76) -/

/-- Words a unit fills. -/
def UnitFmt.words : UnitFmt → Nat
  | .flit256Lo | .xepin => 2
  | .flit256 => 4
  | .flit68 => 1

/-- Halves are units of their own. -/
def UnitFmt.halves : UnitFmt → Bool
  | .flit256Lo | .xepin => true
  | _ => false

/-- The unit's place in the port unit's sequence of units. -/
def RxUnit.place (u : RxUnit) : Nat := if u.fmt.halves then 2 * u.seq + u.half else u.seq

/-- The unit is the first above the last one written (R74, R76). -/
def RxUnit.isNext (u : RxUnit) (last : Option (Nat × Nat)) : Bool :=
  match last with
  | none => true
  | some (s, h) => u.place == (if u.fmt.halves then 2 * s + h else s) + 1

/-- The cell a unit of a writer goes to: its open cell, else a new one in the bank the allocator took, or the lowest one it may take (R64). -/
def Buf.cellFor (b : Buf) (w words bank : Nat) : Option (Nat × Buf) :=
  match Tbl.get? b.opens w with
  | some (c, n) => some (c, { b with opens := if 4 ≤ n + words then Tbl.erase b.opens w else Tbl.put b.opens w (c, n + words) })
  | none =>
    match (if b.mayOpen bank then some bank else b.anyBank) with
    | none => none
    | some k =>
      match b.pick k with
      | none => none
      | some c => some (c, { b with opens := if 4 ≤ words then b.opens else Tbl.put b.opens w (c, words) })

/-- A half 0 begins a new cell: a cell still open from the flit before is closed (R65). -/
def Buf.startFlit (b : Buf) (w : Nat) (u : RxUnit) : Buf :=
  if u.fmt.halves && (u.half == 0 || !u.carries) then { b with opens := Tbl.erase b.opens w } else b

/-- What a message of a XEPIN or MIRROR port holds above its slice's limit is charged to the port unit's system reserve (R71). -/
def Dev.overLimit (d : Dev) (id : Nat) : Dev :=
  match d.buf.msgs.find? (fun m => m.id == id) with
  | none => d
  | some m =>
    match (if m.sysPu.isNone && d.isXep m.pu then m.slice else none) with
    | none => d
    | some s =>
      let n := min m.chg (d.buf.chg s - d.sliceLimit)
      if n = 0 then d
      else
        let d := (d.uncharge s n).updMsg id (fun x => { x with chg := x.chg - n, sysPu := some m.pu, sysN := n })
        { d with buf := { d.buf with sysUse := tadd d.buf.sysUse m.pu n } }

/-- What reading the data of a message finds that came after its header left (R88): lost data is poisoned. -/
def Dev.dataRead (d : Dev) (m : Msg) : Dev × Msg :=
  match m.readErr .none with
  | .none => (d, m)
  | .single => (d.bufCe m.bankCp, { m with flaw := 0 })
  | .double => (d.raise (.buf m.bankCp) 0, { m with poison := true, stomp := true, flaw := 0 })

/-- The last unit of a message is written: it is charged its cells (R68, R71). One whose header has left is done: its data follows, marked where it is poisoned. -/
def Dev.wholeMsg (d : Dev) (m : Msg) : Dev :=
  let (d, m) := if m.hdrLeft then d.dataRead m else (d, m)
  let n := { m with dataIn := true, sysN := if m.sysPu.isSome then m.touch else 0, chg := if m.sysPu.isNone ∧ m.slice.isSome then m.touch else 0 }
  let d := d.updMsg m.id (fun _ => n)
  let d := match m.sysPu, m.slice with
    | some p, _ => { d with buf := { d.buf with sysUse := tadd d.buf.sysUse p m.touch } }
    | none, some s => (d.charge s m.touch).overLimit m.id
    | none, none => d
  if n.hdrLeft then
    let d := if d.isXep n.egress then d.dataOut n else if n.stomp then d.emit (d.egressChan n.egress) .msgPoison [n.id, n.tag] else d
    if d.keeps n then d else d.release n n.kind.asksData
  else d

/-- The messages of an arrival are whole. -/
def Dev.whole (d : Dev) (arr : Nat) : Dev := (d.buf.msgs.filter (fun m => m.arr == arr && !m.dataIn)).foldl Dev.wholeMsg d

/-- A unit in a cell carries data of messages (R65): each touches the cell. -/
def Dev.carry (d : Dev) (cell h : Nat) (arrs : List Nat) : Dev :=
  let fresh := d.buf.msgs.filter (fun m => arrs.contains m.arr && !m.dataIn && !m.cells.contains cell)
  let f := fun (m : Msg) => if arrs.contains m.arr && !m.dataIn then
      ({ m with cells := if m.cells.contains cell then m.cells else m.cells ++ [cell], touch := if m.cells.contains cell then m.touch else m.touch + 1 } : Msg).hurt 0 h
    else m
  { d with buf := { d.buf with msgs := d.buf.msgs.map f, cells := if fresh.isEmpty then d.buf.cells else tadd d.buf.cells cell fresh.length } }

/-! ### Admission of host requests (R138, R145, R146, R214) -/

/-- A write that is never checked (R103, R110, R145): a write-back from a listed holder, or snoop data. Where the partner is home to the window it alone knows
what its directory lists: a write that carries a MetaValue goes there unchecked (log entry 154). -/
def Dev.isWb (d : Dev) (p pool mv : Nat) : Bool :=
  let line := pool / 64
  let x := d.dir (dsOf line)
  (d.winOf (pool / 2 ^ 30)).any (fun w =>
    if d.isHome w.2 then
      (x.trk line).any (fun t => t.waits.contains p) ||
        (x.find (lineSet line) (tagOf line)).any (fun e => (x.before line e.2).lists { src := .host p, cls := .wb, pool := pool, mv := [Mv.i, .s, .a, .none].getD mv .none })
    else decide (mv < 3))

/-- The outcome of a refused CXL.mem request (R146, R96). The data of a read of private memory goes in SC0, as any (R161). -/
def Dev.refuseMem (d : Dev) (p : Nat) (s : Option Nat) (m : Msg) : Dev :=
  match m.kind with
  | .memRead =>
    let d := if m.mv = 1 ∨ m.mv = 2 then d.toHost p .cpl .cmp [m.tag] 16 false else d
    if ((s.bind (fun s => d.translate s m.addr)).bind (fun a => d.winOf (a / 2 ^ 30))).isSome then d.toHost p .data .memDataPoison [m.tag, 0] 80 true
    else d.enq { src := .host p, cls := .sc0, kind := .data, egress := p, bytes := 80, op := .memDataPoison, args := [m.tag, 0], poison := true, slice := s, gen := s.elim 0 d.gen }
  | .memInv => d
  | _ => d.toHost p .cpl .cmp [m.tag] 16 false

/-- What a CXL.mem request needs (R145). -/
def Msg.need (m : Msg) : Nat := if m.kind == .memRead then (if m.mv == 2 then 3 else 1) else 2

/-- What is sent to a memory device for a CXL.mem request. -/
def MsgKind.memOp : MsgKind → Op
  | .memRead => .memRd
  | _ => .memWr

/-- The OP of a CXL.mem request of private memory on a Xepin link (R252). -/
def MsgKind.xOp : MsgKind → Nat
  | .memRead => 1
  | .memInv => 4
  | _ => 5

/-- An arriving message joins the buffer in the cell its header lies in (R65). -/
def Dev.joinAt (d : Dev) (m : Msg) : Dev :=
  let n := { m with id := d.buf.nextId, since := d.time.cclk }
  { d with buf := { d.buf with nextId := d.buf.nextId + 1, msgs := d.buf.msgs ++ [n], cells := m.cells.foldl (fun t c => tadd t c 1) d.buf.cells } }

/-- What is counted and captured of a message that enters the buffer at port p (R351, R360). -/
def Dev.seenIn (d : Dev) (p : Nat) (m : Msg) : Dev :=
  ((d.count (ctrPu p) 0x01 (some m.cls) 1).count (ctrPu p) 0x03 (some m.cls) m.cost).capture 0 p m

/-- A CXL.mem request of HOST port p is attributed, checked and admitted, or refused (R138, R145, R146). `at_`: the arrival as its header lies in the buffer. -/
def Dev.admitMem (d : Dev) (p : Nat) (at_ m : Msg) : Dev :=
  let seq := d.get R.PRS.STATE.SEQ
  if 4 ≤ seq then d
  else
    match d.memSlice p m.addr with
    | none => Dev.refuseMem (if d.saving then d else d.pvRecord (pvStand p) 0 p 0 { kind := 5 } m.addr false false) p none m
    | some s =>
      let wb := match d.translate s m.addr with
        | some pool => if m.kind == .memWrite && d.isWb p pool m.mv then some pool else none
        | none => none
      let frozen := d.saving && (m.kind == .memRead || (m.kind == .memInv && seq == 3))
      let chk : Except Deny Nat := match wb with
        | some pool => .ok pool
        | none => if frozen then .error { kind := 0, quiet := true } else d.checkPart s m.addr 0 m.need
      match chk with
      | .error r => ((d.pvRecord (pvStand p) s p 0 r m.addr false false).count (ctrSl s) 0x35 none 1).refuseMem p (some s) m
      | .ok pool =>
        let cls : Cls := if wb.isSome then .scp else if m.kind == .memRead then .sc0 else .sc1
        let n : Msg := { at_ with src := .host p, slice := some s, cls := cls, kind := m.kind, addr := d.reqAddr pool, pool := pool, bytes := m.bytes, ask := m.ask, egress := d.memPort s pool, gen := d.gen s, tag := m.tag, alt := (d.ext (pool / 2 ^ 30)).altEn, mv := m.mv, op := d.reqOp pool m.kind.memOp, args := d.reqAddr pool :: m.args, x := some { d.xHdr (.host p) (some s) pool m.kind.xOp with data := m.args.headD 0, be := m.args.getD 1 allBytes }, sysPu := if wb.isSome then some at_.pu else none, stage := if wb.isSome then 2 else 0, resp := if m.kind == .memRead then 2 else 0 }
        let d := d.joinAt n
        let d := if m.kind == .memRead then d.charge s 2 else d
        let d := if wb.isSome then d.emit (.noc 0) .dirReq [pool, m.tag, m.kind.code] else d
        d.seenIn p n

/-- The class of a CXL.io message (R161). -/
def MsgKind.ioCls : MsgKind → Cls
  | .ioRead => .sc0
  | .ioWrite | .atomic => .sc1
  | .ioCplData => .sc0
  | _ => .scp

/-- A CXL.io message from a MEM port is charged to the port unit's system reserve (R71). -/
def Dev.admitIo (d : Dev) (p : Nat) (at_ m : Msg) : Dev :=
  let n : Msg := { at_ with src := .io p, kind := m.kind, cls := m.kind.ioCls, addr := m.addr, bytes := m.bytes, ask := m.ask, egress := m.egress, tag := m.tag, op := m.op, args := m.args, sysPu := some at_.pu, stage := 1 }
  (d.joinAt n).seenIn p n

/-- A header of a unit, by the port's role. A HOST port's CXL.mem requests and a MEM port's CXL.io messages are admitted here. Any other message stays in its
cell as an arrival until its own command takes it (log entry 40). -/
def Dev.takeMsg (d : Dev) (p pu cell arr : Nat) (saf : Bool) (m : Msg) : Dev :=
  let at_ : Msg := { pu := pu, cells := [cell], touch := 1, dataIn := false, arr := arr, saf := saf, poison := m.poison, flaw := m.flaw }
  let wait := fun (d : Dev) => d.joinAt { at_ with kind := m.kind, bytes := m.bytes, ask := m.ask, addr := m.addr, tag := m.tag, args := m.args, stage := 3 }
  if d.role p = 1 then
    let d := d.updPrt p (fun r => { r with grant := r.grant.use m.kind (m.bytes - 16) })
    if m.kind == .memRead || m.kind == .memWrite || m.kind == .memInv then d.admitMem p at_ m else wait d
  else match m.kind with
    | .ioRead | .ioWrite | .ioCpl | .ioCplData | .atomic => d.admitIo p at_ m
    | _ => wait d

/-! ### UNIT_RECEIVE -/

/-- A unit fails its check (R74, R76, R400). -/
def Dev.badUnit (d : Dev) (p pu : Nat) : Dev :=
  let d := (d.count (ctrPu p) 0x06 none 1).addSat (R.PU.CRCCNT.CNT pu) 1
  if d.get (R.PU.CRCCNT.THRESH pu) ≠ 0 ∧ d.get (R.PU.CRCCNT.THRESH pu) ≤ d.get (R.PU.CRCCNT.CNT pu) then d.raise (.pu pu) 7 else d

/-- Record the last unit written (R76). -/
def Dev.lastUnit (d : Dev) (pu : Nat) (u : RxUnit) : Dev := d.updPrt pu (fun r => { r with seq := some (u.seq, u.half) })

/-- A port unit receives in store-and-forward mode (R78). -/
def Dev.saf (d : Dev) (pu : Nat) : Bool := hasBit (d.get (R.CP.BUFCTL.SAF (cpOf pu))) (pu % 16)

/-- In store-and-forward mode a unit just written keeps the messages it carries until its release (R78). -/
def Dev.keepUnit (d : Dev) (pu : Nat) (arrs : List Nat) : Dev :=
  if d.saf pu then
    { d with buf := { d.buf with msgs := d.buf.msgs.map (fun (m : Msg) => if m.pu = pu ∧ arrs.contains m.arr then { m with unrel := m.unrel + 1 } else m) } }.updPrt pu (fun r => { r with saf := r.saf ++ [arrs] })
  else d

/-- A good unit in sequence is written (R64, R65, R68, R75): its headers are arrivals in their order. -/
def Dev.writeUnit (d : Dev) (p pu : Nat) (u : RxUnit) : Dev :=
  match (d.buf.startFlit pu u).cellFor pu u.fmt.words u.bank with
  | none => d.raise (.buf (cpOf pu)) 2
  | some (cell, b) =>
    let (h, w, inj) := d.bufInject (cell / 65536) u.fmt.words
    let d := Dev.lastUnit { d with buf := b, inj := inj } pu u
    let first := d.buf.nextArr
    let nums := u.heads.zip ((List.range u.heads.length).map (first + ·))
    let d := d.carry cell (max h w) (u.completes ++ u.goesOn)
    let d := { d with buf := { d.buf with nextArr := first + u.heads.length } }
    let saf := d.saf pu
    let d := nums.foldl (fun d x => d.takeMsg p pu cell x.2 saf (x.1.hurt h w)) d
    let d := d.count (ctrCp (cell / 65536)) 0x20 none 1
    let d := d.keepUnit pu (u.completes ++ u.goesOn ++ nums.map (·.2))
    (u.completes ++ (nums.filter (fun x => x.1.dataIn)).map (·.2)).foldl Dev.whole d

/-- UNIT_RECEIVE (R58, R72, R74, R76). -/
def Dev.unitIn (d : Dev) (pu : Nat) (u : RxUnit) : Dev :=
  match d.portOf pu with
  | none => d
  | some p =>
    if !(d.isUp p && (d.isHost p || d.isMem p) && d.ideOk p) then d
    else if !u.good then d.badUnit p pu
    else if !u.isNext (d.prt pu).seq then d
    else if !u.carries then (Dev.lastUnit { d with buf := d.buf.startFlit pu u } pu u)
    else d.writeUnit p pu u

/-- SAF_RELEASE (R78): the oldest written unit is released to egress. A message leaves only when every unit that carries it has been released. -/
def Dev.safRelease (d : Dev) (pu : Nat) : Dev :=
  match (d.prt pu).saf with
  | [] => d
  | l :: rest =>
    { d with buf := { d.buf with msgs := d.buf.msgs.map (fun (m : Msg) => if m.pu = pu ∧ l.contains m.arr then { m with unrel := m.unrel - 1 } else m) } }.updPrt pu (fun r => { r with saf := rest })

/-! ### CREDIT_GRANT (R69, R70, R214, R216, R234) -/

/-- Kinds of credit a HOST port still grants at a state of the sequencer. -/
def CreditKind.granted (k : CreditKind) (seq : Nat) : Bool :=
  if seq = 0 then k != .memReq && k != .memData
  else if seq = 1 then true
  else if seq ≤ 3 then k != .memReq && k != .ioNpHdr && k != .ioNpData
  else false

/-- A CXL.io credit. -/
def CreditKind.isIo (k : CreditKind) : Bool := k != .memReq && k != .memData

/-- The system reserve of a port unit of the port is full (R67, R71): all of its 64 cells but the 8 held for the Skidder's system queues (R194). -/
def Dev.reserveFull (d : Dev) (p : Nat) : Bool := (List.range (d.prt p).width).any (fun i => 56 ≤ Tbl.get d.buf.sysUse 0 (p + i))

/-- A HOST port returns a credit when the test of R70 passes; a MEM port a CXL.io credit while its system reserve is not full (R71). A joiner of a pair grants no
CXL.mem credits (R295). -/
def Dev.creditGrant (d : Dev) (p : Nat) (k : CreditKind) : Dev :=
  if !(d.isUp p && d.ideOk p) then d
  else if d.isMem p then (if k.isIo && !d.reserveFull p then d.emit (.mem p) .credit [k.code] else d)
  else if !(d.isHost p && k.granted (d.get R.PRS.STATE.SEQ)) || (!k.isIo && d.is R.PAIR.SYNCSTS.JOINER) then d
  else
    let g := (d.prt p).grant
    if d.mayGrant p ((g.add k).cells - g.cells) d.slicesOf then (d.updPrt p (fun r => { r with grant := r.grant.add k })).emit (.host p) .credit [k.code]
    else d.count (ctrPu p) 0x07 none 1

/-! ### MEM_RESPONSE (R68, R86, R87, R110, R120, R149) -/

/-- A late response (R86). -/
def Dev.late (d : Dev) (p : Nat) : Dev := ((d.raise (.buf (cpOf p)) 5).addSat (R.PU.EPOCH.LATE_CNT p) 1).count (ctrPu p) 0x08 none 1

/-- The class of a read's data on its way to the requester (R161): SCP in coherent windows, SC2 for a slice that a rebind drains, else SC0. -/
def Dev.dataCls (d : Dev) (m : Msg) : Cls :=
  if (d.winOf (m.pool / 2 ^ 30)).isSome then .scp else if m.slice.any (fun s => (d.sl s).st = slDrain ∧ (d.sl s).pend = 4) then .sc2 else .sc0

/-- Data for a request from memory (R104, R110, R161): to the transaction that sent it; a line of a request for several with the others; else on to the requester, in the
cells it arrived in. -/
def Dev.respond (d : Dev) (a : Option Msg) (m : Msg) (data : Nat) (poison : Bool) : Dev :=
  if m.home then d.memData m.id m.pool data poison
  else if (d.broughtBy m.asReq).any (·.gathers) then d.answerData m.asReq data poison
  else
    let d := d.takeReq m.asReq
    let n : Msg := { src := m.src, tag := m.tag, cls := d.dataCls m, kind := .data, bytes := 16 + m.ask, poison := poison, slice := m.slice, gen := m.gen, pool := m.pool, part := m.part }
    let rsp := fun (p code : Nat) => { d.xRspMsg m.asReq p code 0 (some (data, (m.ask + 63) / 64)) poison with cls := n.cls, slice := m.slice, gen := m.gen }
    match m.src with
    | .host p => d.enqFrom a { n with egress := p, op := .memData, args := [m.tag, data] }
    | .io p => d.enqFrom a { n with kind := .ioCplData, egress := p, op := .ioCpl, args := [m.tag, data] }
    | .xep p _ _ _ io => d.enqFrom a (rsp p (if io then 0x85 else 0x84))
    | .peer l _ _ => d.enqFrom a (rsp l 0x84)
    | _ => d.answerData m.asReq data poison

/-- The response of an outstanding request acts (R149: unless its slice's generation has changed). What the directory sent for a request acts on its line whatever has
become of the slice; the request's own answer is discarded then. -/
def Dev.responded (d : Dev) (p : Nat) (a : Option Msg) (m : Msg) (kind : MsgKind) (data : Nat) (poison : Bool) : Dev :=
  let d := d.dropMsg m
  if d.stale m then d.dropStale m.asReq
  else match m.kind with
    | .memRead => d.respond a m data poison
    | .memWrite | .memWb =>
      let d := d.witnessOf p m
      if m.home then d.wroteHome m else d.answerCpl m.asReq .cmp
    | .memInv => d.answerCpl m.asReq .cmpM
    | .ioRead => if kind == .ioCpl then d.answerCa m.asReq else d.respond a m data poison
    | .atomic => if kind == .ioCpl then d.failAtomic m else d.respond a m data poison
    | _ => d

/-- The outstanding request a response's tag names on a port: by epoch and entry (R86). -/
def Dev.outFor (d : Dev) (p tag : Nat) : Option OutReq :=
  if tag / 4096 % 16 ≠ d.get (R.PU.EPOCH.EPOCH p) % 16 then none else (d.prt p).outs.find? (fun o => o.idx == tag % 4096)

/-- A response on a MEM or XEPIN port is matched to its request (R86). -/
def Dev.memRsp (d : Dev) (p : Nat) (a : Option Msg) (tag : Nat) (kind : MsgKind) (data : Nat) (poison : Bool) : Dev :=
  match d.outFor p tag with
  | none => d.late p
  | some o => (d.updPrt p (fun r => { r with outs := r.outs.filter (fun x => x.idx != o.idx) })).responded p a o.msg kind data poison

/-- MEM_RESPONSE. What the directory waits for acts once its data is in; the rest is forwarded as it comes (R75). -/
def Dev.memRspIn (d : Dev) (p tag : Nat) (kind : MsgKind) (data : Nat) (poison : Bool) : Dev :=
  if !(d.isUp p && (d.isMem p || d.isXep p) && d.ideOk p) then d
  else
    let a := d.arrival (fun m => m.kind == kind && m.tag == tag && d.portOf m.pu == some p)
    if a.any (fun m => !m.dataIn) && (d.outFor p tag).all (fun o => o.msg.home || o.msg.paid || (d.broughtBy o.msg.asReq).any (·.gathers)) then d
    else d.withArrival p (if kind == .data || kind == .ioCplData then 80 else 16) a (fun d => d.memRsp p a tag kind data (poison || a.any (·.poison)))

/-! ### The doorbell page (R156, R157, R183, R184) -/

/-- A queue's QCTL and QSTS as read. -/
def QueueE.qctl (e : QueueE) : Nat := bit e.en + 2 * bit e.abort + 4 * bit e.resume + 16 * e.size
def QueueE.qsts (e : QueueE) : Nat := e.st + 8 * bit e.rej + 16 * e.lastStatus + 65536 * e.head

/-- A queue's register at an offset of its 0x100 bytes. -/
def Dev.qRegRead (d : Dev) (q o : Nat) : Nat :=
  let e := d.qe q
  match o with
  | 0x00 => e.qctl
  | 0x04 => e.qsts
  | 0x08 => e.tail
  | 0x0C => e.okSeq
  | 0x10 => bits e.ring 0 32
  | 0x14 => bits e.ring 32 32
  | 0x18 => bits e.cpl 0 32
  | 0x1C => bits e.cpl 32 32
  | 0x20 => bits e.hwb 0 32
  | 0x24 => bits e.hwb 32 32
  | _ => 0

/-- A set-up register: it takes a write only while the queue is DISABLED. -/
def Dev.qSetup (d : Dev) (q : Nat) (f : QueueE → QueueE) : Dev :=
  if (d.qe q).st = qDisabled then d.updQe q f else d.updQe q (fun e => { e with rej := true })

/-- The low or high half of a 64-bit value replaced. -/
def setHalf (x : Nat) (hi : Bool) (v : Nat) : Nat := if hi then x % 2 ^ 32 + 2 ^ 32 * (v % 2 ^ 32) else x / 2 ^ 32 * 2 ^ 32 + v % 2 ^ 32

/-- A write of QCTL: SIZE, then EN, RESUME, ABORT. -/
def Dev.qctlWrite (d : Dev) (q v : Nat) : Dev :=
  let d := if bits v 4 5 = (d.qe q).size then d else d.qSetup q (fun e => { e with size := bits v 4 5 })
  let d := if hasBit v 0 = (d.qe q).en then d else if hasBit v 0 then d.queueEnable q else d.queueDisable q
  let d := if hasBit v 2 then d.queueResume q else d
  if hasBit v 1 then d.queueAbort q else d

/-- A write of a queue's register. -/
def Dev.qRegWrite (d : Dev) (q o v : Nat) : Dev :=
  match o with
  | 0x00 => d.qctlWrite q v
  | 0x04 => if hasBit v 3 then d.updQe q (fun e => { e with rej := false }) else d
  | 0x08 => d.tailWrite q v
  | 0x10 => d.qSetup q (fun e => { e with ring := setHalf e.ring false v })
  | 0x14 => d.qSetup q (fun e => { e with ring := setHalf e.ring true v })
  | 0x18 => d.qSetup q (fun e => { e with cpl := setHalf e.cpl false v })
  | 0x1C => d.qSetup q (fun e => { e with cpl := setHalf e.cpl true v })
  | 0x20 => d.qSetup q (fun e => { e with hwb := setHalf e.hwb false v })
  | 0x24 => d.qSetup q (fun e => { e with hwb := setHalf e.hwb true v })
  | _ => d

/-- A doorbell-page write takes effect. -/
def Dev.dbWrite (d : Dev) (s o v : Nat) : Dev :=
  if o < 0x200 then d.mirrorQueue (d.qRegWrite (2 * s + o / 0x100) (o % 0x100) v) (2 * s + o / 0x100)
  else if o = 0x200 then { d with dlogs := Tbl.upd d.dlogs {} s (fun l => { l with ci := v % 2 ^ 16 % 2 ^ l.size }) }
  else if o = 0x204 then (if hasBit v 0 then d.clearFilter s else d)
  else d

/-- A doorbell-page register as read. -/
def Dev.dbRead (d : Dev) (s o : Nat) : Nat :=
  if o < 0x200 then d.qRegRead (2 * s + o / 0x100) (o % 0x100) else if o = 0x200 then (Tbl.get d.dlogs {} s).ci else 0

/-- The checks of a doorbell-page access of port p attributed to `t`: the refusal, recorded with DB = 1 (R183), but not while a command of its slice runs (R148). -/
def Dev.dbDeny (d : Dev) (p s : Nat) (t : Option Nat) (off : Nat) : Option Dev :=
  let st := (d.sl s).st
  if (d.sl s).port = p ∧ (st = slDrain ∨ st = slRecall ∨ st = slAdvance) then some d
  else if !(st = slBound ∧ (d.sl s).port = p) then some (d.pvRecord (pvStand p) 0 p 1 { kind := 5 } off false true)
  else match t with
    | none => some (d.pvRecord (pvStand p) 0 p 1 { kind := 5 } off false true)
    | some t => if t = s then none else some (d.pvRecord (pvStand p) t p 1 { kind := 2 } off false true)

/-- A write at offset `o` of the doorbell page of slice s, by port p for the slice `t`: served here, or, on the SECONDARY of a pair, by the PRIMARY (R275). -/
def Dev.pageWrite (d : Dev) (p s : Nat) (t : Option Nat) (o v : Nat) : Dev :=
  match d.dbDeny p s t (0x1000 * s + o) with
  | some d => d
  | none => if d.forwards then d.fwdWrite s o v else d.dbWrite s o v

/-- A HOST port takes traffic: it is up and, where it must be, secure (R58). -/
def Dev.takesIo (d : Dev) (p : Nat) : Bool := d.isHost p && d.isUp p && d.ideOk p

/-! ### CXLIO_REQUEST (R138, R145, R146, R183, R214, R234) -/

/-- The permission a CXL.io request needs, its length, and whether it is answered. -/
def IoReq.shape : IoReq → Nat × Nat × Nat × Bool
  | .memRd a n => (a, n, 1, true)
  | .memWr a n _ => (a, n, 2, false)
  | .atomic a k _ _ => (a, k.width, 4, true)
  | .cfg | .doorbellRd _ | .doorbellWr _ _ | .msixRd _ _ | .msixWr _ _ _ => (0, 0, 1, true)

/-- The kind of its message. -/
def IoReq.kind : IoReq → MsgKind
  | .memWr _ _ _ | .doorbellWr _ _ | .msixWr _ _ _ => .ioWrite
  | .atomic _ _ _ _ => .atomic
  | .cfg | .memRd _ _ | .doorbellRd _ | .msixRd _ _ => .ioRead

/-- The bytes of its message (R164). -/
def IoReq.bytes : IoReq → Nat
  | .memWr _ n _ => 16 + n
  | .atomic _ k _ _ => 16 + k.octets
  | .doorbellWr _ _ | .msixWr _ _ _ => 20
  | .cfg | .memRd _ _ | .doorbellRd _ | .msixRd _ _ => 16

/-- Its OP on a Xepin link (R252). -/
def IoReq.xOp : IoReq → Nat
  | .memWr _ _ _ => 0x11
  | .atomic _ k _ _ => 8 + k.num
  | _ => 0x10

/-- The header of a part on a Xepin link (R251): the lines accessed, and the bytes written in them. -/
def Dev.ioHdr (d : Dev) (p s pool n v : Nat) (req : IoReq) : XMsg :=
  let h := { d.xHdr (.io p) (some s) pool req.xOp with len := linesOf pool n - 1 }
  match req with
  | .memWr _ _ _ => { h with data := v * 2 ^ (8 * (pool % 64)), be := if linesOf pool n = 1 then (2 ^ n - 1) * 2 ^ (pool % 64) else allBytes }
  | .atomic _ k a c => { h with data := atomLine k a c }
  | _ => h

/-- One allowed part goes on as a message at its slice's policer. -/
def Dev.ioPart (d : Dev) (p : Nat) (a : Option Msg) (s pool n off tag part : Nat) (req : IoReq) : Dev :=
  let k := req.kind
  let v := match req with
    | .memWr _ _ v => bits v (8 * off) (8 * n)
    | _ => 0
  let arg := match req with
    | .memWr _ _ _ => [v]
    | .atomic _ o a c => [o.width, a, c]
    | _ => []
  let m : Msg := { src := .io p, pu := p, slice := some s, cls := k.ioCls, kind := k, addr := d.reqAddr pool, pool := pool, bytes := if k == .ioWrite then 16 + n else req.bytes, ask := if k == .ioWrite then 0 else n, egress := d.memPort s pool, gen := d.gen s, tag := tag, alt := (d.ext (pool / 2 ^ 30)).altEn, stage := 0, part := part, op := d.reqOp pool (if k == .atomic then .atomicOp else .ioReq), args := d.reqAddr pool :: n :: arg, x := some (d.ioHdr p s pool n v req) }
  (d.seenIn p m).enqFrom a m

/-- The parts of a memory request: allowed ones go on, refused ones meet their outcome; one record for the lowest refused part. -/
def Dev.ioParts (d : Dev) (p : Nat) (a : Option Msg) (s tag : Nat) (req : IoReq) : Dev :=
  let (addr, n, need, np) := req.shape
  let ps := partsOf addr n
  let split := 1 < ps.length
  let r := (ps.zip (List.range ps.length)).foldl (fun (x : Dev × Bool) q =>
    match x.1.checkPart s q.1.1 1 need with
    | .ok pool => (x.1.ioPart p a s pool q.1.2 (q.1.1 - addr) tag q.2 req, x.2)
    | .error e =>
      let d := if x.2 then x.1 else (x.1.pvRecord (pvStand p) s p 1 e q.1.1 split false).count (ctrSl s) 0x35 none 1
      (if np then d.ioCplTo p (some s) q.2 .ioCplCa [tag] else d, true)) (d, false)
  r.1

/-- What a CXL.io request does. The tag of its answer is the number of the buffer's next message. -/
def Dev.ioAct (d : Dev) (p : Nat) (a : Option Msg) (pasid : Option Nat) (req : IoReq) : Dev :=
  let seq := d.get R.PRS.STATE.SEQ
  let tag := d.buf.nextId
  let np := req.kind != .ioWrite
  if 4 ≤ seq then d
  else if d.saving ∧ np then d.ioCplTo p none 0 .ioCplCa [tag]
  else match req with
    | .cfg => if seq = 0 then d.ioCplTo p none 0 .ioCplCrs [tag] else d.ioCplTo p none 0 .ioCpl [tag]
    | .doorbellRd off =>
      match d.dbDeny p (off / 0x1000 % 512) (d.ioSlice p pasid) off with
      | some d => d.ioCplTo p none 0 .ioCplCa [tag]
      | none => d.ioCplTo p none 0 .ioCpl [tag, d.dbRead (off / 0x1000 % 512) (off % 0x1000)]
    | .msixRd i k => d.ioCplTo p none 0 .ioCpl [tag, (Tbl.get d.msix {} (2048 * p + i)).word k]
    | .msixWr i k v => d.msixWrite p i k v
    | .doorbellWr off v => d.pageWrite p (off / 0x1000 % 512) (d.ioSlice p pasid) (off % 0x1000) v
    | _ =>
      match d.ioSlice p pasid with
      | none =>
        let (addr, n, _, _) := req.shape
        let ps := partsOf addr n
        let d := d.pvRecord (pvStand p) 0 p 1 { kind := 5 } addr (1 < ps.length) false
        if np then (List.range ps.length).foldl (fun d i => d.ioCplTo p none i .ioCplCa [tag]) d else d
      | some s => d.ioParts p a s tag req

/-- CXLIO_REQUEST (R58, R72): a request that is forwarded is taken as its header comes (R75); one the device carries out itself when it is whole. -/
def Dev.ioIn (d : Dev) (p : Nat) (pasid : Option Nat) (req : IoReq) : Dev :=
  if !d.takesIo p then d
  else
    let a := d.arrival (fun m => m.kind == req.kind && m.bytes == req.bytes && d.portOf m.pu == some p)
    d.withArrival p req.bytes a (fun d => d.ioAct p a pasid req)

end Sys2Proof.Machine
end

