-- ==== Sys2Proof/Machine/Clock.lean ====
section
/-! DEFINITION. Clocks, rails and temperature (R15 to R18, R370, R372, R378, R383 to R385, R396 to R398). -/
namespace Sys2Proof.Machine

/-- Every lane of every port unit loses symbol lock: its SerDes PLL has lost its reference (R18); the lock timers start (R52). -/
def Dev.allUnlock (d : Dev) : Dev :=
  (List.range 64).foldl Dev.lockTimers ((List.range 64).foldl (fun (d : Dev) p => d.off (R.PU.LNKSTS.SYMLOCK p)) d)

/-- REFCLK_LOST (R17, R18, R398): the event; a locked root PLL enters holdover; lanes lose lock; always-on logic that ran on REFCLK
switches clock. -/
def Dev.refclkLost (d : Dev) : Dev :=
  if d.clk.refclk then
    let d := { d with clk := { d.clk with refclk := false } }
    let d := d.raise .ctp 0
    let d := if d.clk.locked && !d.clk.holdover then { d with clk := { d.clk with holdover := true } }.raise .ctp 1 else d
    let d := if d.clk.onMclk then d else d.raise .ctp 6
    d.allUnlock
  else d

/-- A signed number in `w` bits. -/
def signed (w : Nat) (v : Int) : Nat := (v % (2 ^ w : Int)).toNat

/-- The value of a `w`-bit two's complement number. -/
def toSigned (w v : Nat) : Int := if v % 2 ^ w < 2 ^ (w - 1) then (v % 2 ^ w : Nat) else ((v % 2 ^ w : Nat) : Int) - 2 ^ w

/-- One clock's result of a monitor window (R17): the ratio error, and a frequency fault beyond 1 part in 1,000. DESIGN CHOICE: FREQERR holds the low 16
bits of the error; the spec does not say what it shows beyond -32,768 to 32,767 (log entry 140). -/
def Dev.freqErr (d : Dev) (k : Nat) (e : Int) : Dev :=
  let d := d.set (R.FREQERR.PPM k) (signed 16 e)
  if e < -1000 ∨ 1000 < e then d.raise .ctp (2 + k) else d

/-- REFCLK has edges again: a window was measured against it, or the root PLL has locked to it. The table has no row for its return (log entry 141). -/
def Dev.refBack (d : Dev) : Dev := { d with clk := { d.clk with refclk := true } }

/-- CLOCK_MONITOR_WINDOW (R17): a window of REFCLK has passed; derived clocks run once the root has locked. -/
def Dev.clockWindow (d : Dev) (c n m a : Int) : Dev :=
  if d.clk.locked then (((d.refBack.freqErr 0 c).freqErr 1 n).freqErr 2 m).freqErr 3 a else d.refBack

/-- ROOT_PLL_LOCK (R378, R16, R398): the dividers start, and the always-on logic switches to MCLK. -/
def Dev.rootLock (d : Dev) : Dev :=
  if d.pins.perstN && !d.clk.locked && !d.clk.pllFail && d.clk.aon then
    { d with clk := { d.clk with refclk := true, locked := true, onMclk := true } }.raise .ctp 6
  else d

/-- Record the cause of a reset (R397): RSTCAUSE holds the causes of the latest reset, COUNT the resets since VDD_AON power-on. -/
def Dev.rstCause (d : Dev) (por perst rail pll : Bool) : Dev :=
  ((((d.put R.TOP.RSTCAUSE.POR por).put R.TOP.RSTCAUSE.PERST perst).put R.TOP.RSTCAUSE.CORE_RAIL rail).put R.TOP.RSTCAUSE.PLL pll).addSat
    R.TOP.RSTCAUSE.COUNT 1

/-- PLL_LOCK_TIMEOUT (R378, R397): not locked 2 ms after PERST_N rose: everything outside AON stays in reset, ERR_N low (Dev.errNLow); the lock
failure joins the causes of that reset. -/
def Dev.pllTimeout (d : Dev) : Dev :=
  if d.pins.perstN && !d.clk.locked && !d.clk.pllFail then
    { d with clk := { d.clk with pllFail := true } }.on R.TOP.RSTCAUSE.PLL
  else d

/-- The operating range of rail r in mV (R370). Bounds below a millivolt are taken to the nearest millivolt inside the range. -/
def railRange (r : Nat) : Nat × Nat :=
  [(728, 772), (776, 824), (882, 918), (1164, 1236), (1710, 1890), (728, 772), (3135, 3465)].getD r (0, 0)

/-- Nominal voltage of rail r in mV (R370). -/
def railNominal (r : Nat) : Nat := [750, 800, 900, 1200, 1800, 750, 3300].getD r 0

/-- A rail's level as last seen. -/
def Dev.railLevel (d : Dev) (r mv : Nat) : Dev := { d with clk := { d.clk with railMv := Tbl.set d.clk.railMv 0 r mv } }

/-- RAIL_FAULT (R398, R307): a rail outside its operating range for 1 us. Without VDD_CORE in range no gate drives its FET on. -/
def Dev.railFault (d : Dev) (r mv : Nat) : Dev :=
  let d := d.railLevel r mv
  let (lo, hi) := railRange r
  if mv < lo ∨ hi < mv then
    let d := { d with clk := { d.clk with railsOut := r :: d.clk.railsOut.filter (· != r) } }
    let d := d.raise .ctp (9 + r)
    if r = 0 ∨ r = 6 then d.emit .pins .gateDrive [32, 0] else d
  else { d with clk := { d.clk with railsOut := d.clk.railsOut.filter (· != r) } }

/-- The highest of the sensor readings, and its sensor. -/
def hottest (l : List Int) : Int × Nat :=
  (l.zip (List.range l.length)).foldl (fun (m, k) (t, i) => if m < t then (t, i) else (m, k)) (l.headD 0, 0)

/-- THERMAL_SAMPLE (R383, R384, R385): readings of the 20 sensors; throttling engages at THROTTLE_C, releases 5 degrees below, and is
suspended from P0 until PERST_N; 112 degrees raises TCRIT. -/
def Dev.thermal (d : Dev) (temps : List Int) : Dev :=
  if temps.length = 20 then
    let d := (temps.zip (List.range 20)).foldl (fun d (t, i) => d.set (R.TEMP.C i) (signed 8 t)) d
    let (h, k) := hottest temps
    let d := (d.set R.TOP.THRSTS.HIGH (signed 8 h)).set R.TOP.THRSTS.SENSOR k
    let c := (d.get R.TOP.THRCTL.THROTTLE_C : Int)
    let d :=
      if d.saving then d.off R.TOP.THRSTS.ENGAGED
      else if c ≤ h then
        if d.is R.TOP.THRSTS.ENGAGED then d
        else ((d.on R.TOP.THRSTS.ENGAGED).addSat R.TOP.THRSTS.COUNT 1).raise .ctp 7
      else if h ≤ c - 5 then d.off R.TOP.THRSTS.ENGAGED
      else d
    if 112 ≤ h then d.raise .ctp 8 else d
  else d

/-- DSTATE_MODE_WRITE (R396): SERVICE and TEST by software; any other write of MODE changes nothing and sets REJ. -/
def Dev.modeWrite (d : Dev) (m : Nat) : Dev :=
  if d.get R.TOP.DSTATE.MODE = 1 ∧ m = 2 then d.set R.TOP.DSTATE.MODE 2
  else if d.get R.TOP.DSTATE.MODE = 2 ∧ m = 1 then d.set R.TOP.DSTATE.MODE 1
  else d.on R.TOP.DSTATE.REJ

end Sys2Proof.Machine
end

