-- ==== Sys2Proof/Machine/Save.lean ====
section
/-! DEFINITION. The phases P2 to P4 of the save sequence (R212, R218 to R221). -/
namespace Sys2Proof.Machine

/-- A bit mask of 64 ports kept in two registers. -/
def Dev.mark64 (d : Dev) (l h : Fld) (p : Nat) : Dev := d.set64 l h (setB (d.get64 l h) p)

/-! ### Phases -/

/-- Microseconds since the present state was entered, as the PnT registers hold them. -/
def Dev.phaseUs (d : Dev) : Nat := min ((d.time.cclk - d.prs.since) / 2000) 0xFFFF

/-- Enter a state of the sequencer. -/
def Dev.toSeq (d : Dev) (n : Nat) : Dev := { d with prs := { d.prs with since := d.time.cclk } }.set R.PRS.STATE.SEQ n

/-- Home A (false) or home B (true): extent, slot, named. -/
def Dev.home (d : Dev) (b : Bool) : Nat × Nat × Bool :=
  if b then (d.get R.PRS.HOMEB.EXT, d.get R.PRS.HOMEB.SLOT, d.is R.PRS.HOMEB.VALID)
  else (d.get R.PRS.HOMEA.EXT, d.get R.PRS.HOMEA.SLOT, d.is R.PRS.HOMEA.VALID)

/-- The key of a home's region among `stored`. -/
def Dev.homeKey (d : Dev) (b : Bool) : Nat := 128 * (d.home b).1 + (d.home b).2.1

/-- The MEM port of a home. -/
def Dev.homePort (d : Dev) (b : Bool) : Nat := (d.ext (d.home b).1).port

/-- A home has failed (R220). -/
def Dev.homeBad (d : Dev) (b : Bool) : Dev := { d with prs := { d.prs with bad := if d.prs.bad.contains (bit b) then d.prs.bad else d.prs.bad ++ [bit b] } }

/-- P3 ends (R212, R221): the homes that did not fail are read back. -/
def Dev.toP4 (d : Dev) : Dev :=
  let d := (d.set R.PRS.P3T.US d.phaseUs).toSeq 6
  let d := { d with prs := { d.prs with home := 5 } }
  [false, true].foldl (fun d b => if d.prs.bad.contains (bit b) then d else d.emit (.mem (d.homePort b)) .homeRead [(d.home b).1, (d.home b).2.1]) d

/-- Start writing a home (R220): a home whose port is not UP fails at once, one whose port is in GPF_MISS fails and is written all the same. -/
def Dev.startHome (d : Dev) (b : Bool) : Dev :=
  let p := d.homePort b
  let d := { d with prs := { d.prs with since := d.prs.since, home := if b then 3 else 1 } }
  let d := if hasBit (d.get64 R.PRS.GPFMISS_L.VALUE R.PRS.GPFMISS_H.VALUE) p then d.homeBad b else d
  if d.isUp p then d.emit (.mem p) .homeWrite ([(d.home b).1, (d.home b).2.1] ++ d.prs.img.elim [] Image.bytes) else d.homeBad b

/-- A home is over: home B starts, or P4. -/
def Dev.homeOver (d : Dev) (b : Bool) : Dev :=
  if b then d.toP4
  else
    let d := d.startHome true
    if d.isUp (d.homePort true) then d else d.toP4

/-- P2 ends (R212, R220): armed, the image is built and home A is written; unarmed, P4 follows with nothing to read back. -/
def Dev.toP3 (d : Dev) : Dev :=
  let d := { d with prs := { d.prs with gpf := [] } }.set R.PRS.P2T.US d.phaseUs
  if d.is R.PRS.CTL.ARMED then
    let d := (d.toSeq 5).set R.PRS.CATLEN.BYTES 905232
    let r := d.drawImage 0
    let d := { r.2 with prs := { d.prs with img := some r.1, bad := [] } }
    let d := d.startHome false
    if d.isUp (d.homePort false) then d else d.homeOver false
  else
    let d := (d.on R.PRS.RESULT.NOT_ARMED).toSeq 6
    { d with prs := { d.prs with img := none, home := 5, bad := [0, 1] } }

/-- P2 ends once every capable port has a result. -/
def Dev.p2Check (d : Dev) : Dev := if d.get R.PRS.STATE.SEQ = 4 ∧ d.prs.gpf.isEmpty then d.toP3 else d

/-- A port's result (R218): OK, or MISS. -/
def Dev.gpfResult (d : Dev) (p : Nat) (ok : Bool) : Dev :=
  let d := { d with prs := { d.prs with gpf := Tbl.erase d.prs.gpf p } }
  if ok then d.mark64 R.PRS.GPFOK_L.VALUE R.PRS.GPFOK_H.VALUE p
  else ((d.mark64 R.PRS.GPFMISS_L.VALUE R.PRS.GPFMISS_H.VALUE p).addSat R.PRS.RESULT.MISS_CNT 1).on R.PRS.RESULT.P2_MISS |>.raise .prs 0

/-- A port's result ends P2 when it is the last. -/
def Dev.gpfEnd (d : Dev) (p : Nat) (ok : Bool) : Dev := (d.gpfResult p ok).p2Check

/-- A capable port's link goes down in P2: MISS (R218). -/
def Dev.gpfDown (d : Dev) (p : Nat) : Dev :=
  if d.get R.PRS.STATE.SEQ = 4 ∧ (Tbl.get? d.prs.gpf p).isSome then d.gpfEnd p false else d

/-- A capable port (R218). -/
def Dev.capable (d : Dev) (p : Nat) : Bool :=
  d.isMem p && d.isUp p && (d.prt p).partner.gpf &&
    d.extents.any (fun x => x.2.valid && !x.2.vol && (x.2.port == p || (x.2.altEn && !x.2.altPartner && x.2.altPort == p)))

/-- GPF_PORT_START (R218): the port's write queue is empty. -/
def Dev.gpfStart (d : Dev) (p : Nat) : Dev :=
  let wr := fun (m : Msg) => m.egress == p && (m.kind == .memWrite || m.kind == .memWb || m.kind == .ioWrite)
  if d.get R.PRS.STATE.SEQ = 4 ∧ Tbl.get? d.prs.gpf p = some 0 ∧ !d.buf.msgs.any wr ∧ !(d.prt p).outs.any (fun o => wr o.msg) then
    { d with prs := { d.prs with gpf := Tbl.put d.prs.gpf p 1 } }.emit (.mem p) .gpf1 [p]
  else d

/-- GPF_PHASE1_RESPONSE (R218). -/
def Dev.gpfOne (d : Dev) (p : Nat) (ok : Bool) : Dev :=
  if d.get R.PRS.STATE.SEQ = 4 ∧ Tbl.get? d.prs.gpf p = some 1 then
    if ok then { d with prs := { d.prs with gpf := Tbl.put d.prs.gpf p 2 } }.emit (.mem p) .gpf2 [p] else d.gpfEnd p false
  else d

/-- GPF_PHASE2_RESPONSE (R218, R219). -/
def Dev.gpfTwo (d : Dev) (p : Nat) (ok : Bool) : Dev :=
  if d.get R.PRS.STATE.SEQ = 4 ∧ Tbl.get? d.prs.gpf p = some 2 then
    if !ok then d.gpfEnd p false
    else match Tbl.get? d.prs.witness p with
      | some w => { d with prs := { d.prs with gpf := Tbl.put d.prs.gpf p 3 } }.emit (.mem p) .witnessRead [w.addr, w.n]
      | none => d.gpfEnd p true
  else d

/-- What a witness read returned is what was written. -/
def Witness.agrees (w : Witness) (data : Nat) : Bool := (List.range w.n).all (fun i => !hasBit w.be i || bits w.data (8 * i) 8 == bits data (8 * i) 8)

/-- WITNESS_READ_COMPLETE (R219). -/
def Dev.witnessRead (d : Dev) (p data : Nat) (ok : Bool) : Dev :=
  if d.get R.PRS.STATE.SEQ = 4 ∧ Tbl.get? d.prs.gpf p = some 3 then d.gpfEnd p (ok && (Tbl.get? d.prs.witness p).any (fun w => w.agrees data)) else d

/-- GPF_WAIT_EXPIRE (R218): every port without a result is MISS. -/
def Dev.gpfExpire (d : Dev) : Dev :=
  if d.get R.PRS.STATE.SEQ = 4 then (d.prs.gpf.foldl (fun d (x : Nat × Nat) => d.gpfResult x.1 false) d).toP3 else d

/-! ### P3 (R220) -/

/-- HOME_WRITE_COMPLETE (R220): the home's region holds the image; its flush is sent. A write that ends in error fails the home. -/
def Dev.homeWritten (d : Dev) (b ok : Bool) : Dev :=
  if d.get R.PRS.STATE.SEQ = 5 ∧ d.prs.home = (if b then 3 else 1) then
    if ok then
      let d := match d.prs.img with
        | some i => { d with prs := { d.prs with stored := Tbl.put d.prs.stored (d.homeKey b) i, home := d.prs.home + 1 } }
        | none => d
      d.emit (.mem (d.homePort b)) .gpf2 [d.homePort b]
    else (d.homeBad b).homeOver b
  else d

/-- HOME_FLUSH_RESPONSE (R220). -/
def Dev.homeFlushed (d : Dev) (b ok : Bool) : Dev :=
  if d.get R.PRS.STATE.SEQ = 5 ∧ d.prs.home = (if b then 4 else 2) then Dev.homeOver (if ok then d else d.homeBad b) b else d

/-- HOME_TIMEOUT (R220): the home's 500 us run out. -/
def Dev.homeTimeout (d : Dev) (b : Bool) : Dev :=
  if d.get R.PRS.STATE.SEQ = 5 ∧ (if b then d.prs.home = 3 ∨ d.prs.home = 4 else d.prs.home = 1 ∨ d.prs.home = 2) then (d.homeBad b).homeOver b else d

/-- P3_TIMEOUT (R212): a home not finished has failed. -/
def Dev.p3Timeout (d : Dev) : Dev :=
  if d.get R.PRS.STATE.SEQ = 5 then
    let d := if d.prs.home ≤ 2 then d.homeBad false else d
    (d.homeBad true).toP4
  else d

end Sys2Proof.Machine
end

