-- ==== Sys2Proof/Machine/Ports.lean ====
section
/-! DEFINITION. Ports: configuration checks, bring-up, power states, lane and link loss, IDE, diagnostics (R38 to R61, R400). -/
namespace Sys2Proof.Machine

/-- PU.ERRSTS bits. -/
abbrev puUP : Nat := 0
abbrev puDOWN : Nat := 1
abbrev puLANE : Nat := 2
abbrev puEQ : Nat := 3
abbrev puTYPE : Nat := 4
abbrev puREJ : Nat := 5
abbrev puIDE : Nat := 8
abbrev puKEY : Nat := 9

/-- Width of a port in port units by PU.CFG.WIDTH: x4, x8, x16. -/
def Dev.cfgUnits (d : Dev) (p : Nat) : Nat := 2 ^ d.get (R.PU.CFG.WIDTH p)

/-- The stands XEPIN and MIRROR ports lie in (R42). -/
def xepStand (p : Nat) : Bool := p / 4 == 0 || p / 4 == 4 || p / 4 == 8 || p / 4 == 12

/-- The configuration of a port unit is legal for an enable (R39's fields apart, R41 to R44, R315, and EQCTL of R400). -/
def Dev.cfgLegal (d : Dev) (p : Nat) : Bool :=
  let role := d.role p
  let w := d.cfgUnits p
  let cov := (List.range 64).filter (fun q => p ≤ q && q < p + w)
  1 ≤ role && role ≤ 4 && d.get (R.PU.CFG.WIDTH p) != 3 && p % w == 0 &&
  (role == 3 || role == 4 || d.get (R.PU.CFG.MAX_RATE p) ≤ 5) &&
  (!d.is (R.PU.CFG.FLIT68 p) || role == 1) &&
  (!d.is (R.PU.CFG.SLOT_EN p) || role == 2) &&
  ((role != 3 && role != 4) || xepStand p) &&
  (role != 4 || (d.get (R.PU.CFG.WIDTH p) == 1 && !d.is (R.PU.CFG.XCOMPAT p) &&
    !(List.range 64).any (fun q => (d.prt q).ex && d.role q == 4))) &&
  (d.portOf p).isNone &&
  cov.all (fun q => q == p || ((d.portOf q).isNone && d.role q == 0 && !d.is (R.PU.LNKCTL.ENABLE q))) &&
  (List.range 4).all (fun i => bits (d.get (R.PU.EQCTL.PRE p)) (4 * i) 4 ≤ 10) &&
  (!d.is (R.PU.CFG.SLOT_EN p) || !(List.range 64).any (fun q => q != p && d.is (R.PU.CFG.SLOT_EN q) &&
    d.is (R.PU.LNKCTL.ENABLE q) && d.get (R.PU.CFG.SLOT q) == d.get (R.PU.CFG.SLOT p)))

/-- Nothing holds the port back in WAIT_PWR (R45): no slot binding, or the bound slot's PG is asserted. -/
def Dev.powerOk (d : Dev) (p : Nat) : Bool := !d.is (R.PU.CFG.SLOT_EN p) || d.is (R.SLT.STS.PG (d.get (R.PU.CFG.SLOT p)))

/-- Width code of a port with `w` port units (LNKSTS.LWIDTH). -/
def widthCode (w : Nat) : Nat := if w = 1 then 2 else if w = 2 then 3 else 4

/-- The L1 exit latency the port advertises, from and to, in microseconds (R50). -/
def Dev.l1Exit (d : Dev) (p : Nat) : List Nat := if d.is (R.PU.PMCTL.DORMANT_EN p) then [32, 64] else [2, 4]

/-- What the port offers in training (R38, R39, R50): its highest rate, 68-B flits, latency-optimized flits, reversal, equalization bypass, L0p and L1, the L1
exit latency. What R38 marks No (L0s, the L1 substates, Loopback) is offered by no port. -/
def Dev.offers (d : Dev) (p : Nat) : List Nat :=
  let cxl := d.role p == 1 || d.role p == 2
  [if cxl then d.get (R.PU.CFG.MAX_RATE p) else if d.is (R.PU.CFG.XCOMPAT p) then 7 else 6, d.get (R.PU.CFG.FLIT68 p), d.get (R.PU.CFG.LOPT p), d.get (R.PU.CFG.LREV_EN p),
    d.get (R.PU.CFG.EQ_BYP p), bit cxl, bit (cxl && d.is (R.PU.PMCTL.L1_EN p))] ++ d.l1Exit p

/-- Link training starts at 2.5 GT/s (R45). -/
def Dev.train (d : Dev) (p : Nat) : Dev :=
  ((d.set (R.PU.LNKSTS.STATE p) 2).off (R.PU.LNKSTS.RATE p)).emit (.host p) .linkTrain (p :: d.offers p)

/-- The PRBS generators of a port unit's lanes run (R59): PATTERN 5 to 7 and RATE 7 act as 0. -/
def Dev.prbsOut (d : Dev) (q : Nat) : Dev :=
  let pat := d.get (R.PU.PRBSCTL.PATTERN q)
  let rate := d.get (R.PU.PRBSCTL.RATE q)
  if d.is (R.PU.PRBSCTL.RUN q) then d.emit (.host q) .prbs [q, if 4 < pat then 0 else pat, if rate = 7 then 0 else rate] else d

/-- The port units of a port. -/
def Dev.units (d : Dev) (p : Nat) : List Nat := (List.range (d.prt p).width).map (p + ·)

/-- Start training (R45), or the PRBS generators and checkers of every lane in DIAG. -/
def Dev.leaveWait (d : Dev) (p : Nat) : Dev :=
  if d.linkSt p = 1 ∧ d.powerOk p ∧ !(d.prt p).held then
    if d.is (R.PU.LNKCTL.DIAG p) then (d.units p).foldl Dev.prbsOut (d.set (R.PU.LNKSTS.STATE p) 5) else d.train p
  else d

/-- Enter WAIT_PWR, and leave it at once where nothing holds the port. -/
def Dev.enterWait (d : Dev) (p : Nat) : Dev := ((d.xepBring p).set (R.PU.LNKSTS.STATE p) 1).leaveWait p

/-- What ENABLE going from 0 to 1 zeroes (R48, R53, R61, EPOCH, R400) in a port unit. -/
def Dev.zeroUnit (d : Dev) (q : Nat) : Dev :=
  ((((((((d.off (R.PU.LNKSTS.LNKDN_CNT q)).off (R.PU.LNKSTS.LANEFAIL q)).off (R.PU.EQSTS.DONE q)).off (R.PU.EQSTS.FAILED q)).off
    (R.PU.EQSTS.PRESET q)).off (R.PU.EPOCH.LATE_CNT q)).off (R.PU.RPLYCNT.CNT q)).off (R.PU.CRCCNT.CNT q))

/-- The port comes into existence and begins bring-up (R44, R45); an illegal configuration sets CFG_REJ and leaves ENABLE 0 and the port OFF. -/
def Dev.startPort (d : Dev) (p : Nat) : Dev :=
  if d.cfgLegal p then
    let w := d.cfgUnits p
    let d := d.on (R.PU.LNKCTL.ENABLE p)
    let d := ((List.range 64).filter (fun q => p ≤ q && q < p + w)).foldl Dev.zeroUnit d
    (d.updPrt p (fun r => { r with ex := true, width := w, seq := none, neg := widthCode w, recov := false, unlockAt := [], refused := false })).enterWait p
  else (d.off (R.PU.LNKCTL.ENABLE p)).raise (.pu p) puREJ

/-- LINK_ENABLE (R44, R45): ENABLE goes from 0 to 1. -/
def Dev.linkEnable (d : Dev) (p : Nat) : Dev :=
  if d.is (R.PU.LNKCTL.ENABLE p) then d else if d.cfgLegal p then (d.startPort p).cfgChange else d.startPort p

/-- Clear what describes the trained link. -/
def Dev.clearLink (d : Dev) (p : Nat) : Dev :=
  ((((d.off (R.PU.LNKSTS.RATE p)).off (R.PU.LNKSTS.LWIDTH p)).off (R.PU.LNKSTS.PM p)).off (R.PU.LNKSTS.FLIT p)).off (R.PU.LNKSTS.REVERSED p)

/-- The link goes to Disabled, the port ceases to exist, a hold expires (R45, R84). DESIGN CHOICE: its IDE streams and their keys stay as they are; R58 speaks
of an IDE failure only (log entry 38). -/
def Dev.stopPort (d : Dev) (p : Nat) : Dev :=
  let d := (d.cutFail p (d.prt p).width).expirePort p
  let d := ((d.clearLink p).off (R.PU.LNKCTL.RETRAIN p)).set (R.PU.LNKSTS.STATE p) 0
  (d.updPrt p (fun r => { r with ex := false, recov := false, seq := none, grant := {}, unlockAt := [] })).emit (.host p) .linkDisable [p]

/-- LINK_DISABLE (R45, R84): ENABLE goes from 1 to 0. -/
def Dev.linkDisable (d : Dev) (p : Nat) : Dev :=
  if d.is (R.PU.LNKCTL.ENABLE p) then ((d.off (R.PU.LNKCTL.ENABLE p)).cfgChange).stopPort p else d

/-- L0p at a width code 1 to 5 (x1 to x16). DESIGN CHOICE: from L1 the link goes to L0p at once, its exit from L1 included; R51 does not speak of L1 there
(log entry 39). -/
def Dev.enterL0p (d : Dev) (p w : Nat) : Dev :=
  if d.isUp p ∧ (d.isHost p ∨ d.isMem p) ∧ 2 ≤ d.get (R.PU.LNKSTS.FLIT p) ∧ 1 ≤ w ∧ w - 1 < (d.prt p).neg then
    (((d.set (R.PU.LNKSTS.PM p) 1).set (R.PU.LNKSTS.LWIDTH p) (w - 1)).lockTimers p).emit (.host p) .linkPm [p, 1, w]
  else d

/-- L0p is asked for whenever L0P_WIDTH is below the negotiated width (R51); 0 and the codes 5 to 7 ask for none. -/
def Dev.askL0p (d : Dev) (p : Nat) : Dev :=
  let w := d.get (R.PU.PMCTL.L0P_WIDTH p)
  if w = 0 ∨ 4 < w then d else d.enterL0p p w

/-- The lanes of port p marked lost (R53). -/
def Dev.marked (d : Dev) (p : Nat) : List Nat :=
  (List.range (laneCount (d.prt p).width)).filter (fun i => d.laneBit R.PU.LNKSTS.LANEFAIL p i)

/-- The widest legal width code on lanes other than `bad` that is at most `top` lanes (R53): on the lowest lanes, or on the highest
where both ends support reversal; and whether it is reversed. -/
def Dev.legalWidth (d : Dev) (p top : Nat) (bad : List Nat) : Option (Nat × Bool) :=
  let n := laneCount (d.prt p).width
  let rev := d.is (R.PU.CFG.LREV_EN p) && (d.prt p).partner.lrev
  ([(4, 16), (3, 8), (2, 4), (1, 2), (0, 1)].filter (fun e => e.2 ≤ top && e.2 ≤ n)).findSome? (fun (c, k) =>
    if bad.all (fun i => k ≤ i) then some (c, false)
    else if rev && bad.all (fun i => i < n - k) then some (c, true)
    else none)

/-- The port reaches UP on its unmarked lanes (R45, R54, R84): LINK_UP; L0P_WIDTH acts (R51); a hold ends and its queues are read again in their order. -/
def Dev.toUp (d : Dev) (p : Nat) : Dev :=
  let r := d.prt p
  let (c, rev) := (d.legalWidth p 16 (d.marked p)).getD (r.neg, false)
  let d := ((d.set (R.PU.LNKSTS.STATE p) 4).set (R.PU.LNKSTS.LWIDTH p) c).put (R.PU.LNKSTS.REVERSED p) rev
  let d := d.set (R.PU.LNKSTS.FLIT p)
    (if d.role p = 3 ∨ d.role p = 4 then 0
     else if r.partner.only68 then 1
     else if d.is (R.PU.CFG.LOPT p) && r.partner.lopt then 3 else 2)
  let d := d.off (R.PU.EPOCH.HOLD_ACT p)
  let d := d.updPrt p (fun r => { r with hold := holdService, recov := false, neg := c })
  (((d.raise (.pu p) puUP).lockTimers p).askL0p p).xepUp p

/-- The rate training aims at (R46, R48): no failed rate, at most MAX_RATE and the partner's highest; 68-B flits at most 32 GT/s. -/
def Dev.targetRate (d : Dev) (p : Nat) (q : Partner) : Nat :=
  if d.role p = 3 ∨ d.role p = 4 then
    (if hasBit (d.get (R.PU.EQSTS.FAILED p)) 4 then 0 else if d.is (R.PU.CFG.XCOMPAT p) then 7 else 6)
  else
    let t := min (d.get (R.PU.CFG.MAX_RATE p)) q.maxRate
    let t := if q.only68 then min t 4 else t
    ((List.range 4).filter (fun i => hasBit (d.get (R.PU.EQSTS.FAILED p)) i)).foldl (fun t i => min t (i + 1)) t

/-- The rate the current step trains: all at once for Xepin and with equalization bypass, else the next one (R46). -/
def Dev.nextRate (d : Dev) (p : Nat) : Nat :=
  let r := d.prt p
  if d.role p = 3 ∨ d.role p = 4 ∨ (d.is (R.PU.CFG.EQ_BYP p) ∧ r.partner.eqByp) then r.target else d.get (R.PU.LNKSTS.RATE p) + 1

/-- A partner refused under R39. -/
def Dev.refused39 (d : Dev) (p : Nat) (q : Partner) : Bool :=
  (d.role p == 1 || d.role p == 2) &&
  (!q.cxl || q.cache || q.type12 || (q.only68 && (d.role p == 2 || !d.is (R.PU.CFG.FLIT68 p))))

/-- TRAINING_COMPLETE (R39, R45, R46): trained at 2.5 GT/s. -/
def Dev.trained (d : Dev) (p : Nat) (q : Partner) : Dev :=
  if (d.prt p).ex ∧ d.linkSt p = 2 then
    if d.refused39 p q then
      let d := (d.clearLink p).updPrt p (fun r => { r with refused := true })
      (d.set (R.PU.LNKSTS.STATE p) 0).emit (.host p) .linkDisable [p] |>.raise (.pu p) puTYPE
    else
      let t := d.targetRate p q
      let d := d.updPrt p (fun r => { r with partner := q, target := t })
      if t = 0 then d.toUp p
      else (d.set (R.PU.LNKSTS.STATE p) 3).emit (.host p) .linkRate [p, d.nextRate p]
  else d

/-- EQSTS bit of a rate code: 8, 16, 32, 64 GT/s, Xepin (R400). -/
def eqBit (r : Nat) : Option Nat := if 6 ≤ r then some 4 else if 2 ≤ r then some (r - 2) else none

/-- RATE_STEP_COMPLETE (R45, R46, R48): the step's rate is reached; its equalization is done, unless its results were kept. -/
def Dev.rateStep (d : Dev) (p preset : Nat) : Dev :=
  if (d.prt p).ex ∧ d.linkSt p = 3 then
    let r := d.nextRate p
    let d := d.set (R.PU.LNKSTS.RATE p) r
    let d := match eqBit r with
      | some b =>
        if hasBit (d.get (R.PU.EQSTS.DONE p)) b then d
        else (d.set (R.PU.EQSTS.DONE p) (d.get (R.PU.EQSTS.DONE p) + 2 ^ b)).set (R.PU.EQSTS.PRESET p) preset
      | none => d
    if r = (d.prt p).target then d.toUp p else d.emit (.host p) .linkRate [p, d.nextRate p]
  else d

/-- EQ_FAIL (R45, R48): equalization fails at the step's rate; the port works at the highest rate that passed. -/
def Dev.eqFail (d : Dev) (p : Nat) : Dev :=
  if (d.prt p).ex ∧ d.linkSt p = 3 then
    match eqBit (d.nextRate p) with
    | none => d
    | some b =>
      let f := d.get (R.PU.EQSTS.FAILED p)
      let d := d.set (R.PU.EQSTS.FAILED p) (if hasBit f b then f else f + 2 ^ b)
      (d.raise (.pu p) puEQ).toUp p
  else d

/-- Training starts again from detection at 2.5 GT/s; equalization results stay; no link-down (R45, R40). -/
def Dev.fallback (d : Dev) (p : Nat) : Dev :=
  if (d.prt p).ex ∧ (d.linkSt p = 2 ∨ d.linkSt p = 3) then
    d.train p
  else d

/-- Mark lanes lost. -/
def Dev.markLanes (d : Dev) (p : Nat) (ls : List Nat) : Dev :=
  ls.foldl (fun d i =>
    let f := R.PU.LNKSTS.LANEFAIL (p + i / 4)
    if hasBit (d.get f) (i % 4) then d else d.set f (d.get f + 2 ^ (i % 4))) d

/-- Link-down (R54, R45, R84): from UP, and from DIAG for the slot's PG. Marks of earlier lane failures stay while the unmarked lanes hold
a legal width; the hold starts or, with HOLD_US 0, expires at once; the port retrains from WAIT_PWR. The credits of the lost
link bring no message any more. DESIGN CHOICE: a link-down of another cause than IDE leaves the IDE streams and their keys as they are; R58 is silent
(log entry 38). -/
def Dev.linkDown (d : Dev) (p cause : Nat) : Dev :=
  if (d.prt p).ex ∧ (d.linkSt p = 4 ∨ (d.linkSt p = 5 ∧ cause = 3)) then
    let w := (d.prt p).width
    let d := d.raise (.pu p) puDOWN
    let d := (d.set (R.PU.ERRSTS.DOWN_CAUSE p) cause).addSat (R.PU.LNKSTS.LNKDN_CNT p) 1
    let d := match d.legalWidth p 16 (d.marked p) with
      | some (c, _) => d.updPrt p (fun r => { r with neg := c })
      | none => (((List.range w).foldl (fun (d : Dev) i => d.off (R.PU.LNKSTS.LANEFAIL (p + i))) d).updPrt p (fun r => { r with neg := widthCode w }))
    let d := d.cutFail p w
    let d := d.holdStart p
    let d := ((d.clearLink p).off (R.PU.LNKCTL.RETRAIN p)).updPrt p (fun r => { r with seq := none, recov := false, grant := {}, unlockAt := [] })
    (d.enterWait p).gpfDown p
  else d

/-- LOCK_LOSS (R52, R53, R54): lanes whose lock timer has run out. In UP: a lane failure where a legal narrower width remains, else a
link-down; XEPIN and MIRROR ports never narrow. In DETECT and STEP training starts again. -/
def Dev.lockLoss (d : Dev) (p : Nat) (lanes : List Nat) : Dev :=
  if (d.prt p).ex ∧ lanes ≠ [] then
    if d.linkSt p = 4 then
      if d.role p = 3 ∨ d.role p = 4 then d.linkDown p 1
      else
        match d.legalWidth p (laneCount (d.prt p).width - 1) (d.marked p ++ lanes) with
        | none => d.linkDown p 1
        | some (c, rev) =>
          let d := d.markLanes p lanes
          let d := ((d.set (R.PU.LNKSTS.LWIDTH p) c).put (R.PU.LNKSTS.REVERSED p) rev).off (R.PU.LNKSTS.PM p)
          let d := d.updPrt p (fun r => { r with neg := c, recov := true })
          ((d.raise (.pu p) puLANE).lockTimers p).emit (.host p) .linkRetrain [p, c]
    else d.fallback p
  else d

/-- The lanes of a port in a bit set. -/
def lanesIn (n m : Nat) : List Nat := (List.range n).filter (fun i => hasBit m i)

/-- The lanes of a bit set whose lock timer can run out: in UP those whose timer runs (R52). -/
def Dev.lostLanes (d : Dev) (p m : Nat) : List Nat :=
  (lanesIn (laneCount (d.prt p).width) m).filter (fun i => d.linkSt p != 4 || (Tbl.get? (d.prt p).unlockAt i).isSome)

/-- RECOVERY_TO_DETECT (R54). -/
def Dev.recoveryToDetect (d : Dev) (p : Nat) : Dev := if d.linkSt p = 4 then d.linkDown p 2 else d.fallback p

/-- RETRAIN (R45, PU.LNKCTL): in UP the link retrains at its rate; elsewhere the bit clears at once and nothing happens. -/
def Dev.retrain (d : Dev) (p : Nat) : Dev :=
  if d.isUp p then
    ((d.on (R.PU.LNKCTL.RETRAIN p)).updPrt p (fun r => { r with recov := true })).emit (.host p) .linkRetrain [p]
  else d

/-- A write to a register of a port unit wakes its gated stand (R23, R45; log entry 68). -/
def Dev.wakePu (d : Dev) (p : Nat) : Dev := d.wake (p / 4)

/-- RECOVERY_EXIT: Recovery exits to L0, and RETRAIN clears; a link back at full width asks for L0p again (R51). -/
def Dev.recoveryExit (d : Dev) (p : Nat) : Dev :=
  if d.isUp p then
    let d := (d.off (R.PU.LNKCTL.RETRAIN p)).updPrt p (fun r => { r with recov := false })
    if d.get (R.PU.LNKSTS.PM p) = 0 then d.askL0p p else d
  else d

/-- SYMBOL_LOCK_CHANGE (R52): a lane's lock; its timer starts with the loss of lock and returns to zero with lock. -/
def Dev.symLock (d : Dev) (pu lane : Nat) (lock : Bool) : Dev :=
  let f := R.PU.LNKSTS.SYMLOCK pu
  let v := d.get f
  let d := d.set f (if lock = hasBit v lane then v else if lock then v + 2 ^ lane else v - 2 ^ lane)
  match d.portOf pu with
  | none => d
  | some p => d.lockTimers p

/-! ### Power states (R49 to R51) -/

/-- L1 or its lane-dormant substate (R50). -/
def Dev.enterL1 (d : Dev) (p : Nat) : Dev :=
  let c := if d.is (R.PU.PMCTL.DORMANT_EN p) then 3 else 2
  ((d.set (R.PU.LNKSTS.PM p) c).lockTimers p).emit (.host p) .linkPm (p :: c :: d.l1Exit p)

/-- L1_IDLE_TIMEOUT (R51): a HOST port with L1_EN initiates L1. -/
def Dev.l1Idle (d : Dev) (p : Nat) : Dev :=
  if d.isHost p ∧ d.isUp p ∧ d.is (R.PU.PMCTL.L1_EN p) ∧ d.get (R.PU.LNKSTS.PM p) < 2 then d.enterL1 p else d

/-- Full width in L0 (R49). -/
def Dev.fullWidth (d : Dev) (p : Nat) : Dev :=
  (((d.off (R.PU.LNKSTS.PM p)).set (R.PU.LNKSTS.LWIDTH p) (d.prt p).neg).lockTimers p).emit (.host p) .linkPm [p, 0]

/-- PARTNER_PM_REQUEST (R51): L1 on MEM ports with L1_EN; L0p at any width down to x1. -/
def Dev.partnerPm (d : Dev) (p : Nat) (q : PmReq) : Dev :=
  match q with
  | .l1 => if d.isMem p ∧ d.isUp p ∧ d.is (R.PU.PMCTL.L1_EN p) then d.enterL1 p else d
  | .l0p w => d.enterL0p p w

/-- L0P_WIDTH_CHANGE (R51): the field takes the value; codes 5 to 7 act as 0. DESIGN CHOICE: in L0p, a width that is not below the negotiated one asks for
nothing, and the link stays at its L0p width until the field is 0 (log entry 39). -/
def Dev.l0pWidth (d : Dev) (p w : Nat) : Dev :=
  let d := if d.get (R.PU.PMCTL.L0P_WIDTH p) = w then d else (d.set (R.PU.PMCTL.L0P_WIDTH p) w).cfgChange
  let e := if 4 < w then 0 else w
  if e = 0 then (if d.isUp p ∧ d.get (R.PU.LNKSTS.PM p) = 1 then d.fullWidth p else d) else d.enterL0p p e

/-- LINK_PM_EXIT (R49). -/
def Dev.pmExit (d : Dev) (p : Nat) : Dev :=
  if d.isUp p ∧ d.get (R.PU.LNKSTS.PM p) ≠ 0 then d.fullWidth p else d

/-! ### CXL IDE (R56 to R58) -/

/-- IDE_ACT and the secure bits (R400). -/
def Dev.setSecure (d : Dev) (p : Nat) (cm io : Bool) : Dev :=
  ((d.put (R.PU.IDESTS.CM_SEC p) cm).put (R.PU.IDESTS.IO_SEC p) io).put (R.PU.LNKSTS.IDE_ACT p) (cm && io)

/-- A key set is installed on a stream: the first makes it secure, a refresh switches both directions to the other set. -/
def Dev.installKeys (d : Dev) (p : Nat) (io : Bool) : Dev :=
  let sets := if io then (d.prt p).ioSets else (d.prt p).cmSets
  let d := d.updPrt p (fun r => if io then { r with ioSets := min 2 (r.ioSets + 1) } else { r with cmSets := min 2 (r.cmSets + 1) })
  let d := if io then d.setSecure p (d.is (R.PU.IDESTS.CM_SEC p)) true else d.setSecure p true (d.is (R.PU.IDESTS.IO_SEC p))
  if sets = 0 then d
  else if io then (d.set (R.PU.IDESTS.IO_TX p) (1 - d.get (R.PU.IDESTS.IO_TX p))).set (R.PU.IDESTS.IO_RX p) (1 - d.get (R.PU.IDESTS.IO_RX p))
  else (d.set (R.PU.IDESTS.CM_TX p) (1 - d.get (R.PU.IDESTS.CM_TX p))).set (R.PU.IDESTS.CM_RX p) (1 - d.get (R.PU.IDESTS.CM_RX p))

/-- IDE_KEY_PROGRAM (R56, R58): on an enabled stream of a HOST or MEM port in UP; an error sets IDE_KEY and keeps the previous keys. -/
def Dev.ideKey (d : Dev) (p : Nat) (io ok : Bool) : Dev :=
  if d.isUp p ∧ (d.isHost p ∨ d.isMem p) ∧ d.is (if io then R.PU.IDECTL.IO_EN p else R.PU.IDECTL.CM_EN p) then
    if ok then (d.installKeys p io).emit (.host p) .ideKey [p, bit io] else d.raise (.pu p) puKEY
  else d

/-- IDE_INTEGRITY_FAIL (R57): both streams insecure, link-down with cause IDE. In containment mode no flit of the epoch was released and
all are discarded; in skid mode the data of the forwarded messages the buffer still holds is poisoned. -/
def Dev.ideFail (d : Dev) (p : Nat) (fwd : List Nat) : Dev :=
  if d.isUp p ∧ (d.isHost p ∨ d.isMem p) then
    let d := (d.raise (.pu p) puIDE).setSecure p false false
    let d := d.updPrt p (fun r => { r with cmSets := 0, ioSets := 0 })
    let d := if d.is (R.PU.IDECTL.CONTAIN p) then d
      else fwd.foldl (fun d i => d.updMsg i (fun m => if 0 < m.bytes then { m with poison := true } else m)) d
    d.linkDown p 4
  else d

/-! ### Diagnostics (R59, R60) -/

/-- PRBS_RUN (R59): RUN goes to 1: counts start afresh, and in DIAG the generators run; 128 Gb/s outside the stands of R42 is refused. -/
def Dev.prbsRun (d : Dev) (p : Nat) : Dev :=
  if d.is (R.PU.PRBSCTL.RUN p) then d
  else if d.get (R.PU.PRBSCTL.RATE p) = 6 ∧ !xepStand p then d.raise (.pu p) puREJ
  else
    let d := (((((d.on (R.PU.PRBSCTL.RUN p)).off (R.PU.PRBSCNT01.CNT_LO p)).off (R.PU.PRBSCNT01.CNT_HI p)).off
      (R.PU.PRBSCNT23.CNT_LO p)).off (R.PU.PRBSCNT23.CNT_HI p)).off (R.PU.PRBSCTL.LOCKED p)
    if (d.portOf p).any (fun q => d.linkSt q == 5) then d.prbsOut p else d

/-- The bit error count of a lane (R61). -/
def prbsCnt (p lane : Nat) : Fld :=
  match lane with
  | 0 => R.PU.PRBSCNT01.CNT_LO p
  | 1 => R.PU.PRBSCNT01.CNT_HI p
  | 2 => R.PU.PRBSCNT23.CNT_LO p
  | _ => R.PU.PRBSCNT23.CNT_HI p

/-- PRBS_CHECKER_LOCK (R59): the lane's LOCKED bit, in DIAG while RUN is 1; the checker counts the bit errors it sees from then on, saturating. -/
def Dev.prbsLock (d : Dev) (p lane errs : Nat) : Dev :=
  if d.is (R.PU.PRBSCTL.RUN p) ∧ (d.portOf p).any (fun q => d.linkSt q == 5) then
    let v := d.get (R.PU.PRBSCTL.LOCKED p)
    (d.set (R.PU.PRBSCTL.LOCKED p) (if hasBit v lane then v else v + 2 ^ lane)).addSat (prbsCnt p lane) errs
  else d

/-- EYE_SCAN_START (R60, R400): VALID clears; a scan already running goes on. -/
def Dev.eyeStart (d : Dev) (p lane : Nat) : Dev :=
  if d.is (R.PU.EYECTL.START p) then d
  else
    let d := (((d.set (R.PU.EYECTL.LANE p) lane).on (R.PU.EYECTL.START p)).off (R.PU.EYERES.VALID p)).off (R.PU.EYERES.ABORT p)
    d.updPrt p (fun r => { r with scan := some lane })

/-- EYE_SCAN_COMPLETE (R60). -/
def Dev.eyeDone (d : Dev) (p l r u w : Nat) : Dev :=
  if d.is (R.PU.EYECTL.START p) then
    let d := (((d.set (R.PU.EYERES.LEFT p) l).set (R.PU.EYERES.RIGHT p) r).set (R.PU.EYERES.UP p) u).set (R.PU.EYERES.DOWN p) w
    ((d.on (R.PU.EYERES.VALID p)).off (R.PU.EYECTL.START p)).updPrt p (fun x => { x with scan := none })
  else d

/-- MARGINING_REQUEST (R60): aborts a scan on that lane. -/
def Dev.margin (d : Dev) (p lane : Nat) : Dev :=
  if d.is (R.PU.EYECTL.START p) ∧ (d.prt p).scan = some lane then
    ((d.on (R.PU.EYERES.ABORT p)).off (R.PU.EYECTL.START p)).updPrt p (fun x => { x with scan := none })
  else d

end Sys2Proof.Machine
end

