-- ==== Sys2Proof/Machine/Slots.lean ====
section
/-! DEFINITION. Slot power controllers (R305 to R321): the slot state machine, PG and the bound port, measurement. -/
namespace Sys2Proof.Machine

/-- A slot's record. -/
def Dev.slt (d : Dev) (n : Nat) : SlotRt := Tbl.get d.slot {} n

/-- Change a slot's record. -/
def Dev.updSlt (d : Dev) (n : Nat) (f : SlotRt → SlotRt) : Dev := { d with slot := Tbl.set d.slot {} n (f (d.slt n)) }

/-- A slot's state (SLT.STS.STATE): 0 OFF, 1 QUAL, 2 RAMP, 3 SETTLE, 4 ON, 5 RETRY_WAIT, 6 LATCHED, 7 DOWN. -/
def Dev.slotSt (d : Dev) (n : Nat) : Nat := d.get (R.SLT.STS.STATE n)

/-- Enter a state. -/
def Dev.toSlot (d : Dev) (n st : Nat) : Dev := d.set (R.SLT.STS.STATE n) st

/-- RAMP, SETTLE or ON. -/
def Dev.slotLive (d : Dev) (n : Nat) : Bool := 2 ≤ d.slotSt n && d.slotSt n ≤ 4

/-- What drives the gate: 0 normal sink, 1 fast sink, 2 ramp, 3 full enhancement. -/
def Dev.gate (d : Dev) (n k : Nat) : Dev := d.emit .pins .gateDrive [n, k]

/-- The port a slot gates: SLOT_EN = 1, SLOT = n and ENABLE = 1 (R315). -/
def Dev.slotPort (d : Dev) (n : Nat) : Option Nat :=
  (List.range 64).find? (fun p => (d.prt p).ex && d.is (R.PU.LNKCTL.ENABLE p) && d.is (R.PU.CFG.SLOT_EN p) && d.get (R.PU.CFG.SLOT p) == n)

/-- PG asserts (R310, R311, R316): PG_ON, the pin is released, and a bound port in WAIT_PWR goes on. -/
def Dev.pgOn (d : Dev) (n : Nat) : Dev :=
  let d := ((d.on (R.SLT.STS.PG n)).raise (.slt n) 8).emit .pins .pin [n, 1]
  match d.slotPort n with
  | some p => d.leaveWait p
  | none => d

/-- PG deasserts (R310, R316): PG_OFF if it was asserted; the bound port leaves training, or goes down with cause SLOT_PG. -/
def Dev.pgOff (d : Dev) (n : Nat) : Dev :=
  if d.is (R.SLT.STS.PG n) then
    let d := ((d.off (R.SLT.STS.PG n)).raise (.slt n) 9).emit .pins .pin [n, 0]
    match d.slotPort n with
    | some p =>
      if d.linkSt p = 2 ∨ d.linkSt p = 3 then d.set (R.PU.LNKSTS.STATE p) 1 else d.linkDown p 3
    | none => d
  else d

/-! ### Rows of one sample (R9, R310)

The table's rows from RAMP, SETTLE and ON, by place: 0 power-off, 1 fast trip, 2 fault time, 3 ramp time, 4 window, 5 VOUT, 6 SETTLE, 7 ON, 8 no load, 9 one second. Where
two commands of one ACLK sample name two of them, the row nearer the top is taken, whichever came first. -/

/-- The sample of now: 4 ns of 8 CCLK cycles (R15, R309). -/
def Dev.aclk (d : Dev) : Nat := d.time.cclk / 8

/-- The fields of STS a row acts on: STATE, TRIES, FIRST, OVF, bits 0 to 6, PG_ON, PG_OFF, PG. -/
def rowFlds (n : Nat) : List Fld :=
  [R.SLT.STS.STATE n, R.SLT.STS.TRIES n, (Sts.slt n).firstF, (Sts.slt n).bit (Sts.slt n).ovf] ++ (List.range 7).map (Sts.slt n).bit ++ [(Sts.slt n).bit 8, (Sts.slt n).bit 9, R.SLT.STS.PG n]

/-- The row a slot took in this sample, where it still stands in the state that row led to. -/
def Dev.rowNow (d : Dev) (n : Nat) : Option SlotRow := (d.slt n).row.filter (fun r => r.sample == d.aclk && r.dest == d.slotSt n)

/-- A row is taken back. PG that it deasserted stays so, since every row that takes its place deasserts it; PG that it asserted goes. -/
def Dev.undoRow (d : Dev) (n : Nat) (r : SlotRow) : Dev :=
  let was := r.sts.getD 13 0 == 1
  let d := if was then d else d.pgOff n
  let d := ((rowFlds n).zip r.sts).take (if was then 12 else 14) |>.foldl (fun (d : Dev) x => d.set x.1 x.2) d
  d.updSlt n (fun x => { x with timer := r.timer, pgDue := r.pgDue, row := none })

/-- A slot before any row below place `k` that it took in this sample. -/
def Dev.beforeRow (d : Dev) (n k : Nat) : Dev :=
  match d.rowNow n with
  | some r => if k < r.rank then d.undoRow n r else d
  | none => d

/-- Take the row at place `k` where its condition holds. -/
def Dev.takeRow (d : Dev) (n k : Nat) (ok : Dev → Bool) (f : Dev → Dev) : Dev :=
  let e := d.beforeRow n k
  if ok e then
    let g := f e
    g.updSlt n (fun r => { r with row := some { sample := e.aclk, rank := k, dest := g.slotSt n, sts := (rowFlds n).map e.get, timer := (e.slt n).timer, pgDue := (e.slt n).pgDue } })
  else d

/-- Enter DOWN (R310): PG deasserts, the 100-us lead starts. -/
def Dev.enterDown (d : Dev) (n : Nat) : Dev := ((d.toSlot n 7).pgOff n).updSlt n (fun r => { r with timer := false, pgDue := false })

/-- Power-off (R310): the row above all others. A trip of the same sample still sets its status bit; it consumes no retry. -/
def Dev.slotDown (d : Dev) (n : Nat) : Dev :=
  let trip := (d.rowNow n).bind (fun r => if 1 ≤ r.rank ∧ r.rank ≤ 3 then some (r.rank - 1) else none)
  d.takeRow n 0 (fun e => e.slotSt n != 0 && e.slotSt n != 7) (fun e => Dev.enterDown (trip.elim e (fun b => e.raise (.slt n) b)) n)

/-- A fast trip that finds the slot powered off in the same sample still sets its bit (R310). -/
def Dev.tripDown (d : Dev) (n : Nat) : Dev :=
  if (d.rowNow n).any (fun r => r.rank == 0 && 2 ≤ r.sts.headD 0 && r.sts.headD 0 ≤ 4) then d.raise (.slt n) 0 else d

/-- A trip (R310): a retry while TRIES is below RETRIES, else LATCHED. -/
def Dev.trip (d : Dev) (n b : Nat) : Dev :=
  let d := d.raise (.slt n) b
  let d := d.updSlt n (fun r => { r with timer := false, pgDue := false })
  let d :=
    if d.get (R.SLT.STS.TRIES n) < d.get (R.SLT.CTL.RETRIES n) then
      (d.toSlot n 5).set (R.SLT.STS.TRIES n) (d.get (R.SLT.STS.TRIES n) + 1)
    else (d.toSlot n 6).raise (.slt n) 3
  d.pgOff n

/-- A window or VOUT is lost (R310): back to QUAL, TRIES unchanged. -/
def Dev.toQual (d : Dev) (n b : Nat) : Dev :=
  let d := (d.raise (.slt n) b).gate n 1
  ((d.toSlot n 1).updSlt n (fun r => { r with timer := false, pgDue := false })).pgOff n

/-- Latest levels of a slot (R319). -/
def Dev.slotLevels (d : Dev) (n : Nat) (l : SlotLevels) : Dev :=
  d.updSlt n (fun r => { r with vin := l.vin, vout := l.vout, iout := l.iout })

/-- Enter RAMP (R310): charge the gate, then servo VOUT at SLEW. -/
def Dev.toRamp (d : Dev) (n : Nat) : Dev := (d.toSlot n 2).gate n 2

/-- From P0 to PERST_N only the trip, window and PG-loss rows act (R318). -/
def Dev.slotFree (d : Dev) (f : Dev → Dev) : Dev := if d.saving then d else f d

/-- SETTLE to ON (R310, R311). -/
def Dev.settleOn (d : Dev) (n : Nat) : Dev :=
  d.takeRow n 7 (fun e => e.slotSt n == 3) (fun e => ((e.toSlot n 4).updSlt n (fun r => { r with pgDue := false })).pgOn n)

/-- One slot's samples over `k` microseconds (R319): the 100-sample means and the energy, in RAMP, SETTLE and ON. -/
def SlotRt.sample (r : SlotRt) (live : Bool) (k : Nat) : SlotRt :=
  let e := if live then r.energy + k * (r.vout * r.iout / 1000) else r.energy
  let t := r.n + k
  if t < 100 then { r with energy := e, n := t, sVin := r.sVin + k * r.vin, sVout := r.sVout + k * r.vout, sIout := r.sIout + k * r.iout, sPout := r.sPout + k * (r.vout * r.iout / 1000) }
  else
    let f := 100 - r.n
    let mean := fun s v => if t < 200 then (s + f * v) / 100 else v
    let q := t % 100
    { r with energy := e, n := q, sVin := q * r.vin, sVout := q * r.vout, sIout := q * r.iout, mVin := mean r.sVin r.vin,
             mVout := mean r.sVout r.vout, mIout := mean r.sIout r.iout, sPout := q * (r.vout * r.iout / 1000), mPout := mean r.sPout (r.vout * r.iout / 1000) }

/-! ### Commands (R313, R314) -/

/-- The ports bound to a slot (R315). -/
def Dev.boundPorts (d : Dev) (n : Nat) : List Nat :=
  (List.range 64).filter (fun p => d.is (R.PU.CFG.SLOT_EN p) && d.get (R.PU.CFG.SLOT p) == n)

/-- The first extent behind a slot's ports that passes a test. -/
def Dev.extBehind (d : Dev) (n : Nat) (f : ExtentE → Bool) : Option (Nat × ExtentE) :=
  let ps := d.boundPorts n
  d.extents.find? (fun x => (ps.contains x.2.port || (x.2.altEn && !x.2.altPartner && ps.contains x.2.altPort)) && f x.2)

/-- SLOT_ON refuses unless the slot is in OFF (R313). -/
def Dev.slotOnConflict (d : Dev) (c : PyrCmd) : Option Res :=
  if d.slotSt c.target = 0 then none else some (conflict 4 (d.slotSt c.target) c.target)

/-- EN is set: OFF to QUAL (R310). -/
def Dev.slotOnApply (d : Dev) (n : Nat) : Dev :=
  ((d.on (R.SLT.CTL.EN n)).off (R.SLT.STS.TRIES n)).toSlot n 1

/-- SLOT_OFF refuses (R314). In LATCHED and RETRY_WAIT only the first two checks apply. -/
def Dev.slotOffConflict (d : Dev) (c : PyrCmd) : Option Res :=
  let n := c.target
  let st := d.slotSt n
  if st = 0 ∨ st = 7 then some (conflict 4 st n)
  else match d.extBehind n (fun x => x.cat) with
    | some x => some (conflict 2 x.2.st x.1)
    | none =>
      if c.parBit 16 0 ∨ st = 5 ∨ st = 6 then none
      else match (d.boundPorts n).find? (fun p => d.is (R.PU.LNKCTL.ENABLE p)) with
        | some p => some (conflict 5 (d.linkSt p) p)
        | none => (d.extBehind n (fun x => x.mapcnt != 0)).map (fun x => conflict 2 x.2.st x.1)

/-- EN is cleared: DOWN (R310). -/
def Dev.slotOffApply (d : Dev) (n : Nat) : Dev := (d.off (R.SLT.CTL.EN n)).slotDown n

/-- DOWN_LEAD_EXPIRE (R310, R314): the lead has passed: the gate is discharged, the slot is OFF, its power-off command completes. PERST_N starts
the same lead, which runs while the rest of the device is held in reset (R318). -/
def Dev.downLead (d : Dev) (n : Nat) : Dev :=
  if d.slotSt n = 7 then (((d.toSlot n 0).off (R.SLT.STS.TRIES n)).gate n 0).endAction [0x21] n {} else d

end Sys2Proof.Machine
end

