-- ==== Sys2Proof/Machine/Persist.lean ====
section
/-! DEFINITION. The save sequence (R211 to R217, R221, R222, R240): PFAIL_N, the freeze, the drain, the end; parity errors. -/
namespace Sys2Proof.Machine

/-! ### Pins -/

/-- PERSIST_DONE asserts (R212, R221). -/
def Dev.donePin (d : Dev) : Dev := { d with pins := { d.pins with persistDone := true } }.on R.PRS.STATE.DONE_PIN

/-- SAFE_N asserts (R212, R240). -/
def Dev.safePin (d : Dev) : Dev := { d with pins := { d.pins with safeLow := true } }.on R.PRS.STATE.SAFE

/-! ### P0 -/

/-- The records of the latest sequence start anew. -/
def Dev.newSequence (d : Dev) (cause : Nat) : Dev :=
  let d := [R.PRS.RESULT.DONE, R.PRS.RESULT.A_OK, R.PRS.RESULT.B_OK, R.PRS.RESULT.NOT_ARMED, R.PRS.RESULT.P1_LATE, R.PRS.RESULT.P2_MISS, R.PRS.RESULT.PF_RESTORE, R.PRS.RESULT.MISS_CNT, R.PRS.P0T.US, R.PRS.P1T.US, R.PRS.P2T.US, R.PRS.P3T.US, R.PRS.P4T.US, R.PRS.LOSTLINES.VALUE, R.PRS.GPFOK_L.VALUE, R.PRS.GPFOK_H.VALUE, R.PRS.GPFMISS_L.VALUE, R.PRS.GPFMISS_H.VALUE].foldl Dev.off d
  (d.set R.PRS.RESULT.CAUSE cause).set64 R.PRS.SAVETIME_L.VALUE R.PRS.SAVETIME_H.VALUE d.ft

/-- Entry to P0 (R214, R215, R222, R288, R396). CAUSE: 1 PFAIL_N, 2 partner notice, 3 safe state. -/
def Dev.enterP0 (d : Dev) (cause : Nat) : Dev :=
  let paired := d.is R.PAIR.CTL.EN && d.pst != psOff
  let d := ((d.newSequence cause).toSeq 2).set R.TOP.DSTATE.MODE 3
  let d := { d with prs := { d.prs with witness := [], gpf := [], img := none, home := 0, bad := [] }, skid := { d.skid with acts := d.skid.acts.map (fun (a : ADesc) => { a with stopped := true }) } }
  let d := if paired then (d.sendMir { mtype := 4, prin := cause, seq := d.cfgSeq } []).set R.PAIR.STATE.PSTATE psSaving else d
  ((List.range 64).filter (fun p => (d.prt p).hold == holdHold && d.role p != 4)).foldl (fun d p => d.expirePort p) d

/-- PFAIL_N counts as asserted (R211, R212, R213). -/
def Dev.pfail (d : Dev) : Dev :=
  if !d.pins.perstN then d
  else if d.get R.PRS.STATE.SEQ = 0 then
    (if d.prs.t0.isSome then ((((d.toSeq 7).on R.PRS.RESULT.PF_RESTORE).set R.PRS.RESULT.CAUSE 1).donePin) else d)
  else if d.inService then d.enterP0 1 else d

/-- PFAIL_N_FALL (R211): the filter starts. -/
def Dev.pfailFall (d : Dev) : Dev :=
  if d.pins.pfailN then { d with pins := { d.pins with pfailN := false }, prs := { d.prs with filt := true } } else d

/-- PFAIL_QUALIFIED (R211): low without a break for FILT. -/
def Dev.pfailQualified (d : Dev) : Dev :=
  if !d.pins.pfailN ∧ d.prs.filt then ({ d with prs := { d.prs with filt := false } }.on R.PRS.STATE.PFAIL).pfail else d

/-! ### P1 -/

/-- Who the recall of P1 runs for. -/
abbrev rclPrs : Nat := 769

/-- Every atomic-cache line is written back and released (R123, R216). -/
def Dev.flushAtoms (d : Dev) : Dev :=
  (List.range 16).foldl (fun d ds => (d.dir ds).ac.foldl (fun d a =>
    let d := d.acFlush ds a { src := .dev, cls := .wb, pool := a.line * 64 }
    match (d.dir ds).find (lineSet a.line) (tagOf a.line) with
    | some (wy, e) => if e.ac then d.freeWay ds (lineSet a.line) wy else d
    | none => d) d) d

/-- Commands and changes the commit engine has not committed are dropped (R214). -/
def Dev.dropCommit (d : Dev) : Dev :=
  { d with mgmt := { d.mgmt with cur := none }, commit := { d.commit with change := none, queue := [], held := none, part := [], items := [], mapCmd := none, mapGot := [] } }.set R.PAIR.COMMIT.STATE 0

/-- P0 ends (R212, R214, R216): commands not committed are dropped; the drain starts. -/
def Dev.toP1 (d : Dev) : Dev :=
  let d := (d.set R.PRS.P0T.US d.phaseUs).toSeq 3
  let d := d.dropCommit
  d.flushAtoms.recallAll 0 0 0 rclPrs

/-- The drain is complete (R216). -/
def Dev.drainDone (d : Dev) : Bool :=
  let wr := fun (m : Msg) => m.kind == .memWrite || m.kind == .memWb || m.kind == .ioWrite
  !d.buf.msgs.any wr && !d.port.any (fun e => e.2.outs.any (fun o => wr o.msg)) &&
    !d.dirs.any (fun (e : Nat × DirRt) => !e.2.ac.isEmpty || e.2.rcl.isSome || !e.2.rclQ.isEmpty) && d.bursts.isEmpty

/-- A port goes to Disabled and stays there until PERST_N (R216, R221). -/
def Dev.quietPort (d : Dev) (p : Nat) : Dev :=
  if (d.prt p).ex then
    (((d.clearLink p).set (R.PU.LNKSTS.STATE p) 0).updPrt p (fun r => { r with held := true, recov := false, grant := {} })).emit (.host p) .linkDisable [p]
  else d

/-- A stand has a MEM port. -/
def Dev.memStand (d : Dev) (s : Nat) : Bool := (List.range 4).any (fun k => (d.portOf (4 * s + k)).any d.isMem)

/-- P1 ends (R216, R218): the write window closes; ports other than MEM ports go to Disabled; stands without a MEM port are gated; the flush starts. -/
def Dev.toP2 (d : Dev) : Dev :=
  let d := (d.set R.PRS.P1T.US d.phaseUs).toSeq 4
  let ps := (List.range 64).filter (fun p => (d.prt p).ex && !d.isMem p)
  let d := ps.foldl (fun d p => (d.cutFail p (d.prt p).width).quietPort p) d
  let d := (ps.foldl (fun d p => d.expirePort p) d).settle
  let d := ((List.range 16).filter (fun s => !d.memStand s)).foldl (fun d s => ((d.setDom s .gated).on (pwrGate s)).on (pwrGated s)) d
  Dev.p2Check { d with prs := { d.prs with gpf := ((List.range 64).filter d.capable).map (fun p => (p, 0)) } }

/-- A line lost in P1 (R217). -/
def Dev.lostLine (d : Dev) : Dev := d.addSat R.PRS.LOSTLINES.VALUE 1

/-- Unanswered recall snoops of a slice are expired (R217, R111). -/
def Dev.expireRecalls (d : Dev) (ds : Nat) : Dev :=
  ((d.dir ds).trks.filter (fun t => t.rcl && !t.waits.isEmpty)).foldl (fun d t =>
    t.waits.foldl (fun d p =>
      match (d.dir ds).trk t.line with
      | some t => let own := t.owner == some p && t.ownData.isNone; Dev.expireSnoop (if own then d.lostLine else d) ds t p
      | none => d) d) d

/-- Entries in E or M that no recall reached are written poisoned and freed. -/
def Dev.poisonOwned (d : Dev) (ds : Nat) : Dev :=
  ((d.dir ds).ents.filter (fun x => (x.2.st == .e || x.2.st == .m) && !x.2.ac)).foldl (fun d x =>
    let d := d.lostLine.memWb { src := .dev, cls := .wb, pool := lineOf ds (x.1 / 16) x.2.tag * 64 } 0 (2 ^ 64 - 1) true
    d.freeWay ds (x.1 / 16) (x.1 % 16)) d

/-- P1_TIMEOUT (R217). -/
def Dev.p1Timeout (d : Dev) : Dev :=
  if d.get R.PRS.STATE.SEQ = 3 then
    let d := (List.range 16).foldl (fun d ds => (((d.expireRecalls ds).poisonOwned ds).off (R.DS.RCLCTL.START ds)).updDir ds (fun r => { r with rcl := none, rclQ := [] })) d
    ((d.on R.PRS.RESULT.P1_LATE).raise .prs 1).toP2
  else d

/-! ### P4 (R221) -/

/-- P4 ends: the copies that passed, the results, PERSIST_DONE, every port to Disabled. -/
def Dev.endSave (d : Dev) (aOk bOk : Bool) : Dev :=
  let armed := d.is R.PRS.CTL.ARMED
  let a := armed && aOk && !d.prs.bad.contains 0
  let b := armed && bOk && !d.prs.bad.contains 1
  let d := (d.put R.PRS.RESULT.A_OK a).put R.PRS.RESULT.B_OK b
  let d := if armed ∧ a ≠ b then d.raise .prs 2 else d
  let d := if armed ∧ !a ∧ !b then d.raise .prs 3 else d
  let d := ((d.set R.PRS.P4T.US d.phaseUs).on R.PRS.RESULT.DONE).donePin
  let d := (List.range 64).foldl Dev.quietPort d
  d.toSeq (if d.pins.safeLow then 8 else 7)

/-! ### Parity errors (R212, R240, R300) -/

/-- A parity error in the register at `off`. -/
def Dev.parityError (d : Dev) (off : Nat) : Dev :=
  let d := if d.is R.PRS.SAFECAUSE.VALID then d else (d.set R.PRS.SAFECAUSE.OFFSET (off / 4)).on R.PRS.SAFECAUSE.VALID
  let d := { d with flaws := d.flaws.filter (· != off) }
  let seq := d.get R.PRS.STATE.SEQ
  if seq = 0 then ((((d.safePin.toSeq 8).on R.PRS.RESULT.PF_RESTORE).set R.PRS.RESULT.CAUSE 3).donePin)
  else if seq = 1 then d.safePin.enterP0 3
  else if seq = 7 then d.safePin.toSeq 8
  else d.safePin

/-- Status, mask and first-source registers (R300): a status register of the pattern, its mask (NOC.CTL for a router), FLT.STS, FLT.ERRMASK, a
protection record's status. -/
def hasParity (off : Nat) : Bool :=
  (stsAt off).isSome || ((stsAt (off - 4)).isSome && off != 0x1000C && !(0x80000 ≤ off && off < 0x82400)) || (0x80000 ≤ off && off < 0x82400 && off % 0x100 == 0) ||
    off == 0x20004 || (0x20100 ≤ off && off < 0x20148 && off % 4 == 0) || off == 0x70010 || off == 0x70020 || (0x180000 ≤ off && off < 0x190000 && off % 0x1000 == 0x40)

/-- How many registers carry a parity bit: what one background scan visits (R300). -/
abbrev parityRegs : Nat := 400

/-- A read or a visit of the scan checks a register's parity. -/
def Dev.parityCheck (d : Dev) (off : Nat) : Dev := if d.flaws.contains off then d.parityError off else d

/-- A register has been visited: with the last one of them a background scan is complete (R303). -/
def Dev.scanned (d : Dev) (off : Nat) : Dev :=
  let l := off :: d.prs.scan.filter (· != off)
  if parityRegs ≤ l.length then Dev.addMod { d with prs := { d.prs with scan := [] } } R.FLT.SCANCNT.VALUE 1 else { d with prs := { d.prs with scan := l } }

/-- PARITY_SCAN_VISIT (R240, R300): the scan visits a register while SCAN_EN is 1; `bad` says that its parity bit is wrong. -/
def Dev.scanVisit (d : Dev) (off : Nat) (bad : Bool) : Dev :=
  if d.is R.FLT.CTL.SCAN_EN ∧ hasParity off then
    let d := d.scanned off
    if bad ∨ d.flaws.contains off then d.parityError off else d
  else d

end Sys2Proof.Machine
end

