-- ==== Sys2Proof/Machine/Run.lean ====
section
/-! DEFINITION. What every command has in common: held in reset nothing happens (R372, R376, R378), BAR0 writes that a sequence shuts out (R214, R221), and
the parity of status registers (R300 to R302). -/
namespace Sys2Proof.Machine

/-- Fields of the register at `off` that differ between two devices. -/
def regChanged (off : Nat) (a b : Dev) : Bool :=
  match findReg off with
  | none => false
  | some r => r.flds.any (fun f => a.get (.mk3 off f.lsb f.w f.rst) != b.get (.mk3 off f.lsb f.w f.rst))

/-- Injection on status registers (R302, STSREG): an update of the register a channel names has its parity inverted; the register
is then among `flaws` until the next check of it: a read, an update or the scan (R300). -/
def stsInject (a b : Dev) : Tbl InjCh × List Nat :=
  b.inj.foldr (fun (k, c) (t, fl) =>
    if c.armed && c.chk == 5 && regChanged (c.inst * 4) a b then ((k, c.count) :: t, c.inst * 4 :: fl)
    else ((k, c) :: t, fl)) ([], b.flaws)

/-- Injection acts on what a command updated. -/
def inject (a b : Dev) : Dev := { b with inj := (stsInject a b).1, flaws := (stsInject a b).2 }

/-- The parity of a register is checked as it is updated (R300): one whose parity was already wrong is found. -/
def found (a b : Dev) : List Nat := a.flaws.filter (fun off => b.flaws.contains off && regChanged off a b)

/-- What holds of every command after its own effect: the parity of what it updated is checked, and injection acts (R300, R302). -/
def finish (a b : Dev) : Dev := (found a b).foldl (fun (d : Dev) off => (d.parityError off).settle) (inject a b)

/-- A command of the logic outside AON: while that logic is held in reset nothing happens. -/
def core (s : State) (f : Dev → Dev) : Host.Outcome State Fault Refusal :=
  .next { s with dev := if s.dev.heldReset then s.dev else finish s.dev (f s.dev) }

/-- A BAR0 write of CORE-domain state: in SAVED and SAFE it has no effect (R221). -/
def bar (s : State) (f : Dev → Dev) : Host.Outcome State Fault Refusal :=
  core s (fun d => if 7 ≤ d.get R.PRS.STATE.SEQ then d else f d)

/-- A BAR0 write of a CAT-domain register or a table window: from P0 on it has no effect (R214). -/
def catBar (s : State) (f : Dev → Dev) : Host.Outcome State Fault Refusal :=
  core s (fun d => if d.saving then d else f d)

/-- A command of the always-on logic, the pins, rails and clocks. -/
def aon (s : State) (f : Dev → Dev) : Host.Outcome State Fault Refusal :=
  .next { s with dev := finish s.dev (f s.dev) }

end Sys2Proof.Machine
end

