-- ==== Sys2Proof/Machine/Items.lean ====
section
/-! DEFINITION. Change items (R231, R277): what differs between two configurations, what a receiver makes of an item, and the extent
entries of a partner (R281). -/
namespace Sys2Proof.Machine

/-! ### Differences -/

/-- The items of a table: entries of `b` that differ from `a`, at `base + stride * key`. -/
def tblItems {α : Type} [DecidableEq α] (a b : Tbl α) (dflt : Nat → α) (base stride : Nat) (pack : α → Nat) : List Item :=
  let mk := fun (k : Nat) (v : α) => ({ loc := base + stride * k, len := stride, bytes := pack v } : Item)
  (b.filter (fun x => decide (Tbl.get a (dflt x.1) x.1 ≠ x.2))).map (fun x => mk x.1 x.2) ++
    (a.filter (fun x => (Tbl.get? b x.1).isNone)).map (fun x => mk x.1 (dflt x.1))

/-- A log entry without its progress. -/
def DlogE.setup (l : DlogE) : DlogE := { base := l.base, size := l.size }

/-- A principal's ring tail and event consumer: ring pointers, which no change carries (R230). -/
def isDoorbell (off : Nat) : Bool := 0x10100 ≤ off && off < 0x10200 && off % 0x20 == 0x14

/-- Registers whose value a device of a pair does not take from the other (R280): PRS.CTL, CFG_SEQ, the homes, PFCFG, ring pointers. -/
def ownReg (off : Nat) : Bool :=
  off == 0x30000 || off == 0x30010 || off == 0x30014 || off == 0x30018 || off == 0x3006C || off == 0x30070 || isDoorbell off

/-- The register items: one for each register whose CAT bits differ. -/
def regItems (a b : Tbl Nat) (own : Bool) : List Item :=
  let keys := (b.filter (fun x => Tbl.get? a x.1 != some x.2)).map (·.1) ++ (a.filter (fun x => (Tbl.get? b x.1).isNone)).map (·.1)
  let offs := ((keys.filter isCat).map (· / 32)).eraseDups
  (offs.filter (fun o => !isDoorbell o && (own || !ownReg o))).map (fun o => { loc := o, len := 4, bytes := catVal b o })

/-- The words of a gate list bank. -/
def bankItems (a b : Tbl GclBank) : List Item :=
  let ks := ((a ++ b).map (·.1)).eraseDups
  ks.flatMap (fun k =>
    let x := Tbl.get a {} k
    let y := Tbl.get b {} k
    let base := 0x1030000 + 0x400 * k
    (if packGclHdr x = packGclHdr y then [] else [{ loc := base, len := 16, bytes := packGclHdr y }]) ++
      tblItems x.entries y.entries (fun _ => {}) (base + 0x200) 8 packGate)

/-- Where the items of principals' keys lie: they have no BAR0 offset; the counter travels in a message's header. -/
abbrev keyLoc : Nat := 0x80000000

/-- A key and its rights. -/
def packKey (k : KeyE) : Nat := cat [(k.key.getD 0, 256), (bit k.key.isSome, 1), (k.rights, 8)]
def unpackKey (x : Nat) (k : KeyE) : KeyE := { k with key := if flag x 256 then some (bits x 0 256) else none, rights := bits x 257 8 }

/-- What changes from one configuration to another (R231). `own`: with the registers a pair does not mirror. -/
def catDiff (a b : Image) (own : Bool) : List Item :=
  regItems a.regs b.regs own ++
  tblItems a.slices b.slices (fun _ => {}) 0x1000000 64 packSlice ++
  tblItems a.rules b.rules (fun _ => {}) 0x1010000 16 packRule ++
  tblItems a.cwins b.cwins (fun _ => {}) 0x1020000 16 packCWin ++
  tblItems (a.dlogs.map (fun x => (x.1, x.2.setup))) (b.dlogs.map (fun x => (x.1, x.2.setup))) (fun _ => {}) 0x1021000 32 packDlog ++
  tblItems a.polices b.polices (fun _ => {}) 0x1028000 32 packPolice ++
  tblItems a.classes b.classes clsDef 0x102C000 16 packClass ++
  bankItems a.gcls b.gcls ++
  tblItems (a.queues.map (fun x => (x.1, x.2.setup))) (b.queues.map (fun x => (x.1, x.2.setup))) (fun _ => {}) 0x1050000 64 packQueue ++
  (if a.xgrp.fabricId = b.xgrp.fabricId ∧ a.xgrp.rebal = b.xgrp.rebal then [] else [{ loc := 0x1070000, len := 4, bytes := cat [(b.xgrp.fabricId, 8), (bit b.xgrp.rebal, 1)] }]) ++
  tblItems a.sdumps b.sdumps (fun _ => {}) 0x1072000 16 packSdump ++
  tblItems a.ctrsels b.ctrsels (fun _ => {}) 0x1080000 8 packCtrSel ++
  tblItems a.extents b.extents (fun _ => {}) 0x1100000 8 packExtent ++
  tblItems (a.keys.map (fun x => (x.1, { x.2 with cnt := 0, jcnt := 0 }))) (b.keys.map (fun x => (x.1, { x.2 with cnt := 0, jcnt := 0 }))) (fun _ => {}) keyLoc 64 packKey

/-! ### Journal records (R231) -/

/-- The length of a journal record with these items: header, locators and padded bytes, tag. -/
def recordLen (l : List Item) : Nat := 64 + l.foldl (fun n i => n + 8 + (i.len + 7) / 8 * 8) 0

/-- A record's header. -/
def JrnRec.header (r : JrnRec) (len : Nat) : Nat :=
  cat [(0x4A524E31, 32), (len, 24), (0, 8), (r.chg.seq, 64), (r.chg.prin, 3), (bit r.chg.dev, 1), (0, 60), (r.chg.cnt, 64), (r.iv, 96), (0, 32)]

/-- A record as it lies in NOR: the header in clear, the items encrypted, the tag. -/
def JrnRec.bytes (r : JrnRec) : List Nat :=
  let items := r.items.flatMap Item.octets
  let h := leBytes (r.header items.length) 48
  h ++ gcmSeal Config.catKey r.iv h items

/-- The records up to the first whose CFG_SEQ does not follow its predecessor's. -/
def followOn (seq : Nat) : List JrnRec → List JrnRec
  | [] => []
  | r :: l => if r.chg.seq = seq + 1 then r :: followOn r.chg.seq l else []

/-- What the journal gives when it is read to its end: the configuration its last record left. -/
def Nor.jrn (n : Nor) : Option Image := n.base.map (fun b => n.recs.getLast?.elim b (·.chg.after))

/-! ### A partner's entries -/

/-- An extent entry of the sender as the receiver stores it (R281). `role`: what the sender's port is; `mir`: the receiver's MIRROR port; `own`: the
receiver's entry, whose head fields stay where the sender's PORT is its MIRROR port. -/
def extView (role : Nat → Nat) (mir : Nat) (own x : ExtentE) : ExtentE :=
  if x.altEn ∧ x.altPartner then { x with port := x.altPort, altPort := x.port }
  else if role x.port = 4 then { x with port := own.port, altPort := own.altPort, altEn := own.altEn, altPartner := own.altPartner }
  else if role x.port = 2 ∨ role x.port = 3 then { x with port := mir, altEn := false }
  else x

/-! ### Items taken -/

/-- Set the CAT bits of a register. -/
def Dev.setCatBits (d : Dev) (off v : Nat) : Dev :=
  match findReg off with
  | none => d
  | some r => (r.flds.filter (fun f => f.dom == .cat)).foldl (fun d f => d.set (.mk3 off f.lsb f.w f.rst) (bits v f.lsb f.w)) d

/-- Pairing goes on or off: OFF to SEEK with EN (R288). -/
def Dev.pairSwitch (d : Dev) (en : Bool) : Dev :=
  let was := d.is R.PAIR.CTL.EN
  let d := d.put R.PAIR.CTL.EN en
  if en ∧ !was then { d with pair := { solo := true } }.set R.PAIR.STATE.PSTATE psSeek
  else if !en ∧ was then { d with pair := {} }.set R.PAIR.STATE.PSTATE psOff
  else d

/-- A register item takes effect as a write of the register's CAT bits does: a slot's EN powers it, a port's ENABLE starts or stops it, a port shaper is
reconfigured, snapshots and Landing channels start or stop, PAIR.STATE carries the sender's ROLE. -/
def Dev.takeReg (d : Dev) (off v : Nat) : Dev :=
  if off = 0x4000C then d.put R.PAIR.STATE.ROLE (!flag v 3)
  else if off = 0x40000 then (d.put R.PAIR.CTL.FENCE_EN (flag v 1)).pairSwitch (flag v 0)
  else if 0x90000 ≤ off ∧ off < 0x92000 ∧ off % 0x100 = 0 then
    let n := (off - 0x90000) / 0x100
    let was := d.is (R.SLT.CTL.EN n)
    let d := d.setCatBits off v
    let now := d.is (R.SLT.CTL.EN n)
    if now ∧ !was then (if d.slotSt n = 0 then d.slotOnApply n else d) else if was ∧ !now then d.slotDown n else d
  else if 0x240000 ≤ off ∧ off < 0x250000 ∧ off % 0x400 < 8 then d.shaperWrite ((off - 0x240000) / 0x400) (off % 0x400 == 4) v
  else if 0x100000 ≤ off ∧ off < 0x140000 ∧ off % 0x1000 = 4 then
    let p := (off - 0x100000) / 0x1000
    let was := d.is (R.PU.LNKCTL.ENABLE p)
    let d := d.setCatBits off v
    let now := d.is (R.PU.LNKCTL.ENABLE p)
    if now ∧ !was then d.startPort p else if was ∧ !now then d.stopPort p else d
  else if off = 0x50000 then
    let was := d.is R.TLY.CTL.SNAP_EN
    let d := d.setCatBits off v
    if d.is R.TLY.CTL.SNAP_EN ∧ !was then { d with tally := { d.tally with phase := true } }.off R.TLY.SNAPIDX.PI else d
  else if 0x50040 ≤ off ∧ off < 0x500C0 ∧ off % 0x20 = 0 then
    let c := (off - 0x50040) / 0x20
    let was := d.is (R.LD.LCTL.EN c)
    let d := (d.setCatBits off v).put (R.LD.LCTL.EN c) was
    if flag v 0 = was then d else if was then d.landDisable c else d.landEnable c
  else if 0x100000 ≤ off ∧ off < 0x140000 ∧ off % 0x1000 = 0xC then
    let p := (off - 0x100000) / 0x1000
    let w := bits v 2 3
    let was := d.get (R.PU.PMCTL.L0P_WIDTH p)
    let d := (d.setCatBits off v).set (R.PU.PMCTL.L0P_WIDTH p) was
    if w = was then d else d.l0pWidth p w
  else d.setCatBits off v

/-- An item takes effect on the receiver (R282). -/
def Dev.takeItem (d : Dev) (i : Item) : Dev :=
  let at_ := fun (base stride : Nat) => (i.loc - base) / stride
  if i.loc < 0x1000000 then d.takeReg i.loc i.bytes
  else if i.loc < 0x1010000 then
    let s := at_ 0x1000000 64
    let e := unpackSlice i.bytes
    let o := d.sl s
    let d := (d.putSlice s { e with dlogEn := o.dlogEn }).setDlogEn s e.dlogEn
    if o.st = slFree ∧ e.st = slBound then d.zeroSliceCtrs s false else d
  else if i.loc < 0x1020000 then { d with rules := Tbl.set d.rules {} (at_ 0x1010000 16) (unpackRule i.bytes) }
  else if i.loc < 0x1021000 then d.setWindow (at_ 0x1020000 16) (unpackCWin i.bytes)
  else if i.loc < 0x1028000 then let l := unpackDlog i.bytes; d.setDlog (at_ 0x1021000 32) l.base l.size
  else if i.loc < 0x102C000 then d.setPolice (at_ 0x1028000 32) (unpackPolice i.bytes)
  else if i.loc < 0x1030000 then
    let k := at_ 0x102C000 16
    Dev.clsCommit { d with sched := { d.sched with written := Tbl.set d.sched.written (clsDef k) k (unpackClass i.bytes) } } (k / 4) (k % 4)
  else if i.loc < 0x1050000 then
    let b := at_ 0x1030000 0x400
    let o := (i.loc - 0x1030000) % 0x400
    { d with gcls := Tbl.upd d.gcls {} b (fun g =>
        if o = 0 then { g with base := bits i.bytes 0 64, last := bits i.bytes 64 6 }
        else { g with entries := Tbl.set g.entries {} ((o - 0x200) / 8) (unpackGate i.bytes) }) }
  else if i.loc < 0x1070000 then
    let n := unpackQueue i.bytes
    d.updQe (at_ 0x1050000 64) (fun e => { e with size := n.size, weight := n.weight, burst := n.burst, ring := n.ring, cpl := n.cpl, hwb := n.hwb, st := n.st, en := n.st != 0 })
  else if i.loc < 0x1072000 then { d with xgrp := { d.xgrp with fabricId := bits i.bytes 0 8, rebal := flag i.bytes 8 } }
  else if i.loc < 0x1080000 then { d with sdumps := Tbl.set d.sdumps {} (at_ 0x1072000 16) (unpackSdump i.bytes) }
  else if i.loc < 0x10A0000 then
    let k := at_ 0x1080000 8
    { d with ctrsels := Tbl.set d.ctrsels {} k (unpackCtrSel i.bytes), ctrvals := Tbl.set d.ctrvals 0 k 0 }
  else if i.loc < 0x1200000 then
    let e := at_ 0x1100000 8
    let o := d.ext e
    let d := d.setExt e (extView d.role (d.mirrorPort.getD 0) o (unpackExtent i.bytes))
    if o.st ≠ 2 ∧ (d.ext e).st = 2 then d.queueScrub e else d
  else d.updKey (at_ keyLoc 64) (unpackKey i.bytes)

end Sys2Proof.Machine
end

