-- ==== Sys2Proof/Machine/Restore.lean ====
section
/-! DEFINITION. Reset (R372 to R378, R318), the NOR journal (R229 to R232) and warm restart (R233 to R239, R403). -/
namespace Sys2Proof.Machine

/-! ### Reset -/

/-- The device held in reset: what stays is the AON domain, what lies outside the device (NOR, homes, supplies, pins), the slots' lead of R310, and what
it has sent. Debug unlocks are counted since fusing (R399). -/
def Dev.inReset (d : Dev) : Dev :=
  let unlocks := d.get R.SEC.UNLOCKCNT.VALUE
  let filtered := d.is R.PRS.STATE.PFAIL
  let live := (List.range 32).filter (fun n => d.slotSt n != 0)
  let n : Dev :=
    { regs := Tbl.keep d.regs isAon, flaws := d.flaws.filter (fun o => o == 0x200 || o == 0x30004), clk := { d.clk with locked := false, holdover := false, onMclk := false, pllFail := false }, pins := { d.pins with safeLow := false, tsyncOut := false }, prs := { stored := d.prs.stored, filt := d.prs.filt, t0 := none }, nor := { d.nor with op := 0, busy := none, adds := none, took := 0 }, slot := Tbl.remap d.slot {} (fun _ (x : SlotRt) => { vinOk := x.vinOk, vin := x.vin, vout := x.vout, iout := x.iout }), out := d.out, freeCtr := d.freeCtr }
  let n := ((n.set R.SEC.UNLOCKCNT.VALUE unlocks).put R.PRS.STATE.PFAIL filtered).lcDebug
  live.foldl (fun e s => (if d.is (R.SLT.STS.PG s) then e.emit .pins .pin [s, 0] else e).toSlot s 7) n

/-- The sequence has begun and has not ended (R213). -/
def Dev.midSequence (d : Dev) : Bool := 2 ≤ d.get R.PRS.STATE.SEQ && d.get R.PRS.STATE.SEQ ≤ 6

/-- PERST_N_ASSERT (R376, R213, R318): the device is reset; a sequence under way ends where it stands with PERSIST_DONE asserted. -/
def Dev.perstAssert (d : Dev) : Dev :=
  if d.pins.perstN then
    let mid := d.midSequence
    let d := if mid then d.off R.PRS.RESULT.DONE else d
    let d := d.inReset.rstCause false true false false
    { d with pins := { d.pins with perstN := false, persistDone := mid } }
  else d

def execPerstNAssert (s : State) := aon s Dev.perstAssert

/-- The restore's t = 0 (R233): PERST_N and PFAIL_N are both high, and no rail holds the device in reset (R372). -/
def Dev.startRestore (d : Dev) : Dev :=
  if d.pins.perstN ∧ d.pins.pfailN ∧ d.clk.coreLow.isEmpty ∧ d.clk.aon ∧ d.prs.t0.isNone then { d with prs := { d.prs with t0 := some d.time.cclk } } else d

/-- The straps, as sampled, show in TOP.STRAPS, and the strapped role holds until an image gives another (R12, R273). -/
def Dev.showStraps (d : Dev) : Dev :=
  (((d.set R.TOP.STRAPS.DEV_ID d.pins.devId).put R.TOP.STRAPS.PAIR_ROLE d.pins.pairRole).put R.PAIR.STATE.STRAP d.pins.pairRole).put R.PAIR.STATE.ROLE d.pins.pairRole

/-- PERST_N_RELEASE (R233, R368): the straps are sampled; the device is in RESTORE with MODE = START. -/
def Dev.perstRelease (d : Dev) (id : Nat) (role : Bool) : Dev :=
  if !d.pins.perstN then
    let d := { d with pins := { d.pins with perstN := true, persistDone := false, devId := id, pairRole := role }, time := {} }
    d.showStraps.startRestore
  else d

def execPerstNRelease (devId : Fin 8) (role : Bool) (s : State) := aon s (fun d => d.perstRelease devId role)

/-- PFAIL_N_RELEASE (R211, R213, R233): the filter breaks; a restore that waited for it starts; a sequence goes on. -/
def Dev.pfailRelease (d : Dev) : Dev :=
  if d.pins.pfailN then d
  else Dev.startRestore ({ d with pins := { d.pins with pfailN := true }, prs := { d.prs with filt := false } }.off R.PRS.STATE.PFAIL)

def execPfailNRelease (s : State) := aon s Dev.pfailRelease

/-- CORE_RAIL_LOW (R372): a core rail below 90 % of nominal resets the device as PERST_N does; nothing is saved. -/
def Dev.coreLow (d : Dev) (r mv : Nat) : Dev :=
  if 10 * mv < 9 * railNominal r then
    let first := d.clk.coreLow.isEmpty
    let d := d.railLevel r mv
    let d := if first then Dev.rstCause { d.inReset with pins := { d.inReset.pins with persistDone := d.midSequence } } false false true false else d
    let d := { d with clk := { d.clk with coreLow := r :: d.clk.coreLow.filter (· != r) } }
    if r = 0 then d.emit .pins .gateDrive [32, 0] else d
  else d

def execCoreRailLow (r : Fin 4) (mv : Nat) (s : State) := aon s (fun d => d.coreLow r mv)

/-- CORE_RAIL_RESTORED (R372): with no core rail low the hold is released; with PERST_N high the device starts as at its rising edge. -/
def Dev.coreBack (d : Dev) (r mv : Nat) : Dev :=
  if d.clk.coreLow.contains r ∧ 9 * railNominal r ≤ 10 * mv then
    let d := d.railLevel r mv
    let d := { d with clk := { d.clk with coreLow := d.clk.coreLow.filter (· != r) } }
    if d.clk.coreLow.isEmpty ∧ d.pins.perstN then (Dev.showStraps { d with time := {}, pins := { d.pins with persistDone := false } }).startRestore else d
  else d

def execCoreRailRestored (r : Fin 4) (mv : Nat) (s : State) := aon s (fun d => d.coreBack r mv)

/-- AON_POWER_LOSS (R372): every AON register returns to its reset value; what is fused stays (R159, R399). A home image outlives it as one written
before the loss (R236). -/
def Dev.aonLoss (d : Dev) : Dev :=
  if d.clk.aon then
    let n := d.inReset
    Dev.lcDebug { n with regs := Tbl.keep n.regs (fun k => k == R.SEC.LCSTS.STATE.key || k == R.SEC.LCSTS.KEYS_ERASED.key || k == R.SEC.UNLOCKCNT.VALUE.key), flaws := [], slot := [], clk := { n.clk with aon := false }, pins := { n.pins with persistDone := false }, prs := { n.prs with filt := false, stored := n.prs.stored.map (fun x => (x.1, { x.2 with aonKept := false })) } }
  else d

def execAonPowerLoss (s : State) := aon s Dev.aonLoss

/-- VDD_AON_POWER_ON (R372, R397): AON registers at their reset values, POR recorded (and PERST_N where it is asserted) as the first
reset, the always-on logic on REFCLK. -/
def Dev.aonOn (d : Dev) : Dev :=
  if d.clk.aon then d
  else
    let d : Dev := { d with clk := { d.clk with aon := true, onMclk := false } }
    let d := (d.rstCause true (!d.pins.perstN) false false).set R.TOP.RSTCAUSE.COUNT 1
    if d.pins.perstN then (Dev.showStraps { d with time := {} }).startRestore else d

def execVddAonPowerOn (s : State) := aon s Dev.aonOn

/-! ### The journal (R229 to R232) -/

/-- Bytes of a journal bank (R345) and of a baseline (R226). -/
abbrev bankBytes : Nat := 0x1000000
abbrev baselineBytes : Nat := 905232

/-- The registers of the journal follow what waits and what runs. -/
def Dev.showJournal (d : Dev) : Dev :=
  (((d.set R.PRS.JRNSTS.PEND (min d.prs.chg.length 0xFF)).put R.PRS.JRNSTS.BUSY (d.nor.op != 0)).put R.PRS.JRNSTS.BANK d.nor.bank).put R.PRS.JRNSTS.LAG
    (d.is R.PRS.JRNSTS.LAG && d.prs.chg.any (fun c => c.at_ + ms 2000 < d.time.cclk))

/-- The address of a byte of a journal bank (R345). -/
def norAt (bank : Bool) (o : Nat) : Nat := 0x1000000 * (1 + bit bank) + o

/-- Start a NOR operation. -/
def Dev.norRun (d : Dev) (op : Nat) (tgt : Bool) : Dev := Dev.showJournal { d with nor := { d.nor with op := op, tgt := tgt } }

/-- Start to write a baseline, which covers every change so far (R229). -/
def Dev.norBaseline (d : Dev) (tgt : Bool) : Dev :=
  let r := d.drawImage 1
  Dev.norRun ({ r.2 with nor := { d.nor with busy := some r.1, adds := none, took := d.prs.chg.length } }.emit .nor .jrnBaseline (norAt tgt 0 :: r.1.bytes)) 2 tgt

/-- Start to append the record of the oldest change, sealed under a fresh IV (R231). -/
def Dev.norRecord (d : Dev) (c : CatChg) (items : List Item) : Dev :=
  let r := d.draw 96
  let x : JrnRec := { chg := c, iv := r.1, items := items }
  Dev.norRun ({ r.2 with nor := { d.nor with busy := none, adds := some x, took := 1 } }.emit .nor .jrnRecord (norAt d.nor.bank d.nor.fill :: x.bytes)) 1 d.nor.bank

/-- Start to erase a bank. -/
def Dev.norErase (d : Dev) (tgt : Bool) : Dev :=
  Dev.norRun ({ d with nor := { d.nor with busy := none, adds := none, took := 0 } }.emit .nor .jrnErase [norAt tgt 0, bankBytes]) 3 tgt

/-- JOURNAL_APPEND (R229, R231): the record of the oldest change not yet in NOR, or a baseline in the other bank: where the active bank has no room, and where
the change does not follow the journal's last (a restore has taken another image). Without a baseline one is written first. From P0 none is started
(R214); a Curator that restarts starts none (R348). -/
def Dev.jrnAppend (d : Dev) : Dev :=
  match d.prs.chg with
  | [] => d
  | c :: _ =>
    if d.nor.op ≠ 0 ∨ !d.inService ∨ d.mgmt.down ∨ d.mgmt.dead then d
    else match d.nor.jrn with
      | none => d.norBaseline d.nor.bank
      | some j =>
        if c.seq = j.cfgSeq + 1 ∧ d.nor.fill + recordLen (catDiff j c.after true) ≤ bankBytes then d.norRecord c (catDiff j c.after true)
        else d.norBaseline (!d.nor.bank)

def execJournalAppend (s : State) := core s Dev.jrnAppend

/-- What a program has added to the journal. -/
def Nor.added (n : Nor) : Nor :=
  let n := match n.adds with
    | some r => { n with recs := n.recs ++ [r], fill := n.fill + recordLen r.items }
    | none => { n with base := n.busy, recs := [], fill := baselineBytes, bank := n.tgt }
  { n with op := 0, busy := none, adds := none, took := 0 }

/-- A program has ended: what it covers is in NOR. -/
def Dev.norTaken (d : Dev) : Dev :=
  let d : Dev := { d with nor := d.nor.added, prs := { d.prs with chg := d.prs.chg.drop d.nor.took } }
  (d.set64 R.PRS.JRNSEQ_L.VALUE R.PRS.JRNSEQ_H.VALUE (d.nor.jrn.elim 0 (·.cfgSeq))).showJournal

/-- NOR_OPERATION_COMPLETE (R229, R232): after a baseline in the other bank the old bank is erased. A failure sets JRN_ERR and is retried in the other bank: a
program as a baseline there; an erase, which concerns the bank other than the active one already, there again (log entry 156). -/
def Dev.norDone (d : Dev) (ok : Bool) : Dev :=
  let n := d.nor
  match n.op with
  | 0 => d
  | 3 => if ok then Dev.showJournal { d with nor := { n with op := 0 } } else (d.raise .prs 5).norErase n.tgt
  | _ =>
    if ok then
      let d := d.norTaken
      if n.op = 2 ∧ n.tgt ≠ n.bank then d.norErase n.bank else d
    else
      let t := !n.tgt
      Dev.norBaseline ({ d with nor := { n with base := if t = n.bank then none else n.base, recs := if t = n.bank then [] else n.recs } }.raise .prs 5) t

def execNorOperationComplete (ok : Bool) (s : State) := core s (fun d => d.norDone ok)

/-- JRN_LAG (R232): a committed change older than 2 s is not yet in NOR. -/
def execJrnLag (s : State) := core s (fun d => if d.prs.chg.isEmpty then d else (d.on R.PRS.JRNSTS.LAG).raise .prs 6)

/-! ### Boot and the journal (R233, R346) -/

/-- A restore runs. -/
def Dev.restoring (d : Dev) (stage : Nat) : Bool := d.get R.PRS.STATE.SEQ == 0 && d.prs.t0.isSome && d.prs.stage == stage

/-- A later stage. -/
def Dev.toStage (d : Dev) (n : Nat) : Dev := { d with prs := { d.prs with stage := n } }

/-- CURATOR_BOOT_COMPLETE (R346, R395): a bank is good with a signature that holds and a version at least the fused one; the active bank boots, or the other one with BOOT_ALT; with both bad, FW_NOR and no command service. -/
def Dev.curBoot (d : Dev) (ok0 ok1 : Bool) (meas : List Nat) : Dev :=
  if d.restoring 0 ∧ !d.mgmt.dead then
    let ok := fun (b : Bool) => (if b then ok1 else ok0) && d.get R.TOP.SECVER.VER ≤ (if b then d.nor.ver1 else d.nor.ver0)
    let act := d.nor.fwBank
    if ok act ∨ ok (!act) then
      let b := if ok act then act else !act
      let d := if ok act then d else d.raise .cur 0
      let d := (d.put R.SEC.CURSTS.BANK b).set R.SEC.FWVER.ACTIVE (if b then d.nor.ver1 else d.nor.ver0)
      let d := ((meas.take 12).zip (List.range 12)).foldl (fun d (m, i) => d.set (R.MEAS.VALUE i) m) d
      (d.on R.SEC.FUSESTS.READ).toStage 1
    else { d with mgmt := { d.mgmt with dead := true } }.raise .cur 5
  else d

def execCuratorBootComplete (bank0Ok bank1Ok : Bool) (meas : List Nat) (s : State) := core s (fun d => d.curBoot bank0Ok bank1Ok meas)

/-- An image's register items replace the CAT fields. -/
def Dev.loadRegs (d : Dev) (t : Tbl Nat) : Dev :=
  { d with regs := (Tbl.keep t isCat).foldl (fun r x => Tbl.put r x.1 x.2) (Tbl.keep d.regs (fun k => !isCat k)) }

/-- Bring up what the settings ask for: ports with ENABLE and slots with EN. -/
def Dev.bringUp (d : Dev) (ports slots : List Nat) : Dev :=
  let d := slots.foldl (fun d n => if d.is (R.SLT.CTL.EN n) then (d.off (R.SLT.STS.TRIES n)).toSlot n 1 else d) d
  ports.foldl (fun d p => if d.is (R.PU.LNKCTL.ENABLE p) then d.startPort p else d) d

/-- Candidate codes of RSTSTS. -/
def HomeRead.why : HomeRead → Nat
  | .asWritten => 0
  | .unreadable => 2
  | .format => 3
  | .tag => 4
  | .table => 5

/-- A register field of an image. -/
def Image.fld (i : Image) (f : Fld) : Nat := Tbl.get i.regs f.rst f.key

/-- An enabled HOST port of an image. -/
def Image.hostPort (i : Image) (p : Nat) : Bool := i.fld (R.PU.CFG.ROLE p) == 1 && i.fld (R.PU.LNKCTL.ENABLE p) == 1

/-- No two entries of a list meet. -/
def apart {α : Type} (f : α → α → Bool) : List α → Bool
  | [] => true
  | x :: l => !l.any (f x) && apart f l

/-- R144 on the rules: within each slice no two enabled ones share a page, and none ends before it begins. -/
def Image.rulesOk (i : Image) : Bool := (List.range 512).all (fun s => !ruleOverlap ((List.range 8).map (fun k => Tbl.get i.rules {} (8 * s + k))))

/-- R94 on the enabled windows: in range, apart, ELIGIBLE of enabled HOST ports only. -/
def Image.winsOk (i : Image) : Bool :=
  let wins := (i.cwins.map (·.2)).filter (·.en)
  wins.all (fun (w : CWinE) => w.first + w.num ≤ 65535 && (List.range 64).all (fun p => !hasBit w.elig p || i.hostPort p)) && apart (fun (v w : CWinE) => meets v.first v.num w.first w.num) wins

/-- R136 on the slices bound to one port: their PASIDs differ, one default slice at most, no enabled windows that overlap. -/
def portSlicesOk (l : List SliceE) : Bool :=
  apart (fun (v w : SliceE) => v.pasidEn && w.pasidEn && v.pasid == w.pasid) l && apart (fun (v w : SliceE) => v.ioDef && w.ioDef) l &&
    apart (fun (v w : Window) => meets v.base v.num w.base w.num) (l.flatMap (fun (v : SliceE) => v.wins.filter (·.en)))

/-- R136 on the slices: each on an enabled HOST port, each extent it maps there, in a state that may be mapped, and holding no Catalogue. -/
def Image.slicesOk (i : Image) : Bool :=
  let bound := (i.slices.map (·.2)).filter (fun (x : SliceE) => x.st != slFree)
  bound.all (fun (x : SliceE) => i.hostPort x.port && x.wins.all (fun w => !w.en || w.ext + w.num ≤ 65535) &&
    x.exts.all (fun e => let y := Tbl.get i.extents {} e; y.valid && y.st ≤ 1 && !y.cat)) &&
  (List.range 64).all (fun p => portSlicesOk (bound.filter (fun (x : SliceE) => x.port == p)))

/-- R141 on the extents: one in an enabled coherent window lies where R264 admits. -/
def Image.extentsOk (i : Image) : Bool :=
  i.extents.all (fun x => !x.2.valid || !(i.cwins.any (fun w => w.2.en && w.2.first ≤ x.1 && x.1 ≤ w.2.first + w.2.num)) ||
    i.fld (R.PU.CFG.ROLE x.2.port) == 2 || (i.fld R.PAIR.CTL.EN == 1 && i.fld (R.PU.CFG.ROLE x.2.port) == 4))

/-- Every restored table passes the checks its own commands apply (R235). -/
def Image.tablesOk (i : Image) : Bool := i.rulesOk && i.winsOk && i.slicesOk && i.extentsOk

/-- A copy's code (R235): as it was read, then DEV_ID against the strap, the tag, the tables. -/
def Dev.copyWhy (d : Dev) (r : HomeRead) (i : Image) : Nat :=
  if r ≠ .asWritten then r.why else if i.devId ≠ d.pins.devId then 3 else if !i.sealed then 4 else if !i.tablesOk then 5 else 0

/-- The journal's candidate code (R235): it is valid when its newest baseline is. -/
def Dev.jrnWhy (d : Dev) (r : HomeRead) : Nat := d.nor.base.elim 1 (d.copyWhy r)

/-- The journal ends at the first record whose tag fails, after `good` that verify, or whose CFG_SEQ does not follow (R231). -/
def Nor.cutAt (n : Nor) (good : Nat) : Nor :=
  let l := followOn (n.base.elim 0 (·.cfgSeq)) (n.recs.take good)
  { n with recs := l, fill := if n.base.isSome then l.foldl (fun s r => s + recordLen r.items) baselineBytes else 0 }

/-- JOURNAL_READ_COMPLETE (R233, R318): slots and ports are configured from the journal. -/
def Dev.jrnRead (d : Dev) (r : HomeRead) (good : Nat) : Dev :=
  if d.restoring 1 then
    let w := d.jrnWhy r
    let d := ({ d with nor := d.nor.cutAt good }.set R.PRS.RSTSTS.N_WHY w).toStage 2
    match d.nor.jrn with
    | some j =>
      if w = 0 then
        let d := (d.loadRegs j.regs).set64 R.PRS.JRNSEQ_L.VALUE R.PRS.JRNSEQ_H.VALUE j.cfgSeq
        d.showJournal.bringUp (List.range 64) (List.range 32)
      else d
    | none => d
  else d

def execJournalReadComplete (read : JrnRead) (s : State) := core s (fun d => (d.jrnRead read.read read.good).settle)

/-- MEMORY_DEVICE_READY (R233, R218). -/
def Dev.memReady (d : Dev) (p : Nat) (gpf : Bool) : Dev :=
  if d.isMem p ∧ d.isUp p then
    { d.updPrt p (fun r => { r with partner := { r.partner with gpf := gpf } }) with prs := { d.prs with hold := if d.prs.hold.contains p then d.prs.hold else d.prs.hold ++ [p] } }
  else d

def execMemoryDeviceReady (p : Fin 64) (gpf : Bool) (s : State) := core s (fun d => d.memReady p gpf)

/-! ### Images (R235, R236) -/

/-- A home's candidate code (R235). -/
def Dev.homeWhy (d : Dev) (b : Bool) (r : HomeRead) : Nat :=
  if !d.is R.PRS.CTL.ARMED ∨ !(d.home b).2.2 then 1
  else if !d.isUp (d.homePort b) ∨ !d.prs.hold.contains (d.homePort b) then 2
  else match Tbl.get? d.prs.stored (d.homeKey b) with
    | none => if r ≠ .asWritten then r.why else 3
    | some i => d.copyWhy r i

/-- Where an image comes from. -/
inductive RstSrc where | home | journal | partner
  deriving DecidableEq, Repr

/-- Every queue DISABLED (R207); from the journal its progress starts anew (R236). -/
def restQueues (t : Tbl QueueE) (jrn : Bool) : Tbl QueueE :=
  Tbl.remap t {} (fun _ (e : QueueE) =>
    let q := { e with st := qDisabled, en := false, abort := false, resume := false, rej := false }
    if jrn then { q with head := 0, tail := 0, okSeq := 0, lastStatus := 0, fphase := true } else q)

/-- Log entries: BASE and SIZE kept; PI, CI and OVF as a home saved them (R236). -/
def restDlogs (t : Tbl DlogE) (jrn : Bool) : Tbl DlogE := Tbl.remap t {} (fun _ (l : DlogE) => if jrn then l.setup else l)

/-- Bucket levels under the rule of R173 outside SERVICE. -/
def startLevel (init : Bool) (burst now : Nat) : Bucket := ⟨if init then bktCap burst else 0, now⟩

/-- Policers, class shapers and port shapers start over (R173, R236). -/
def Dev.startBuckets (d : Dev) : Dev :=
  let d := { d with sched := { d.sched with peak := Tbl.remap d.polices (fullBkt 0x10000) (fun _ (e : PoliceE) => startLevel e.init e.pbs d.ns), com := Tbl.remap d.polices (fullBkt 0x10000) (fun _ (e : PoliceE) => startLevel e.init e.cbs d.ns), cls := Tbl.remap d.classes (fullBkt 0x4000) (fun _ (e : ClassE) => startLevel e.init e.burst d.ns), written := d.classes } }
  (List.range 64).foldl (fun d p => d.setPrtB p (startLevel (d.is (R.SCH.PSHP.INIT p)) (d.get (R.SCH.PBURST.BURST p)) d.ns)) d

/-- Command counters from a journal jump ahead (R237). -/
def restKeys (t : Tbl KeyE) (jrn : Bool) : Tbl KeyE :=
  if jrn then (List.range 8).foldl (fun r p => Tbl.upd r {} p (fun k => { k with cnt := (k.jcnt + 2 ^ 32) % 2 ^ 64, jcnt := (k.jcnt + 2 ^ 32) % 2 ^ 64 })) t else t

/-- Rings wait for their principals to attach again (R236, R327): HEAD and the phase as a home saved them, else from the start. -/
def restRings (t : Tbl RingE) (jrn : Bool) : Tbl RingE :=
  if jrn then [] else Tbl.remap t {} (fun _ (r : RingE) => { head := r.head, fetch := r.head, phase := r.phase })

/-- Load an image's tables, keys and CAT registers (R226, R236). -/
def Dev.loadImage (d : Dev) (i : Image) (src : RstSrc) : Dev :=
  let jrn := src == .journal
  let (sd, cs) := if src == .home then i.regSection else (i.sdumps, i.ctrsels)
  let d := d.loadRegs i.regs
  let d := if jrn then (List.range 8).foldl (fun d p => (d.off (R.PRIN.DB.TAIL p)).off (R.PRIN.DB.EVCI p)) d else d
  let d := { d with slices := Tbl.remap i.slices {} (fun _ (e : SliceE) => { e with dlogEn := false }), extents := i.extents, rules := i.rules, cwins := Tbl.remap i.cwins {} (fun _ (c : CWinE) => { c with rebuild := false }), polices := i.polices, classes := i.classes, gcls := i.gcls, dlogs := restDlogs i.dlogs jrn, queues := restQueues i.queues jrn, sdumps := sd, ctrsels := cs, xgrp := { d.xgrp with fabricId := i.xgrp.fabricId, rebal := i.xgrp.rebal, mseq := i.xgrp.mseq, applied := i.xgrp.applied } }
  let d := { d with mgmt := { d.mgmt with keys := restKeys i.keys jrn, rings := restRings i.rings jrn, recs := if jrn then [] else i.commits }, buf := { d.buf with resv := (i.slices.filter (fun (x : Nat × SliceE) => x.2.st != slFree)).map (fun (x : Nat × SliceE) => (x.1, 256)) } }
  let d := { d with skid := { d.skid with rt := Tbl.remap d.queues {} (fun _ (q : QueueE) => { fetch := q.head, hphase := q.fphase }) } }
  d.startBuckets

/-- Ports whose settings differ. -/
def portsDiffer (a b : Tbl Nat) : List Nat :=
  (List.range 64).filter (fun p =>
    let f := fun (t : Tbl Nat) => Tbl.keep (Tbl.keep t isCat) (fun k => k / 32 / 0x1000 == 0x100 + p)
    decide (f a ≠ f b))

/-- Slots whose settings differ. -/
def slotsDiffer (a b : Tbl Nat) : List Nat :=
  (List.range 32).filter (fun n =>
    let f := fun (t : Tbl Nat) => Tbl.keep (Tbl.keep t isCat) (fun k => k / 32 / 0x100 == 0x900 + n)
    decide (f a ≠ f b))

/-- An image is loaded, and ports and slots whose settings it changes are brought up again (R234). -/
def Dev.loadAll (d : Dev) (i : Image) (src : RstSrc) : Dev :=
  let ps := portsDiffer d.regs i.regs
  let ss := slotsDiffer d.regs i.regs
  let d := (ps.filter (fun p => (d.prt p).ex)).foldl Dev.stopPort d
  let d := (ss.foldl Dev.slotDown d).loadImage i src
  d.bringUp ps ss

/-- The sequence's records come from the image's header where VDD_AON was lost after it was written (R236). -/
def Dev.loadAon (d : Dev) (i : Image) : Dev :=
  let miss := ((List.range 64).filter (fun p => hasBit i.gpfMiss p)).length
  let d := (((d.set R.PRS.P0T.US i.p0t).set R.PRS.P1T.US i.p1t).set R.PRS.P2T.US i.p2t).set R.PRS.LOSTLINES.VALUE i.lostLines
  let d := ((d.set64 R.PRS.GPFOK_L.VALUE R.PRS.GPFOK_H.VALUE i.gpfOk).set64 R.PRS.GPFMISS_L.VALUE R.PRS.GPFMISS_H.VALUE i.gpfMiss).set64 R.PRS.SAVETIME_L.VALUE R.PRS.SAVETIME_H.VALUE i.saveTime
  let d := ((((d.set R.PRS.CATLEN.BYTES i.len).set R.PRS.RESULT.CAUSE i.cause).put R.PRS.RESULT.P1_LATE i.p1Late).put R.PRS.RESULT.P2_MISS i.p2Miss).set R.PRS.RESULT.MISS_CNT miss
  let d := if i.p1Late then d.raise .prs 1 else d
  if i.p2Miss then d.raise .prs 0 else d

/-- The candidate chosen (R235): the highest CFG_SEQ among the valid ones; a home before the journal, home A before home B; none without a valid
journal. -/
def Dev.choose (d : Dev) (a b n : Nat) : Option (Nat × Image) :=
  if n ≠ 0 then none
  else
    let at_ := fun (w code : Nat) (i : Option Image) => match i with
      | some i => if w = 0 then [(code, i)] else []
      | none => []
    let l := at_ a 1 (Tbl.get? d.prs.stored (d.homeKey false)) ++ at_ b 2 (Tbl.get? d.prs.stored (d.homeKey true)) ++ at_ n 3 d.nor.jrn
    l.foldl (fun r x => match r with
      | none => some x
      | some y => if y.2.cfgSeq < x.2.cfgSeq then some x else some y) none

/-- Changes that the journal does not hold wait to be journaled. -/
def Dev.pendAfter (d : Dev) : Dev :=
  Dev.showJournal { d with prs := { d.prs with chg := List.replicate (min 255 (d.cfgSeq - d.nor.jrn.elim 0 (·.cfgSeq))) { at_ := d.time.cclk, seq := d.cfgSeq, after := d.image 1 } } }

/-- HOME_READ_COMPLETE (R235 to R237). -/
def Dev.homeRead (d : Dev) (a b : HomeRead) : Dev :=
  if d.restoring 2 then
    let wa := d.homeWhy false a
    let wb := d.homeWhy true b
    let d := ((d.set R.PRS.RSTSTS.A_WHY wa).set R.PRS.RSTSTS.B_WHY wb).toStage 3
    let d := match d.choose wa wb (d.get R.PRS.RSTSTS.N_WHY) with
      | none => d
      | some (src, i) =>
        let d := (d.loadAll i (if src = 3 then .journal else .home)).set R.PRS.RSTSTS.SRC src
        let d := d.set64 R.PRS.RSTSEQ_L.VALUE R.PRS.RSTSEQ_H.VALUE i.cfgSeq
        let d := if src = 3 then (d.raise .prs 4).on R.PRS.RSTSTS.CNT_JUMP else if i.aonKept then d else d.loadAon i
        Dev.pendAfter { d with prs := { d.prs with img := some { i with source := if src = 3 then 1 else 0 } } }
    if d.is R.PAIR.CTL.EN then d.set R.PAIR.STATE.PSTATE psSeek else d
  else d

def execHomeReadComplete (a b : HomeRead) (s : State) := core s (fun d => (d.homeRead a b).settle)

/-! ### Content (R238) -/

/-- A MEM port of this device is missing in the image's GPF_OK. -/
def Dev.unkept (d : Dev) (ok p : Nat) : Bool := d.role p == 2 && !hasBit ok p

/-- An extent whose content the save did not keep (R238). -/
def Dev.extLost (d : Dev) (ok : Nat) (x : ExtentE) : Bool :=
  x.vol || (d.unkept ok x.port && !(x.altEn && !x.altPartner && hasBit ok x.altPort))

/-- CONTENT_LOST on the bound slices that map an extent whose content is lost, counted in PRS.CLOST. -/
def Dev.flagSlices (d : Dev) (gone : SliceE → Bool) : Dev :=
  let d := { d with slices := d.slices.map (fun (x : Nat × SliceE) => if x.2.st = slBound ∧ gone x.2 then (x.1, { x.2 with lost := true }) else x) }
  d.set R.PRS.CLOST.COUNT (d.slices.filter (fun (x : Nat × SliceE) => x.2.lost)).length

/-- CONTENT_LOST after a restore (R238). -/
def Dev.flagLost (d : Dev) : Dev :=
  match d.prs.img with
  | none => d
  | some i => d.flagSlices (fun x => i.source == 1 || x.exts.any (fun e => d.extLost i.gpfOk (d.ext e)))

/-- The owner of an extent has answered whether its content was lost (R263). -/
def Dev.lostAnswered (d : Dev) (e status : Nat) : Dev :=
  if d.prs.asked.contains e then
    let d := { d with prs := { d.prs with asked := d.prs.asked.erase e } }
    if status = 3 then d.flagSlices (fun x => x.exts.contains e) else d
  else d

/-- By resume-ready an extent whose owner has not answered counts as lost (R263). -/
def Dev.unanswered (d : Dev) : Dev :=
  let l := d.prs.asked
  if l.isEmpty then d else Dev.flagSlices { d with prs := { d.prs with asked := [] } } (fun x => l.any (fun e => x.exts.contains e))

/-! ### The pair (R239) -/

/-- The receiver of a partner's image converts the extent entries (R281) and keeps its own DEV_ID, role, homes, PFCFG and arm settings. -/
def Dev.ownView (d : Dev) (i : Image) : Image :=
  let role := fun p => Tbl.get i.regs (R.PU.CFG.ROLE p).rst (R.PU.CFG.ROLE p).key
  let mir := (d.mirrorPort.getD 0)
  let mine := fun (k : Nat) => isCat k && ((ownReg (k / 32) && k / 32 != 0x3006C && k / 32 != 0x30070 && !(0x10100 ≤ k / 32 && k / 32 < 0x10200)) || k == R.PAIR.STATE.ROLE.key)
  { i with devId := d.pins.devId, extents := Tbl.remap i.extents {} (fun k (x : ExtentE) => extView role mir (d.ext k) x), regs := (Tbl.keep d.regs mine).foldl (fun r x => Tbl.put r x.1 x.2) (Tbl.keep i.regs (fun k => !mine k)) }

/-- PAIR_AGREEMENT (R239): the device with the lower CFG_SEQ takes the partner's image and keeps its own CONTENT_LOST flags set. -/
def Dev.pairAgree (d : Dev) (seq : Nat) (img : Image) : Dev :=
  if d.restoring 3 ∧ d.is R.PAIR.CTL.EN ∧ d.mirrorPort.any d.isUp then
    let d := d.toStage 4
    if d.cfgSeq < seq then
      let flagged := (d.flagLost.slices.filter (fun x => x.2.lost)).map (·.1)
      let gpf := d.prs.img.elim 0 (·.gpfOk)
      let i := d.ownView img
      let d := d.loadAll i .partner
      let d := { d with slices := d.slices.map (fun (x : Nat × SliceE) => if flagged.contains x.1 then (x.1, { x.2 with lost := true }) else x), prs := { d.prs with img := some { i with gpfOk := gpf } } }
      ((d.set64 R.PRS.RSTSEQ_L.VALUE R.PRS.RSTSEQ_H.VALUE d.cfgSeq).on R.PRS.RSTSTS.PAIR_ADOPT).pendAfter
    else d
  else d

def execPairAgreement (seq : Nat) (img : Image) (s : State) := core s (fun d => (d.pairAgree seq img).settle)

/-! ### The consistency pass (R403) -/

/-- The slices' windows' count of an extent. -/
def Dev.localMaps (d : Dev) (e : Nat) : Nat := (d.slices.filter (fun x => x.2.st != slFree)).foldl (fun n x => n + (x.2.exts.filter (· == e)).length) 0

/-- MAPCNT is recounted: it covers at least the windows that map the extent; what lies above them are mappings of other devices (R263). -/
def Dev.recount (d : Dev) : Dev :=
  let es := (d.slices.flatMap (fun x => if x.2.st = slFree then [] else x.2.exts)).eraseDups
  es.foldl (fun d e => let x := d.ext e; d.setExt e { x with mapcnt := max x.mapcnt (d.localMaps e) }) d

/-- Every pending slice command finishes; the other recorded commands end as after a Curator restart (R332). -/
def Dev.finishAll (d : Dev) : Dev :=
  let run := (d.slices.filter (fun x => 2 ≤ x.2.st)).map (·.1)
  let d := { d with mgmt := { d.mgmt with down := true } }
  let d := run.foldl (fun d s => d.advance s false) d
  { d with mgmt := { d.mgmt with down := false, recs := d.mgmt.recs.map (fun r => if r.done then r else { r with done := true, status := stInternal, code := 0, result := 1 }) } }

/-- The content of every remote extent this device maps is asked of its owner, on a pair over the mirror link of the partner (R263). -/
def Dev.askLost (d : Dev) : Dev :=
  let es := (d.slices.flatMap (fun (x : Nat × SliceE) => if x.2.st = slFree then [] else x.2.exts)).eraseDups
  let far := es.filter (fun e => d.remote e && !d.compat e && d.role (d.ext e).port == 3)
  let mir := if d.is R.PAIR.CTL.EN then (d.extents.filter (fun (x : Nat × ExtentE) => x.2.valid && d.role x.2.port == 4)).map (·.1) else []
  let d := (far ++ mir).foldl (fun (d : Dev) e => d.sendMapref (d.linkFor (d.ext e).port 0 (e * 2 ^ 30)) e 0 d.xgrp.mseq) d
  { d with prs := { d.prs with asked := far ++ mir } }

/-- CONSISTENCY_PASS (R403, R238, R152): a device that pairs comes here after the agreement or, with `bound`, its stage's bound. -/
def Dev.consistency (d : Dev) (bound : Bool) : Dev :=
  if d.restoring 4 ∨ (d.restoring 3 ∧ (bound || !d.is R.PAIR.CTL.EN)) then
    let d := d.finishAll.recount.askLost.flagLost.toStage 5
    ((d.extents.filter (fun x => x.2.st == 2)).map (·.1)).foldl Dev.queueScrub d
  else d

def execConsistencyPass (bound : Bool) (s : State) := core s (fun d => (d.consistency bound).settle)

/-- RESTORE_STAGE_TIMEOUT (R233): the stage proceeds without the parts that are late. -/
def Dev.stageTimeout (d : Dev) : Dev :=
  if d.restoring 1 then (d.set R.PRS.RSTSTS.N_WHY 2).toStage 2
  else if d.restoring 2 then d.homeRead .unreadable .unreadable
  else if d.restoring 3 ∧ d.is R.PAIR.CTL.EN then d.toStage 4
  else if d.restoring 3 ∨ d.restoring 4 then d.consistency false
  else d

def execRestoreStageTimeout (s : State) := core s (fun d => d.stageTimeout.settle)

end Sys2Proof.Machine
end

