-- ==== Sys2Proof/Machine/Xepin.lean ====
section
/-! DEFINITION. The receiving side of a Xepin link (R244 to R258), requests from other devices (R128, R139, R261 to R263), the rebalancing of
link groups. A frame half arrives as its 128 bytes; the messages its slots begin are arrivals, which the rows of their kind take (log entry 40). -/
namespace Sys2Proof.Machine

/-! ### CAPABILITY_EXCHANGE (R244, R245, R256) -/

/-- The INSTANCE of a port, drawn when it is first needed after a reset (R256). -/
def Dev.drawInst (d : Dev) (p : Nat) : Dev :=
  if (d.xl p).inst.isSome then d
  else
    let r := d.draw 16
    r.2.updXl p (fun x => { x with inst := some r.1 })

/-- The record a port sends (R244). -/
def Dev.capRec (d : Dev) (p : Nat) : CapRec :=
  { version := 1, devId := d.pins.devId, fabricId := d.xgrp.fabricId, role := d.role p, byp := d.is (R.PU.CFG.XBYP p), rxValid := (d.xl p).rxKept, rxNext := (d.xl p).exp, inst := (d.xl p).inst.getD 0 }

/-- The 8 bytes of a capability record (R244). -/
def packCap (r : CapRec) : Nat :=
  cat [(r.version, 4), (r.devId, 3), (0, 1), (r.fabricId, 8), (r.role, 3), (bit r.byp, 1), (bit r.rxValid, 1), (0, 11), (r.rxNext, 12), (0, 4), (r.inst, 16)]

/-- The partner is refused (R245). -/
def Dev.capBad (d : Dev) (p : Nat) (r : CapRec) : Bool :=
  r.fabricId != d.xgrp.fabricId || r.devId == d.pins.devId ||
    (if d.role p = 4 then r.role != 4 || r.devId != (d.pins.devId ^^^ 1) || r.version == 0 else r.role == 4)

/-- Whether the link resumes where it stood (R256). -/
def XepRt.resumes (x : XepRt) (r : CapRec) : Bool :=
  x.seen == some r.inst && r.rxValid && (r.rxNext == x.next || x.unack.any (fun f => f.seq == r.rxNext))

/-- Frames up to the one the partner expects next are acknowledged. -/
def ackBelow (next : Nat) : List XFrame → List XFrame
  | [] => []
  | f :: r => if f.seq = next then f :: r else ackBelow next r

/-- The PRIN, DEV and CNT a PREP carries (R277). -/
def Change.head : Change → Nat × Bool × Nat
  | .cmd p c _ => (p, false, if c.crit then c.cnt else 0)
  | .refused p c _ => (p, false, if c.crit then c.cnt else 0)
  | .reg _ _ _ => (0, false, 0)
  | .dev _ => (0, true, 0)

/-- The items of a change in payloads of at most 1,024 bytes (R277, R231). -/
def payloads : List Item → List Item → Nat → List (List Item)
  | [], cur, _ => [cur]
  | i :: r, cur, n =>
    let w := i.octets.length
    if n + w ≤ 1024 then payloads r (cur ++ [i]) (n + w) else cur :: payloads r [i] w

/-- Send the pending change as PREP messages, MORE on all but the last, whose MID is the pending one (R282). -/
def Dev.sendPrep (d : Dev) : Dev :=
  let ps := payloads d.commit.items [] 0
  let last := d.get R.PAIR.COMMIT.MID
  let h := d.commit.change.elim (0, false, 0) Change.head
  (ps.zip (List.range ps.length)).foldl (fun d (x : List Item × Nat) =>
    let back := ps.length - 1 - x.2
    d.sendMir { mtype := 0, more := back != 0, mid := (last + 65536 - back) % 65536, seq := (d.cfgSeq + 1) % 2 ^ 64, prin := h.1, dev := h.2.1, cnt := h.2.2 } (x.1.flatMap Item.octets)) d

/-- Send the pending GO (R277, R282). -/
def Dev.sendGo (d : Dev) : Dev := d.sendMir { mtype := 1, mid := d.get R.PAIR.COMMIT.MID, seq := d.cfgSeq } []

/-- After a restart of the mirror link the pending PREP or GO is sent again with its MID (R284), and so are the CPLs not acknowledged (log entry 153). -/
def Dev.resendCommit (d : Dev) : Dev :=
  let d := if d.get R.PAIR.COMMIT.STATE = 1 then d.sendPrep else if d.get R.PAIR.COMMIT.STATE = 2 then d.sendGo else d
  d.skid.cplWait.foldl (fun d w => d.sendCpl w.1 w.2) d

/-- A restart (R256): both ends begin at SEQ 0 with an empty replay buffer; a hold still running expires at once. -/
def Dev.xepRestart (d : Dev) (p : Nat) : Dev :=
  let x := d.xl p
  let d := if x.seen.isSome then d.xepRaise p 1 else d
  let d := if (d.prt p).hold = holdHold then d.expirePort p else d
  let d := d.updXl p (fun x => { x with next := 0, unack := [], wait := [], exp := 0, expHalf := 0, tries := 0, nak := false, half0 := none, ok0 := false, reqIn := {}, rspIn := {} })
  if d.role p = 4 then (if x.seen.isSome then d.raise .pair 6 else d).resendCommit else d

/-- Frames leave again, as they are sent now (R255). -/
def Dev.resend (d : Dev) (p : Nat) (l : List XFrame) : Dev := l.foldl (fun d f => d.emit (d.xchan p) .frame (d.frameOf p f)) d

/-- CAPABILITY_EXCHANGE: the partner's record has come twice alike. -/
def Dev.capExchange (d : Dev) (p : Nat) (r : CapRec) : Dev :=
  if d.isXep p && (d.linkSt p == 2 || d.linkSt p == 3) then
    if d.capBad p r then (((d.clearLink p).set (R.PU.LNKSTS.STATE p) 0).emit (.host p) .linkDisable [p]).xepRaise p 0
    else
      let d := d.drawInst p
      let d := d.emit (d.xchan p) .xCap (leBytes (packCap (d.capRec p)) 8)
      let d := d.updXl p (fun x => { x with nbr := some r.devId, rec_ := some r, byp := d.is (R.PU.CFG.XBYP p) && r.byp && !d.xcompat p })
      let d := d.updXl p (fun x => { x with uReq := 0, uRsp := 0, uShr := 0, gReq := 0, gRsp := 0, gShr := 0, tReq := 0, tRsp := 0, tShr := 0 })
      let d := if (d.xl p).resumes r then (d.updXl p (fun x => { x with unack := ackBelow r.rxNext x.unack, tries := 0, nak := false })) else d.xepRestart p
      (d.resend p (d.xl p).unack).updXl p (fun x => { x with seen := some r.inst, rxKept := true })
  else d

def execCapabilityExchange (p : Fin 64) (rec : CapRec) (s : State) := core s (fun d => (d.capExchange p rec).settle)

/-! ### Acknowledgements, credits, replays (R249, R253 to R258) -/

/-- The link goes to Recovery. -/
def Dev.xepRecover (d : Dev) (p : Nat) : Dev := (d.updPrt p (fun r => { r with recov := true })).emit (.xep p) .linkRetrain [p]

/-- A replay from frame `seq` on (R255): it counts; without progress after RPLY_MAX of them the link goes to Recovery. -/
def Dev.replayFrom (d : Dev) (p seq : Nat) : Dev :=
  let fs := (d.xl p).unack.dropWhile (fun f => f.seq != seq)
  if fs.isEmpty then d
  else if max 1 (d.xl p).rplyMax ≤ (d.xl p).tries then (d.xepRaise p 2).xepRecover p
  else
    let d := ((d.resend p fs).addSat (R.PU.RPLYCNT.CNT p) 1).count (ctrPu p) 0x05 none 1
    let d := if d.get (R.PU.RPLYCNT.THRESH p) ≠ 0 ∧ d.get (R.PU.RPLYCNT.THRESH p) ≤ d.get (R.PU.RPLYCNT.CNT p) then d.raise (.pu p) 6 else d
    d.updXl p (fun x => { x with tries := x.tries + 1 })

/-- REPLAY_TIMEOUT (R254, R255): from the oldest unacknowledged frame; a NAK may be sent again. -/
def Dev.replayTimeout (d : Dev) (p : Nat) : Dev :=
  if d.isXep p && d.isUp p then
    let d := d.updXl p (fun x => { x with nak := false })
    match (d.xl p).unack with
    | [] => d
    | f :: _ => d.replayFrom p f.seq
  else d

def execReplayTimeout (p : Fin 64) (s : State) := core s (fun d => d.replayTimeout p)

/-- The frames after the one acknowledged. -/
def ackThrough (seq : Nat) : List XFrame → List XFrame
  | [] => []
  | f :: r => if f.seq = seq then r else ackThrough seq r

/-- ACK and NAK of a verified half 0 (R249, R253, R255). An ACK that names no unacknowledged frame covers nothing. -/
def Dev.takeAck (d : Dev) (p ack : Nat) (nak : Bool) : Dev :=
  let d := if (d.xl p).unack.any (fun f => f.seq == ack) then d.updXl p (fun x => { x with unack := ackThrough ack x.unack, tries := 0 }) else d
  if nak then d.replayFrom p ((ack + 1) % 4096) else d

/-- How far a total has advanced, modulo 256 (R249). -/
def advance256 (now last : Nat) : Nat := (now + 256 - last % 256) % 256

/-- Credits returned in compatibility mode (R257, R258): a total that passes the credits outstanding is an error. -/
def Dev.takeCredits (d : Dev) (p : Nat) (h : FHdr) : Dev :=
  if d.xcompat p then
    let x := d.xl p
    let a := advance256 h.crReq x.tReq
    let b := advance256 h.crRsp x.tRsp
    let c := advance256 h.crShr x.tShr
    if a ≤ x.uReq ∧ b ≤ x.uRsp ∧ c ≤ x.uShr then
      d.updXl p (fun x => { x with uReq := x.uReq - a, uRsp := x.uRsp - b, uShr := x.uShr - c, tReq := h.crReq, tRsp := h.crRsp, tShr := h.crShr })
    else (d.xepRaise p 4).xepRecover p
  else d

/-- A NAK leaves in the next frame, unless one is already out (R254). -/
def Dev.sendNak (d : Dev) (p : Nat) : Dev :=
  if (d.xl p).nak then d else (d.updXl p (fun x => { x with nak := true })).emit (d.xchan p) .frame (d.nakFrame p)

/-- A bad half is discarded and counted; a replay is asked for (R247, R254). -/
def Dev.badHalf (d : Dev) (p : Nat) : Dev := (d.badUnit p p).sendNak p

/-! ### The slots of a channel (R250) -/

/-- A slot of a message: the arrival it belongs to, its place in the message, its bits, whether it is the last one. -/
structure RxSlot where
  arr : Nat
  place : Nat
  bits : Nat
  last : Bool
  deriving DecidableEq, Repr

/-- The slots of a half in their channel's stream: those of messages, the stream after them, the number of the next arrival. None: a slot that makes the frame bad. -/
def rxWalk (rsp mirror : Bool) : List Nat → RxStream → Nat → Option (List RxSlot × RxStream × Nat)
  | [], x, n => some ([], x, n)
  | s :: r, x, n =>
    if x.left = 0 then
      match slotTotal s rsp mirror with
      | none => none
      | some 0 => rxWalk rsp mirror r x n
      | some (t + 1) => (rxWalk rsp mirror r { left := t, place := 1, arr := n } (n + 1)).map (fun o => (⟨n, 0, s, false⟩ :: o.1, o.2))
    else (rxWalk rsp mirror r { x with left := x.left - 1, place := x.place + 1 } n).map (fun o => (⟨x.arr, x.place, s, x.left == 1⟩ :: o.1, o.2))

/-- A new arrival in a cell: a message whose first slot this is. What it is its row says; its header slots identify it. -/
def Dev.rxBegin (d : Dev) (p cell : Nat) (rsp : Bool) (t : RxSlot) : Dev :=
  d.joinAt { pu := p, cells := [cell], touch := 1, dataIn := false, hdr := false, arr := t.arr, saf := d.saf p, stage := 3, op := if t.bits % 16 = 3 then .frame else if rsp then .xRsp else .xReq, args := [t.bits] }

/-- The second header slot: the header is in. -/
def Dev.rxHead (d : Dev) (t : RxSlot) : Dev :=
  { d with buf := { d.buf with msgs := d.buf.msgs.map (fun (m : Msg) => if m.arr = t.arr ∧ m.stage = 3 then { m with hdr := true, args := m.args ++ [t.bits] } else m) } }

/-- Data lines of a stomped half are poisoned (R248); one whose header has left says so with its data. -/
def Dev.rxStomp (d : Dev) (arrs : List Nat) : Dev :=
  { d with buf := { d.buf with msgs := d.buf.msgs.map (fun (m : Msg) => if arrs.contains m.arr ∧ !m.dataIn then { m with poison := true, stomp := m.stomp || m.hdrLeft } else m) } }

/-- The messages' slots of an accepted half are written to a cell (R64, R65, R68): new arrivals, data of earlier ones, messages whole. -/
def Dev.rxStore (d : Dev) (p cell : Nat) (rsp stomped : Bool) (ts : List RxSlot) : Dev :=
  let (h, w, inj) := d.bufInject (cell / 65536) 2
  let d := { d with inj := inj }
  let arrs := (ts.map (·.arr)).eraseDups
  let d := d.carry cell (max h w) arrs
  let d := (ts.filter (fun t => t.place == 0)).foldl (fun d t => d.rxBegin p cell rsp t) d
  let d := (ts.filter (fun t => t.place == 1)).foldl Dev.rxHead d
  let d := if stomped then d.rxStomp ((ts.filter (fun t => 2 ≤ t.place)).map (·.arr)) else d
  let d := (d.count (ctrCp (cell / 65536)) 0x20 none 1).keepUnit p arrs
  ((ts.filter (·.last)).map (·.arr)).foldl Dev.whole d

/-! ### FRAME_HALF_RECEIVE (R72, R247 to R249, R254, R257) -/

/-- The half is the expected one and is taken (R254): E moves on after half 1; in compatibility mode the credit of a whole frame returns (R257). -/
def Dev.acceptHalf (d : Dev) (p half : Nat) (h : FHdr) (stomped : Bool) : Dev :=
  let d := d.updXl p (fun x => { x with nak := false, exp := if half = 1 then (x.exp + 1) % 4096 else x.exp, expHalf := 1 - half })
  let d := if half = 1 ∧ d.xcompat p then
      d.updXl p (fun x => if h.shr then { x with gShr := (x.gShr + 1) % 256 } else if h.ftype = 2 then { x with gRsp := (x.gRsp + 1) % 256 } else { x with gReq := (x.gReq + 1) % 256 })
    else d
  if stomped then (d.xepRaise p 3).addSat (R.ST.XCNT.STOMP_CNT (stOf p)) 1 else d

/-- A half in sequence (R65, R72, R250): its slots are read; a slot that is none of its channel makes the frame bad; a half with message bytes needs a cell. -/
def Dev.inSequence (d : Dev) (p half : Nat) (h : FHdr) (slots : List Nat) (stomped : Bool) (bank : Nat) : Dev :=
  let rsp := h.ftype == 2
  match rxWalk rsp (d.role p == 4) slots (if rsp then (d.xl p).rspIn else (d.xl p).reqIn) d.buf.nextArr with
  | none => d.badHalf p
  | some (ts, st, n) =>
    let b := if half = 0 then { d.buf with opens := Tbl.erase d.buf.opens p } else d.buf
    let go := fun (d : Dev) => (d.acceptHalf p half h stomped).updXl p (fun x => if rsp then { x with rspIn := st } else { x with reqIn := st })
    if ts.isEmpty then go { d with buf := b }
    else
      match b.cellFor p 2 bank with
      | none => d.raise (.buf (cpOf p)) 2
      | some (cell, b) => (go { d with buf := { b with nextArr := n } }).rxStore p cell rsp stomped ts

/-- A half that passed its check (R247, R249, R254): header fields of a verified half 0 are taken whatever its SEQ and FTYPE; REQ and RSP halves in sequence are
accepted, others discarded. -/
def Dev.goodHalf (d : Dev) (p half : Nat) (h : FHdr) (c : HalfCheck) (slots : List Nat) (bank : Nat) : Dev :=
  let d := if half = 0 ∧ c = .good then (d.takeCredits p h).takeAck p h.ack h.nak else d
  if 4 ≤ h.ftype then d.badHalf p
  else if h.ftype = 1 ∨ h.ftype = 2 then
    let x := d.xl p
    if h.seq = x.exp ∧ half = x.expHalf then d.inSequence p half h slots (c == .stomped) bank
    else if h.seq ≠ x.exp ∧ c = .good then (if half = 0 then d.addSat (R.ST.XCNT.DUP_CNT (stOf p)) 1 else d).sendNak p
    else d
  else d

/-- The header in the first 8 bytes of a frame. -/
def frameHdr (a : List Nat) : FHdr := unpackFHdr (ofLe (a.take 8))

/-- Half 0 passes as it came, or waits for the whole frame in native mode (R247). -/
def Dev.firstHalf (d : Dev) (p : Nat) (a : List Nat) (bank : Nat) : Dev :=
  let c := check0 a
  let d := d.updXl p (fun x => { x with half0 := some a, ok0 := c != .bad })
  if c ≠ .bad then d.goodHalf p 0 (frameHdr a) c (slotsOf (a.drop 8)) bank else if d.xcompat p then d.badHalf p else d

/-- Half 1 of a frame whose half 0 was taken: as it came, or after the FEC. -/
def Dev.secondHalf (d : Dev) (p : Nat) (a b : List Nat) (bank : Nat) : Dev :=
  let take := fun (d : Dev) (a b : List Nat) (c : HalfCheck) => if c = .bad then d.badHalf p else if 4 ≤ (frameHdr a).ftype then d else d.goodHalf p 1 (frameHdr a) c (slotsOf b) bank
  if check1 a b ≠ .bad ∨ d.xcompat p then take d a b (check1 a b)
  else
    let f := fecFix a b
    take d f.1 f.2 (check1 f.1 f.2)

/-- Both halves of a frame whose half 0 did not pass as it came (R247): after the FEC. Half 1 of a frame whose half 0 is bad is not accepted. -/
def Dev.bothHalves (d : Dev) (p : Nat) (a b : List Nat) (bank : Nat) : Dev :=
  let f := fecFix a b
  if check0 f.1 = .bad then d.badHalf p else (d.goodHalf p 0 (frameHdr f.1) (check0 f.1) (slotsOf (f.1.drop 8)) bank).secondHalf p f.1 f.2 bank

/-- FRAME_HALF_RECEIVE: what acknowledgements and credits set free leaves at once. -/
def Dev.frameHalf (d : Dev) (p half : Nat) (l : List Nat) (bank : Nat) : Dev :=
  if d.isXep p && d.isUp p && !(d.prt p).recov then
    if half = 0 then (d.firstHalf p l bank).xflow p
    else
      let x := d.xl p
      let d := d.updXl p (fun x => { x with half0 := none, ok0 := false })
      match x.half0 with
      | none => d
      | some a => (if x.ok0 then d.secondHalf p a l bank else if d.xcompat p then d else d.bothHalves p a l bank).xflow p
  else d

def execFrameHalfReceive (p : Fin 64) (h : RxHalf) (s : State) := core s (fun d => (d.frameHalf p h.half h.bytes h.bank).settle)

/-! ### Requests from other devices -/

/-- The arrival a message's row takes: its header slots are the message's. -/
def Dev.xArrival (d : Dev) (p : Nat) (m : XMsg) : Option Msg :=
  d.arrival (fun a => a.hdr && a.pu == p && (a.op == .xReq || a.op == .xRsp) && a.args == [bits (packXMsg m) 0 128, bits (packXMsg m) 128 128])

/-- The source of a request that came over port p (R128, R251): a host of the partner, or another originator. -/
def Dev.xSrc (d : Dev) (p : Nat) (m : XMsg) : Src :=
  if d.role p = 4 ∧ !m.oq ∧ m.odev = (d.pins.devId ^^^ 1) ∧ m.op ≠ 0x10 ∧ m.op ≠ 0x11 ∧ !(8 ≤ m.op ∧ m.op ≤ 0x0E) then .peer p m.odev m.oidx
  else .xep p m.odev m.oq m.oidx (m.op == 0x10 || m.op == 0x11)

/-- The kind of a request OP (R252). -/
def xKind (op : Nat) : MsgKind :=
  if op ≤ 3 then .memRead else if op = 4 then .memInv else if op = 5 then .memWrite else if op ≤ 7 then .memWb
  else if op ≤ 0x0E then .atomic else if op = 0x10 then .ioRead else .ioWrite

/-- The class of the directory it asks for. -/
def xCls (op : Nat) : ReqCls :=
  if op = 2 then .rds else if op = 3 then .rda else if op = 4 then .inv else if op = 6 ∨ op = 7 then .wb
  else if op = 5 ∨ op = 0x11 then .ncw else if 8 ≤ op ∧ op ≤ 0x0E then .atom else .ncr

/-- The AtomicOp of an OP, with its operands in the data line (R252): the operand, or the compare and the swap value. -/
def xAtom (op data : Nat) : AtomKind × Nat × Nat :=
  let k := [AtomKind.fadd32, .fadd64, .swap32, .swap64, .cas32, .cas64, .cas128].getD (op - 8) .fadd32
  let w := 8 * k.width
  if op < 0x0C then (k, bits data 0 w, 0) else (k, bits data w w, bits data 0 w)

/-- The MetaValue of a message (R251, log entry 149): MV 0 I, 1 A, 2 S; without one, what a write-back's OP says. -/
def xMv (m : XMsg) : Mv := [Mv.i, .a, .s].getD m.mv (if m.op = 6 then .i else if m.op = 7 then .s else .none)

/-- The slice a message belongs to; one with SYS has none. -/
def XMsg.sliceOf (m : XMsg) : Option Nat := if m.sys then none else some m.slice

/-- The request as the directory sees it. -/
def Dev.xReq (d : Dev) (p : Nat) (m : XMsg) : DirReq :=
  let a := xAtom m.op m.data
  { src := d.xSrc p m, cls := xCls m.op, pool := m.addr, mv := if m.op = 5 then .none else xMv m, slice := m.sliceOf.getD 0, sys := m.sys, tag := m.tag, data := m.data, be := m.be, poison := m.poison, op := a.1, arg := a.2.1, cmp := a.2.2 }

/-- A RSP with a status for a request that came over port p; a posted write gets none. -/
def Dev.xRefuse (d : Dev) (p : Nat) (m : XMsg) (status : Nat) : Dev :=
  if m.op = 0x11 then d else d.toXep (d.xReq p m) p (if m.op = 0x10 then 0x85 else if m.op ≤ 3 ∨ (8 ≤ m.op ∧ m.op ≤ 0x0E) then 0x84 else 0x80) status none false

/-- Refused as unmapped (R139, R262): STATUS UNMAPPED, XSTS.UNMAPPED, a record of the receiving stand's checker. DESIGN CHOICE: PVADDRL/H hold the pool address the message
carries; it carries no slice address (log entry 176). -/
def Dev.xUnmapped (d : Dev) (p : Nat) (m : XMsg) : Dev :=
  (((d.xepRaise p 5).pvRecord (pvStand p) m.slice p (if m.oq then 2 else if m.op = 0x10 ∨ m.op = 0x11 ∨ (8 ≤ m.op ∧ m.op ≤ 0x0E) then 1 else 0) { kind := 0 } m.addr false false)).xRefuse p m 1

/-- A message from a Xepin link joins the buffer (R71): charged to its slice, what lies above the slice's limit to the port unit's reserve. -/
def Dev.enqX (d : Dev) (p : Nat) (a : Option Msg) (m : Msg) : Dev :=
  let id := d.buf.nextId
  ((d.seenIn p m).enqFrom a { m with pu := p }).overLimit id

/-- The class a message carries (R251). -/
def xClass (c : Nat) : Cls := [Cls.sc0, .sc1, .sc2, .sc3, .scp].getD c .scp

/-- A request of another device as a message of the buffer: 16 bytes and its data (R164). -/
def Dev.xMsg (d : Dev) (p : Nat) (m : XMsg) : Msg :=
  let k := xKind m.op
  let n := 64 * (m.len + 1)
  let wr := k == .memWrite || k == .memWb || k == .ioWrite
  let a := xAtom m.op m.data
  { src := d.xSrc p m, pu := p, cls := xClass m.cls, kind := k, addr := m.addr, pool := m.addr, bytes := if wr then 16 + n else if k == .atomic then 16 + a.1.octets else 16, ask := if wr then 0 else if k == .atomic then a.1.width else n, slice := m.sliceOf, gen := if m.sys then 0 else d.gen m.slice, tag := m.tag, poison := m.poison, mv := (xMv m).code, x := some m }

/-- A request goes on to memory, or to the next device with HOPS + 1 (R262). -/
def Dev.xOnward (d : Dev) (p : Nat) (a : Option Msg) (m : XMsg) (remote : Bool) : Dev :=
  let n := d.xMsg p m
  let t := xAtom m.op m.data
  let n := { n with egress := d.memPort (m.sliceOf.getD 0) m.addr, alt := (d.ext (m.addr / 2 ^ 30)).altEn }
  if remote then d.enqX p a { n with op := .xReq, x := some { m with hops := m.hops + 1 } }
  else
    let args := if n.kind == .atomic then [d.dpa m.addr, t.1.width, t.2.1, t.2.2] else [d.dpa m.addr, m.data, m.be]
    let op := match n.kind with
      | .memWrite | .memWb => Op.memWr
      | .atomic => .atomicOp
      | .ioRead | .ioWrite => .ioReq
      | _ => .memRd
    d.enqX p a { n with kind := if n.kind == .memWb then .memWrite else n.kind, addr := d.dpa m.addr, op := op, args := args }

/-- A request for the own directory, which serves it line by line: it waits in the buffer until the directory acts on it (R13, R66, R71). -/
def Dev.xToDir (d : Dev) (p : Nat) (a : Option Msg) (m : XMsg) : Dev :=
  let n := d.xMsg p m
  (List.range n.lines).foldl (fun d k => d.dirReq { d.xReq p m with pool := m.addr + 64 * k }) (d.enqX p a { n with stage := 2, op := .xReq })

/-- A snoop of the home goes to this device's HOST port OIDX (R128); its answer goes back over the mirror link. -/
def Dev.xSnoop (d : Dev) (p : Nat) (m : XMsg) : Dev :=
  let op := if m.op = 0x18 then Op.bisnpInv else if m.op = 0x19 then .bisnpData else .bisnpCur
  (d.updXl p (fun x => { x with fsnoop := x.fsnoop ++ [(m.oidx, m.tag, m.addr)] })).toHost m.oidx .snoop op [m.tag, m.addr] 16 false

/-- The extent of a request lies behind another device (R262): its head is a XEPIN port, or the MIRROR port without a window it is home to. -/
def Dev.xRemote (d : Dev) (m : XMsg) : Bool :=
  let x := d.ext (m.addr / 2 ^ 30)
  d.role x.port == 3 || (d.role x.port == 4 && (d.winOf (m.addr / 2 ^ 30)).isNone)

/-- The directory serves it: in a coherent window, an AtomicOp that memory does not complete, an INV. -/
def Dev.xServed (d : Dev) (m : XMsg) : Bool :=
  (d.winOf (m.addr / 2 ^ 30)).isSome || (xKind m.op == .atomic && !(d.ext (m.addr / 2 ^ 30)).atomOk) || xKind m.op == .memInv

/-- What a request from a link does (R128, R139, R214, R252, R262). From P0 what asks for data is refused with a Completer Abort. -/
def Dev.xepAct (d : Dev) (p : Nat) (a : Option Msg) (m : XMsg) : Dev :=
  if d.role p = 4 ∧ 0x18 ≤ m.op ∧ m.op ≤ 0x1A then d.xSnoop p m
  else if d.role p = 4 ∧ m.op = 0x1B then d.toXep { d.xReq p m with src := .peer p m.odev m.oidx } p 0x8B 0 none false
  else if d.saving ∧ (xKind m.op).asksData then d.xRefuse p m 2
  else if !(d.ext (m.addr / 2 ^ 30)).valid then d.xUnmapped p m
  else if d.xRemote m then (if 2 ≤ m.hops then d.xUnmapped p m else d.xOnward p a m true)
  else if d.xServed m then d.xToDir p a m
  else d.xOnward p a m false

/-- A request OP that a XEPIN_REQ row carries: not reserved, not a MAPREF, a snoop OP on a MIRROR port only (R252). -/
def xReqOp (op : Nat) (mirror : Bool) : Bool := opIsReq op && op != 0x20 && opKnown op mirror

/-- XEPIN_REQ: what goes on to memory or to a further device is taken as its header comes (R75); the directory acts on it when it is whole. -/
def Dev.xepReq (d : Dev) (p : Nat) (m : XMsg) : Dev :=
  if !(d.isXep p && d.isUp p && xReqOp m.op (d.role p == 4)) then d
  else
    let a := d.xArrival p m
    let m := if a.any (·.poison) then { m with poison := true } else m
    if a.any (fun x => !x.dataIn) && (d.xServed m && !d.xRemote m) then d else d.withArrival p (d.xMsg p m).bytes a (fun d => d.xepAct p a m)

def execXepinReq (p : Fin 64) (m : XMsg) (s : State) := core s (fun d => (d.xepReq p m).settle)

/-! ### MAPREF at the owner (R263) -/

/-- The message of a MAPREF with its delta and MSEQ in BE (R251). -/
def mapMsg (m : XMsg) (delta : Int) (mseq : Nat) : XMsg := { m with op := 0x20, be := (delta % 2 ^ 16).toNat + 2 ^ 32 * mseq }

/-- The answer to a MAPREF. -/
def Dev.mapAnswer (d : Dev) (p : Nat) (m : XMsg) (status : Nat) : Dev := d.toXep { d.xReq p m with src := .xep p m.odev m.oq m.oidx false } p 0x80 status none false

/-- It is refused as unmapped (R262, R263). -/
def Dev.mapUnmapped (d : Dev) (p : Nat) (m : XMsg) : Dev := ((d.xepRaise p 5).pvRecord (pvStand p) m.slice p 0 { kind := 0 } m.addr false false).mapAnswer p m 1

/-- A delta on a count of mappings. -/
def addDelta (n : Nat) (delta : Int) : Nat := ((n : Int) + delta).toNat

/-- The owner answers as LOST what R238 would flag for a local mapping. -/
def Dev.ownLost (d : Dev) (x : ExtentE) : Bool := d.prs.img.any (fun i => i.source = 1 || d.extLost i.gpfOk x)

/-- The owner's part: a delta is applied once, in MSEQ order (a changed STATE is a change of configuration, R229); a delta of 0 asks whether the content was lost. -/
def Dev.mapOwned (d : Dev) (p : Nat) (m : XMsg) (delta : Int) (mseq : Nat) : Dev :=
  let e := m.addr / 2 ^ 30
  let x := d.ext e
  let last := Tbl.get d.xgrp.applied 0 m.odev
  if delta = 0 then d.mapAnswer p m (if d.ownLost x then 3 else 0)
  else if mseq ≤ last then d.mapAnswer p m 0
  else if mseq = last + 1 then
    let n := addDelta x.mapcnt delta
    let d := d.setExt e { x with mapcnt := n, st := if x.st = 0 ∧ 0 < n then 1 else x.st }
    let d := { d with xgrp := { d.xgrp with applied := Tbl.set d.xgrp.applied 0 m.odev mseq } }
    (if x.st = 1 ∧ n = 0 then d.enterScrub e else if x.st = 0 ∧ 0 < n then d.cfgChange else d).mapAnswer p m 0
  else d

/-- MAPREF: at the owner, or forwarded toward it with HOPS + 1 (R262, R263). -/
def Dev.mapref (d : Dev) (p : Nat) (m : XMsg) (delta : Int) (mseq : Nat) : Dev :=
  let m := mapMsg m delta mseq
  let x := d.ext (m.addr / 2 ^ 30)
  if !(d.isXep p && d.isUp p && !d.xcompat p) then d
  else
    let a := d.xArrival p m
    d.withArrival p 16 a (fun d =>
      if !x.valid then d.mapUnmapped p m
      else if d.role x.port = 2 then d.mapOwned p m delta mseq
      else if 2 ≤ m.hops then d.mapUnmapped p m
      else d.enqX p a { src := .xep p m.odev m.oq m.oidx false, cls := .scp, kind := .mapref, addr := m.addr, pool := m.addr, bytes := 16, egress := d.memPort 0 m.addr, slice := none, tag := m.tag, op := .xReq, x := some { m with hops := m.hops + 1 } })

def execMapref (p : Fin 64) (m : XMsg) (delta : Int) (mseq : Nat) (s : State) := core s (fun d => (d.mapref p m delta mseq).settle)

/-! ### BUCKET_REBALANCE (R261) -/

/-- A bucket is idle: no message of it is queued for its link, waits there or is held in a frame not acknowledged. -/
def Dev.bucketIdle (d : Dev) (g b q : Nat) : Bool :=
  let mine := fun (m : Msg) => m.x.isSome && m.bucket == b
  d.groupOf q == some g && !d.buf.msgs.any (fun m => m.egress == q && m.stage == 1 && mine m) && !((d.xl q).unack ++ (d.xl q).wait).any (fun f => f.msg.any mine)

/-- An idle bucket moves to its target. -/
def Dev.rebalance (d : Dev) (g b : Nat) : Dev :=
  let ms := d.groupMembers g
  match Tbl.get d.xgrp.buckets none (64 * g + b), ms[b % ms.length]? with
  | some q, some t => if d.xgrp.rebal ∧ q ≠ t ∧ d.bucketIdle g b q then (d.setBucket g b (some t)).emit (.xep t) .bucketMove [g, b, q, t] else d
  | _, _ => d

def execBucketRebalance (g : Fin 8) (b : Fin 64) (s : State) := core s (fun d => d.rebalance g b)

end Sys2Proof.Machine
end

