-- ==== Sys2Proof/Machine/FabricTime.lean ====
section
/-! DEFINITION. Fabric time (R265 to R268, R272): steps and the servo, the messages of BYP, TSYNC pins, PTM. -/
namespace Sys2Proof.Machine

/-- PARENT (TOP.FTCTL): 0 NONE, 1 GROUP, 2 TSYNC, 3 PTM. -/
def Dev.ftParent (d : Dev) : Nat := d.get R.TOP.FTCTL.PARENT

/-- Change the servo's record. -/
def Dev.updFt (d : Dev) (f : FtRt → FtRt) : Dev := { d with ftr := f d.ftr }

/-- A number as a saturating signed 32-bit one. -/
def sat32 (v : Int) : Nat := signed 32 (max (-2147483648) (min 2147483647 v))

/-- Fabric time moves to a value at once (R267): STEP, STEP_CNT; LOCKED clears. -/
def Dev.ftStep (d : Dev) (v : Nat) : Dev :=
  let d := { d with time := { d.time with ft := v % 2 ^ 64 } }.updFt (fun r => { r with integ := 0, once := true, good := 0 })
  ((d.off R.TOP.FTSTS.LOCKED).raise .ft 2).addSat R.TOP.FTSTS.STEP_CNT 1

/-- R267's arithmetic is 64-bit signed. -/
def s64 (v : Int) : Int := toSigned 64 (signed 64 v)

/-- The adjustment in ppb for an offset, an integral and a period in ns. -/
def servoAdj (o integ p : Int) : Int :=
  let x := (s64 (o * 1000000000)).tdiv p
  let y := (s64 (integ * 1000000000)).tdiv p
  let a := (-x).tdiv 4 - y.tdiv 64
  max (-200000) (min 200000 a)

/-- An offset acts (R267). A usable offset ends the count of missed periods. -/
def Dev.ftOffset (d : Dev) (o p : Int) : Dev :=
  let d := (d.set R.TOP.FTOFS.VALUE (sat32 o)).updFt (fun r => { r with miss := 0, seen := true })
  if !d.ftr.once ∨ 1000 ≤ o.natAbs then d.ftStep (signed 64 ((d.ft : Int) - o))
  else
    let i := s64 (d.ftr.integ + o)
    let good := if o.natAbs < 20 then d.ftr.good + 1 else 0
    let d := (d.set R.TOP.FTADJ.VALUE (signed 32 (servoAdj o i p))).updFt (fun r => { r with integ := i, good := good })
    if 8 ≤ good then d.on R.TOP.FTSTS.LOCKED else d

/-- SYNC_US in ns. -/
def Dev.syncNs (d : Dev) : Int := (d.get R.TOP.FTCTL.SYNC_US * 1000 : Nat)

/-- The parent is lost (R267, R268): LOST sets, LOCKED clears, ADJ holds. -/
def Dev.ftLost (d : Dev) : Dev := (d.raise .ft 1).off R.TOP.FTSTS.LOCKED

/-- A period without a usable offset; the fourth loses the parent. -/
def Dev.ftMiss (d : Dev) : Dev :=
  let n := d.ftr.miss + 1
  let d := d.updFt (fun r => { r with miss := min n 4 })
  if n = 4 then d.ftLost else d

/-- The port a child uses (R266): the lowest-numbered UP port of its parent's group. -/
def Dev.parentPort (d : Dev) : Option Nat :=
  if d.ftParent = 1 then (d.groupMembers (d.get R.TOP.FTCTL.PDEV)).find? (fun p => d.isUp p) else none

/-- BYP is in use on an UP link (R259). -/
def Dev.bypUp (d : Dev) (p : Nat) : Bool := d.isXep p && d.isUp p && (d.xl p).byp

/-- SYNC (R265 to R267): from the parent, on the child's port, with a known link delay. A DEPTH that would reach 8 is a loop. -/
def Dev.ftSync (d : Dev) (p depth ta trx : Nat) : Dev :=
  if d.parentPort = some p ∧ d.bypUp p ∧ depth ≠ 15 then
    if 7 ≤ depth then ((d.raise .ft 4).set R.TOP.FTSTS.DEPTH 15).off R.TOP.FTSTS.LOCKED
    else
      let d := d.set R.TOP.FTSTS.DEPTH (depth + 1)
      match d.ftr.delay with
      | none => d
      | some l => d.ftOffset (s64 ((trx : Int) - (ta + l))) d.syncNs
  else d

def execSync (p : Fin 64) (depth : Fin 16) (ta trx : Nat) (s : State) := core s (fun d => d.ftSync p depth ta trx)

/-- DREQ (R266): answered with the arrival time of the request and the departure time of the answer. -/
def Dev.ftDreq (d : Dev) (p id t4 : Nat) : Dev :=
  if d.is R.TOP.FTCTL.SERVE ∧ d.bypUp p then d.sendByp p (timeBytes 4 (d.get R.TOP.FTSTS.DEPTH) id t4 d.ft) else d

def execDreq (p : Fin 64) (id t4 : Nat) (s : State) := core s (fun d => d.ftDreq p (id % 2 ^ 16) t4)

/-- DRSP (R267): the link delay of the latest DREQ. -/
def Dev.ftDrsp (d : Dev) (p id t4 t5 t6 : Nat) : Dev :=
  match d.ftr.t3 with
  | none => d
  | some t3 =>
    if d.parentPort = some p ∧ d.bypUp p ∧ id = d.ftr.reqId then
      d.updFt (fun r => { r with t3 := none, delay := some ((s64 (((t6 : Int) - t3) - ((t5 : Int) - t4))).tdiv 2) })
    else d

def execDrsp (p : Fin 64) (id t4 t5 t6 : Nat) (s : State) := core s (fun d => d.ftDrsp p (id % 2 ^ 16) t4 t5 t6)

/-- SYNC_PERIOD (R265, R266, R268): a root's DEPTH is 0; SYNC leaves on each link with BYP; a child asks its parent for the delay, a PTM requester its
host for the time; a period without a usable offset counts. -/
def Dev.ftPeriod (d : Dev) : Dev :=
  let d := if d.ftParent = 0 then d.off R.TOP.FTSTS.DEPTH else d
  let d := if d.ftParent = 1 ∨ d.ftParent = 3 then (if d.ftr.seen then d else d.ftMiss).updFt (fun r => { r with seen := false }) else d
  let d := if d.is R.TOP.FTCTL.SERVE then ((List.range 64).filter d.bypUp).foldl (fun (d : Dev) p => d.sendByp p (timeBytes 2 (d.get R.TOP.FTSTS.DEPTH) 0 d.ft 0)) d else d
  let d := match d.parentPort with
    | some p =>
      if d.bypUp p then
        let id := (d.ftr.reqId + 1) % 2 ^ 16
        (d.updFt (fun r => { r with reqId := id, t3 := some d.ft })).sendByp p (timeBytes 3 (d.get R.TOP.FTSTS.DEPTH) id 0 0)
      else d
    | none => d
  let pp := d.get R.TOP.FTCTL.PPORT
  if d.ftParent = 3 ∧ d.isHost pp ∧ d.isUp pp then (d.updFt (fun r => { r with ptm := true })).emit (.host pp) .ptmReq [d.ft] else d

def execSyncPeriod (s : State) := core s Dev.ftPeriod

/-- PTM_RESPONSE (R268): R267 on the offset against the host's PTM Master Time. -/
def Dev.ptmResponse (d : Dev) (master : Nat) : Dev :=
  if d.ftParent = 3 ∧ d.ftr.ptm then ((d.updFt (fun r => { r with ptm := false })).set R.TOP.FTSTS.DEPTH 1).ftOffset (s64 ((d.ft : Int) - master)) d.syncNs
  else d

def execPtmResponse (master : Nat) (s : State) := core s (fun d => d.ptmResponse master)

/-- The distance of a time from the nearest multiple of a second. -/
def offSecond (t : Int) : Int := let r := t % 1000000000; if r < 500000000 then r else r - 1000000000

/-- TSYNC_IN_EDGE (R268, R272): a time set by software is taken; else the edge's timestamp less TSDLY gives the offset. -/
def Dev.tsyncEdge (d : Dev) : Dev :=
  if d.ftParent = 2 then
    match d.ftr.setTo with
    | some v => (d.updFt (fun r => { r with setTo := none, miss := 0 })).ftStep v
    | none => (d.set R.TOP.FTSTS.DEPTH 1).ftOffset (offSecond ((d.ft : Int) - d.get R.TOP.FTTSDLY.TSDLY)) 1000000000
  else d

def execTsyncInEdge (s : State) := core s Dev.tsyncEdge

/-- TSYNC_MISS (R268): no edge within 1.1 s; the fourth in a row loses the parent. -/
def Dev.tsyncMiss (d : Dev) : Dev := if d.ftParent = 2 then (d.raise .ft 3).ftMiss else d

def execTsyncMiss (s : State) := core s Dev.tsyncMiss

/-- TSYNC_OUT_RISE, TSYNC_OUT_FALL (R268). -/
def Dev.tsyncRise (d : Dev) : Dev :=
  if d.is R.TOP.FTCTL.PPS_OUT ∧ !d.pins.tsyncOut then { d with pins := { d.pins with tsyncOut := true } }.emit .pins .pin [100, 1] else d

def Dev.tsyncFall (d : Dev) : Dev :=
  if d.pins.tsyncOut then { d with pins := { d.pins with tsyncOut := false } }.emit .pins .pin [100, 0] else d

def execTsyncOutRise (s : State) := core s Dev.tsyncRise
def execTsyncOutFall (s : State) := core s Dev.tsyncFall

/-- FABRIC_TIME_SET (R272): a write of FTSETH. -/
def Dev.ftSet (d : Dev) (v : Nat) : Dev :=
  let d := d.set R.TOP.FTSETH.VALUE v
  let t := d.get64 R.TOP.FTSETL.VALUE R.TOP.FTSETH.VALUE
  if d.ftParent = 0 then d.ftStep t else if d.ftParent = 2 then d.updFt (fun r => { r with setTo := some t }) else d

def execFabricTimeSet (value : Word) (s : State) := bar s (fun d => d.ftSet value.toNat)

/-- Fabric time after one NCLK cycle, two CCLK cycles (R15, R265): 1 ns x (1 + ADJ x 10^-9), with a 32-bit fraction. -/
def Dev.ftTick (d : Dev) : Dev :=
  let adj := toSigned 32 (d.get R.TOP.FTADJ.VALUE)
  let x := (d.time.ft * 2 ^ 32 + d.time.frac : Nat) + (4294967296 + (adj * 4294967296).tdiv 1000000000 : Int)
  { d with time := { d.time with ft := (x.toNat / 2 ^ 32) % 2 ^ 64, frac := x.toNat % 2 ^ 32 } }

end Sys2Proof.Machine
end

