-- ==== Sys2Proof/Machine/Command.lean ====
section
/-! DEFINITION. Pyrjan commands (R322 to R348): rings and doorbells, the checks of R330, the commit of each opcode of R333, keys, features,
events, lifecycle, firmware, the Fabric Manager API. A command row delivers the command that COMMAND_FETCH asked for; what its exchange with
the outside gave (a signature's check, an image's version) is an operand of the row. -/
namespace Sys2Proof.Machine

/-! ### Format (R328, R333) -/

/-- Critical opcodes (R333). -/
def isCrit (o : Nat) : Bool := [0x10, 0x11, 0x12, 0x14, 0x21, 0x22, 0x29, 0x30, 0x31, 0x39].contains o

/-- The opcodes of R333. -/
def isOpcode (o : Nat) : Bool :=
  o ≤ 3 || (0x10 ≤ o && o ≤ 0x1A) || (0x20 ≤ o && o ≤ 0x22) || o == 0x28 || o == 0x29 || (0x30 ≤ o && o ≤ 0x32) || o == 0x38 || o == 0x39

/-- The opcode changes the configuration (R229, R282). -/
def isConfig (o : Nat) : Bool := (0x10 ≤ o && o ≤ 0x1A) || (0x20 ≤ o && o ≤ 0x22) || o == 0x28 || o == 0x29 || o == 0x30

/-- The opcode runs through the commit engine of a pair (R282): what it changes, or the counter it consumes, is mirrored. -/
def isMirrored (o : Nat) : Bool := !(o ≤ 3 || o == 0x32 || o == 0x38)

/-- Opcodes that use TARGET. -/
def usesTarget (o : Nat) : Bool := (0x10 ≤ o && o ≤ 0x1A) || o == 0x20 || o == 0x21 || o == 0x30 || o == 0x31

/-- Ones in `n` bits from bit k of octet o. -/
def ones (o k n : Nat) : Nat := (2 ^ n - 1) * 2 ^ (8 * (o - 16) + k)

/-- The parameter bits an opcode uses (R333), bit 0 the lowest of octet 16. -/
def usedBits (o : Nat) : Nat :=
  match o with
  | 0x01 => ones 16 0 128
  | 0x02 => ones 16 0 64 + ones 24 0 8 + ones 25 0 1 + ones 32 0 576
  | 0x10 => ones 16 0 8 + ones 17 0 5 + ones 20 0 32 + ones 24 0 4 + ones 32 0 256
  | 0x11 => ones 16 0 3
  | 0x12 => ones 16 0 8 + ones 17 0 1 + ones 20 0 32 + ones 24 0 128
  | 0x14 => (List.range 8).foldl (fun n k => n + ones (16 + 12 * k) 0 9 + ones (16 + 12 * k) 16 80) 0
  | 0x15 => ones 16 0 64
  | 0x16 => ones 16 0 256
  | 0x17 => ones 16 0 64 + ones 24 0 8 + ones 25 0 1
  | 0x18 => ones 16 0 128
  | 0x19 => ones 16 0 8
  | 0x1A => ones 16 0 16
  | 0x21 => ones 16 0 1
  | 0x22 => ones 16 0 2 + ones 18 0 40 + ones 24 0 24
  | 0x28 => ones 16 0 2 + ones 18 0 48
  | 0x30 => ones 16 0 325
  | 0x31 => ones 16 0 1
  | 0x32 => ones 16 0 768
  | 0x38 => ones 16 0 96
  | _ => 0

/-- Reserved fields of the table entries among the parameters are zero. -/
def entriesOk (c : PyrCmd) : Bool :=
  match c.opcode with
  | 0x10 => (List.range 4).all (fun k => packWindow (unpackWindow (c.par (32 + 8 * k) 8)) == c.par (32 + 8 * k) 8)
  | 0x15 => packExtent (unpackExtent (c.par 16 8)) == c.par 16 8
  | 0x16 => packPolice (unpackPolice (c.par 16 32)) == c.par 16 32
  | 0x18 => packCWin (unpackCWin (c.par 16 16)) == c.par 16 16
  | _ => true

/-- The header check of R330. -/
def PyrCmd.headerOk (c : PyrCmd) (p : Nat) : Bool :=
  isOpcode c.opcode && c.crit == isCrit c.opcode && c.prin == p && c.rsv == 0 && (c.sub == 0 || (c.opcode == 0x32 && c.sub ≤ 3)) &&
    (usesTarget c.opcode || c.target == 0) && (c.crit || c.cnt == 0) && (c.params &&& usedBits c.opcode) == c.params && entriesOk c

/-- The feature an opcode needs (R339). -/
def featureOf (o : Nat) : Nat := if o ≤ 3 then 0 else if o < 0x20 then 2 else if o < 0x28 then 3 else if o < 0x30 then 4 else if o < 0x38 then 6 else 7

/-- The feature word TOP offers. -/
abbrev featOffer : Nat := 0xFF

/-- The feature check of R330, R338, R339. -/
def Dev.featureOk (d : Dev) (p : Nat) (c : PyrCmd) : Bool :=
  match (d.ring p).feat with
  | none => c.opcode ≤ 1
  | some w => hasBit w (featureOf c.opcode) && (c.opcode != 0x15 || hasBit w 5 || !(d.role (extOf c).port == 3 || d.role (extOf c).port == 4))

/-- The right an opcode needs (R322): a bit of the mask, none for opcodes 0x00 to 0x03 and for a principal's own key. -/
def Dev.permitted (d : Dev) (p : Nat) (c : PyrCmd) : Bool :=
  let r := (d.keyOf p).rights
  p == 0 || c.opcode ≤ 3 || (c.opcode == 0x30 && c.target == p) ||
    hasBit r (if c.opcode < 0x20 then 0 else if c.opcode < 0x28 then 1 else if c.opcode < 0x30 then 2 else if c.opcode < 0x38 then 3 else 4)

/-- The parameter check of R330. `x`: what the command's exchange gave. -/
def Dev.paramsOk (d : Dev) (c : PyrCmd) (x : Nat) : Bool :=
  match c.opcode with
  | 0x01 => hasBit (c.par 16 16) 0
  | 0x02 => c.par 16 8 % 4096 == 0 && 8 ≤ c.par 24 1 && c.par 24 1 ≤ 16
  | 0x10 => c.target < 512 && ((d.sl c.target).st == slBound || (c.par 16 1 < 64 && c.par 20 4 < 2 ^ 20))
  | 0x11 | 0x13 | 0x14 => c.target < 512
  | 0x12 => c.target < 512 && c.par 16 1 < 64 && c.par 20 4 < 2 ^ 20 && (List.range 4).all (fun w => rebindBase c w < 2 ^ 22)
  | 0x16 => c.target < 512 && ((policeOf c).pir == 0 || (policeOf c).cir ≤ (policeOf c).pir)
  | 0x17 => c.target < 512 && c.par 16 8 % 4096 == 0 && 8 ≤ c.par 24 1 && c.par 24 1 ≤ 16
  | 0x18 => c.target < 256
  | 0x19 => 4 ≤ c.target && c.target < 16 && c.par 16 1 ≤ 8
  | 0x1A => c.target < 1040 && 1 ≤ c.par 16 1 && c.par 16 1 ≤ 15 && 1 ≤ c.par 17 1 && c.par 17 1 ≤ 64
  | 0x20 | 0x21 => c.target < 32
  | 0x22 => c.par 22 1 < 128 && c.par 26 1 < 128
  | 0x28 => c.par 20 4 < 2 ^ 30
  | 0x30 => c.target < 8 && x != 0
  | 0x31 => c.target < 64
  | _ => true

/-! ### Persistence and pair commands (R209, R274, R287) -/

/-- A home an arm names: extent and slot. -/
def armHome (c : PyrCmd) (b : Bool) : Nat × Nat := if b then (c.par 24 2, c.par 26 1) else (c.par 20 2, c.par 22 1)

/-- The homes armed now. -/
def Dev.homeExts (d : Dev) : List Nat :=
  (if d.is R.PRS.HOMEA.VALID then [d.get R.PRS.HOMEA.EXT] else []) ++ (if d.is R.PRS.HOMEB.VALID then [d.get R.PRS.HOMEB.EXT] else [])

/-- What an arm requires of each home extent (R209), in the order its rule lists it: VALID, FREE, neither VOLATILE nor DCD. -/
def homeNeeds : List (ExtentE → Bool) := [fun x => x.valid, fun x => x.st == 0, fun x => !x.vol && !x.dcd]

/-- The home's memory device advertises Global Persistent Flush (R209). -/
def Dev.homeGpf (d : Dev) (e : Nat) : Bool := d.isMem (d.ext e).port && (d.prt (d.ext e).port).partner.gpf

/-- PERSIST_ARM refuses (R209, R287): the first case of the rule that holds names the object (R335). -/
def Dev.armConflict (d : Dev) (c : PyrCmd) : Option Res :=
  let homes := [(armHome c false).1, (armHome c true).1]
  let arm := c.parBit 16 0
  let fence := d.get R.PAIR.FENCE_EXT.EXT
  let bad := fun (e : Nat) => conflict 2 (d.ext e).st e
  let unfit : Option Res :=
    match homeNeeds.findSome? (fun ok => homes.find? (fun e => !ok (d.ext e))) with
    | some e => some (bad e)
    | none =>
      if (d.ext (armHome c false).1).port = (d.ext (armHome c true).1).port then some conflictNone
      else match homes.find? (fun e => !d.homeGpf e) with
        | some e => some (bad e)
        | none => if c.par 18 2 < 500 ∨ 7500 < c.par 18 2 then some conflictNone else none
  match (if arm then unfit else none) with
  | some r => some r
  | none =>
    if d.is R.PAIR.CTL.FENCE_EN ∧ d.homeExts.contains fence ∧ !(arm && homes.contains fence) then some (bad fence) else none

/-- PERSIST_ARM acts: CAT in the new homes, the PRS registers, SCRUB for former homes. -/
def Dev.armApply (d : Dev) (c : PyrCmd) : Dev :=
  let a := armHome c false
  let b := armHome c true
  let arm := c.parBit 16 0
  let kept := if arm then [a.1, b.1] else []
  let old := d.homeExts.filter (fun e => !kept.contains e)
  let d := kept.foldl (fun (d : Dev) e => d.setExt e { d.ext e with cat := true }) d
  let d := if arm then
      ((((((d.set R.PRS.HOMEA.EXT a.1).set R.PRS.HOMEA.SLOT a.2).on R.PRS.HOMEA.VALID).set R.PRS.HOMEB.EXT b.1).set R.PRS.HOMEB.SLOT b.2).on R.PRS.HOMEB.VALID).set R.PRS.CTL.GPF_WAIT_US (c.par 18 2)
    else (d.off R.PRS.HOMEA.VALID).off R.PRS.HOMEB.VALID
  let d := (d.put R.PRS.CTL.ARMED arm).put R.PRS.CTL.PAIR_SAVE (c.parBit 16 1)
  old.foldl (fun (d : Dev) e => (d.setExt e { d.ext e with cat := false }).queueScrub e) d

/-- The fence line a PAIR_CONFIG names. -/
def fenceOf (c : PyrCmd) : Nat × Nat := (c.par 18 2, c.par 20 4)

/-- PAIR_CONFIG refuses (R287): with FENCE_EN the fence line must be fit. -/
def Dev.pairConflict (d : Dev) (c : PyrCmd) : Option Res :=
  let e := (fenceOf c).1
  let o := (fenceOf c).2
  let x := d.ext e
  let inSlot := fun (h s : Fld) (v : Fld) => d.is v && d.get h == e && o / 2 ^ 23 == d.get s
  if !c.parBit 16 1 then none
  else if !x.cat ∨ !x.altEn ∨ !x.altPartner ∨ (d.winOf e).isSome then some (conflict 2 x.st e)
  else if o % 64 ≠ 0 ∨ inSlot R.PRS.HOMEA.EXT R.PRS.HOMEA.SLOT R.PRS.HOMEA.VALID ∨ inSlot R.PRS.HOMEB.EXT R.PRS.HOMEB.SLOT R.PRS.HOMEB.VALID then some conflictNone
  else none

/-- PAIR_CONFIG acts. -/
def Dev.pairApply (d : Dev) (c : PyrCmd) : Dev :=
  (((d.put R.PAIR.CTL.FENCE_EN (c.parBit 16 1)).set R.PAIR.FENCE_EXT.EXT (fenceOf c).1).set R.PAIR.FENCE_OFS.OFS (fenceOf c).2).pairSwitch (c.parBit 16 0)

/-! ### Lifecycle (R159, R333) -/

/-- LC_AUTH's transition is not allowed in the present state (R159). -/
def Dev.lcConflict (d : Dev) (c : PyrCmd) : Option Res :=
  let st := d.get R.SEC.LCSTS.STATE
  let bad := some (conflict 8 st 0)
  match c.sub with
  | 0 => if st = 2 then none else bad
  | 1 => if st = 0 then none else bad
  | 2 => if st ≤ 1 then none else bad
  | _ =>
    if st ≠ 1 ∧ st ≠ 2 then bad
    else match d.slices.find? (fun x => x.2.st != slFree) with
      | some x => some (conflict 1 x.2.st x.1)
      | none => (d.extents.find? (fun x => 2 ≤ x.2.st)).map (fun x => conflict 2 x.2.st x.1)

/-- Everything the transition to RMA erases (R159): command keys, IDE keys, the key that wraps the keys of a Catalogue. -/
def Dev.eraseKeys (d : Dev) : Dev :=
  let f := fun (i : Image) => { i with sealed := false }
  let d := { d with mgmt := { d.mgmt with keys := Tbl.remap d.mgmt.keys {} (fun _ (k : KeyE) => { k with key := none }) }, prs := { d.prs with stored := d.prs.stored.map (fun (x : Nat × Image) => (x.1, f x.2)) }, nor := { d.nor with base := d.nor.base.map f } }
  (List.range 64).foldl (fun (d : Dev) p => if (d.prt p).cmSets = 0 ∧ (d.prt p).ioSets = 0 then d else (d.updPrt p (fun r => { r with cmSets := 0, ioSets := 0 })).setSecure p false false) d

/-- LC_AUTH acts: x holds the signature's check in bit 0 and the erase's read-back in bit 1. DESIGN CHOICE: where the erase does not read back as complete the command
ends with INTERNAL and the state stays; the spec names no status for it (log entry 173). -/
def Dev.lcApply (d : Dev) (c : PyrCmd) (x : Nat) : Dev × Res :=
  match c.sub with
  | 0 => (((d.on R.SEC.LCSTS.DBG_EN).addSat R.SEC.UNLOCKCNT.VALUE 1).raise .lc 1, {})
  | 1 => (((d.set R.SEC.LCSTS.STATE 1).lcDebug).raise .lc 0, {})
  | 2 => (((d.set R.SEC.LCSTS.STATE 2).lcDebug).raise .lc 0, {})
  | _ =>
    let d := d.eraseKeys
    if hasBit x 1 then ((((d.on R.SEC.LCSTS.KEYS_ERASED).set R.SEC.LCSTS.STATE 3).lcDebug).raise .lc 0, {}) else (d, { status := stInternal })

/-! ### The commit of a command (R330, R331) -/

/-- What a command's rule refuses in the present state. -/
def Dev.cmdConflict (d : Dev) (p : Nat) (c : PyrCmd) : Option Res :=
  match c.opcode with
  | 0x01 => if (d.ring p).feat.isSome then some (conflict 0xA 2 p) else none
  | 0x10 => d.bindConflict c
  | 0x11 | 0x13 => d.boundOr c.target
  | 0x12 => d.rebindConflict c
  | 0x14 => d.ruleConflict c
  | 0x15 => d.extConflict c
  | 0x16 => if (d.sl c.target).st = slFree then some (conflict 1 slFree c.target) else none
  | 0x17 => d.dlogConflict c
  | 0x18 => d.winConflict c
  | 0x20 => d.slotOnConflict c
  | 0x21 => d.slotOffConflict c
  | 0x22 => d.armConflict c
  | 0x28 => d.pairConflict c
  | 0x29 => if d.inPair then none else some (conflict 6 d.pst 0)
  | 0x31 =>
    if !(d.isMem c.target && d.isUp c.target) ∨ (c.parBit 16 0 ∧ (d.prt c.target).cmSets = 0 ∧ (d.prt c.target).ioSets = 0) then some (conflict 5 (d.linkSt c.target) c.target) else none
  | 0x32 => d.lcConflict c
  | 0x39 =>
    if !d.nor.staged then some conflictNone
    else if !d.inService then some (conflict 7 (d.get R.PRS.STATE.SEQ) 0)
    else if !d.mgmt.recs.isEmpty then some (conflict 0xB (d.get R.PAIR.COMMIT.STATE) 0)
    else none
  | _ => none

/-- MEM_IDE programs the streams the port's IDECTL enables (R56). -/
def Dev.memIde (d : Dev) (p : Nat) (ok : Bool) : Dev × Res :=
  if ok then
    let d := if d.is (R.PU.IDECTL.CM_EN p) then d.installKeys p false else d
    (if d.is (R.PU.IDECTL.IO_EN p) then d.installKeys p true else d, {})
  else (d.raise (.pu p) 9, { status := stRemote })

/-- KEY_INSTALL (R333, R337): the key takes effect, with the rights of principals 1 to 7; the counter keeps its value. -/
def Dev.keyApply (d : Dev) (t k rights : Nat) : Dev :=
  (d.updKey t (fun e => { e with key := some k, rights := if t = 0 then e.rights else rights })).raise .sec 11

/-- EVENT_CONFIG acts (R341). -/
def Dev.eventApply (d : Dev) (p : Nat) (c : PyrCmd) : Dev :=
  d.updRing p (fun r => { r with evEn := c.parBit 25 0, evBase := c.par 16 8, evSize := c.par 24 1, evSub := c.par 32 72, evPi := 0, evPhase := true, evLast := [] })

/-- LC_CHALLENGE acts: a fresh nonce. -/
def Dev.challenge (d : Dev) (p : Nat) : Dev × Res :=
  let r := d.draw 128
  let n := r.1
  let d := r.2.updRing p (fun g => { g with nonce := some n })
  ((((d.set R.SEC.LCNONCE0.VALUE n).set R.SEC.LCNONCE1.VALUE (n / 2 ^ 32)).set R.SEC.LCNONCE2.VALUE (n / 2 ^ 64)).set R.SEC.LCNONCE3.VALUE (n / 2 ^ 96), { result := n })

/-- The version held in a firmware bank. -/
def Nor.ver (n : Nor) (b : Bool) : Nat := if b then n.ver1 else n.ver0

/-- FW_ACTIVATE acts (R347): the staged bank is active in the boot header. -/
def Dev.fwActivate (d : Dev) : Dev × Res :=
  let b := !d.nor.fwBank
  ({ d with nor := { d.nor with fwBank := b, staged := false } }.raise .cur 7, { result := d.nor.ver b })

/-- FW_STAGE acts: the image is read from the principal's memory; one whose signature holds (x is its version plus 1) and whose version is at least the fused security
version (R346) is programmed into the inactive bank. -/
def Dev.fwStage (d : Dev) (p : Nat) (c : PyrCmd) (x : Nat) : Dev × Res :=
  let d := d.emit (.prinMem p) .imgRead [c.par 16 8, c.par 24 4]
  if x ≤ d.get R.TOP.SECVER.VER then (d, { status := stImage })
  else ({ d with mgmt := { d.mgmt with prog := d.mgmt.prog ++ [x - 1] }, nor := { d.nor with staged := false } }.emit .nor .norProgram [bit (!d.nor.fwBank)], {})

/-- A command's effect, and its result. -/
def Dev.cmdApply (d : Dev) (p : Nat) (c : PyrCmd) (x : Nat) : Dev × Res :=
  match c.opcode with
  | 0x01 =>
    let w := c.par 16 16 &&& featOffer
    (d.updRing p (fun r => { r with feat := some w }), { result := w })
  | 0x02 => (d.eventApply p c, {})
  | 0x03 => d.challenge p
  | 0x10 => (d.bindApply c, {})
  | 0x11 => (d.unbindApply c, {})
  | 0x12 => (d.rebindApply c, {})
  | 0x13 => (d.beginSlice c.target 3 id, {})
  | 0x14 => (d.ruleApply c, {})
  | 0x15 => (d.extApply c, {})
  | 0x16 => (d.setPolice c.target (policeOf c), {})
  | 0x17 => (d.dlogApply c, {})
  | 0x18 => (d.setWindow c.target (winNew c), {})
  | 0x19 => (d.sqApply c, {})
  | 0x1A => (d.queueQosApply c, {})
  | 0x20 => (d.slotOnApply c.target, {})
  | 0x21 => (d.slotOffApply c.target, {})
  | 0x22 => (d.armApply c, {})
  | 0x28 => (d.pairApply c, {})
  | 0x29 => (d.put R.PAIR.STATE.ROLE (!d.is R.PAIR.STATE.ROLE), {})
  | 0x30 => (d.keyApply c.target (x - 1) (c.par 56 1), {})
  | 0x31 => d.memIde c.target (x != 0)
  | 0x32 => d.lcApply c x
  | 0x38 => d.fwStage p c x
  | 0x39 => d.fwActivate
  | _ => (d, {})

/-- The command's action goes on after its commit point (R331). -/
def Dev.cmdLong (d : Dev) (c : PyrCmd) : Bool :=
  match c.opcode with
  | 0x11 | 0x12 | 0x13 | 0x21 => true
  | 0x18 => d.winBusy c.target
  | 0x38 => !d.mgmt.prog.isEmpty
  | _ => false

/-- A status that leaves the counter unchanged (R330). -/
def keepsCounter (st : Nat) : Bool := st == stBadCmd || st == stAuth || st == stStale

/-- A critical command consumes its counter (R330). -/
def Dev.useCounter (d : Dev) (p : Nat) (c : PyrCmd) (r : Res) : Dev :=
  if isCrit c.opcode && c.crit && !keepsCounter r.status then d.updKey p (fun k => { k with cnt := c.cnt }) else d

/-- A command passes its commit point: its counter is consumed, the ring may fetch on; it completes now, or is recorded until its action ends. -/
def Dev.finishCmd (d : Dev) (p : Nat) (c : PyrCmd) (r : Res) (long changed : Bool) : Dev :=
  let d := if changed then (d.useCounter p c r).cfgChange.changedBy p else d.useCounter p c r
  let d := if d.mgmt.cur = some (p, c.slot) then { d with mgmt := { d.mgmt with cur := none } } else d
  if long && r.status == stOk then { d with mgmt := { d.mgmt with recs := d.mgmt.recs ++ [{ prin := p, cmd := c, status := r.status, code := r.code, result := r.result }] } }
  else d.complete p c r

/-- The commit on a device alone (R331). -/
def Dev.commitAlone (d : Dev) (p : Nat) (c : PyrCmd) (x : Nat) : Dev :=
  match d.cmdConflict p c with
  | some r => d.finishCmd p c r false false
  | none =>
    let (d, r) := d.cmdApply p c x
    d.finishCmd p c r (d.cmdLong c) (isConfig c.opcode)

/-- Changes run through the partner (R282), or wait for a transfer to end (R296). -/
def Dev.committing (d : Dev) : Bool := d.inPair || d.pst == psSync

/-- A command that has passed R330's checks commits: alone, or through the pair. -/
def Dev.commitCmd (d : Dev) (p : Nat) (c : PyrCmd) (x : Nat) : Dev :=
  if d.committing && isMirrored c.opcode then d.submit (.cmd p c x) else d.commitAlone p c x

/-- A command refused after its counter check: in a pair its counter is consumed on both devices (R331). -/
def Dev.refuseCmd (d : Dev) (p : Nat) (c : PyrCmd) (r : Res) : Dev :=
  if d.committing && c.crit then d.submit (.refused p c r) else d.finishCmd p c r false false

/-- A bind that maps extents of other devices waits for their MAPREFs (R263). -/
def Dev.commitRefs (d : Dev) (p : Nat) (c : PyrCmd) (x : Nat) : Dev :=
  let es := d.needRefs c
  if es.isEmpty ∨ (d.bindConflict c).isSome then d.commitCmd p c x
  else Dev.mapPump { d with commit := { d.commit with mapCmd := some (p, c), mapGot := [], maps := d.commit.maps ++ es.map (fun e => { ext := e, delta := 1, cmd := true }) } }

/-- The key a KEY_INSTALL of principal p brings (R333): octets 16 to 55 unwrapped under a key drawn from p's own, plus 1; 0 where the unwrapping fails. -/
def Dev.newKey (d : Dev) (p : Nat) (c : PyrCmd) : Nat :=
  let kek := hmacSha256 (leBytes ((d.keyOf p).key.getD 0) 32) ("PYRJAN-KEYWRAP".toList.map Char.toNat)
  (keyUnwrap (ofLe kek) 4 (c.par 16 40)).elim 0 (fun k => k + 1)

/-- R330: the checks in order. `op`: the opcode of the row that delivers the command. LC_AUTH's signature is checked before its state (R333). -/
def Dev.runChecks (d : Dev) (op p : Nat) (c : PyrCmd) (x : Nat) : Dev :=
  let bad := fun (st : Nat) => d.finishCmd p c { status := st } false false
  if c.opcode ≠ op ∨ !c.headerOk p ∨ !d.featureOk p c then bad stBadCmd
  else
    let k := d.keyOf p
    if c.crit ∧ !(match k.key with
      | none => false
      | some y => c.tag y == c.mac) then bad stAuth
    else if c.crit ∧ c.cnt ≠ (k.cnt + 1) % 2 ^ 64 then bad stStale
    else if !d.permitted p c then d.refuseCmd p c { status := stPerm }
    else if c.opcode = 0x30 then
      let x := d.newKey p c
      if d.paramsOk c x then d.commitCmd p c x
      else Dev.refuseCmd (if c.target < 8 ∧ x = 0 then d.secRaise 6 p else d) p c { status := stBadParam }
    else if c.opcode = 0x32 then
      let n := (d.ring p).nonce.isSome
      let d := d.updRing p (fun g => { g with nonce := none })
      if n && hasBit x 0 then d.commitAlone p c x else d.finishCmd p c { status := stAuth } false false
    else if !d.paramsOk c x then d.refuseCmd p c { status := stBadParam }
    else d.commitRefs p c x

/-- A command row: the fetched command of the slot asked for executes. Past P0 a command that has not committed is dropped (R214); while the Curator
is away nothing executes (R348). -/
def Dev.command (d : Dev) (op : Nat) (c : PyrCmd) (x : Nat) : Dev :=
  match d.mgmt.cur with
  | none => d
  | some (p, slot) =>
    if d.mgmt.down || d.mgmt.dead || c.slot != slot || d.commit.mapCmd.isSome || d.commit.queue.any (fun q => match q with
        | .cmd a b _ => a == p && b.slot == slot
        | .refused a b _ => a == p && b.slot == slot
        | _ => false) || (match d.commit.change with
        | some (.cmd a b _) => a == p && b.slot == slot
        | some (.refused a b _) => a == p && b.slot == slot
        | _ => false) then d
    else if 3 ≤ d.get R.PRS.STATE.SEQ then { d with mgmt := { d.mgmt with cur := none } }
    else d.runChecks op p c x

def execNop (c : PyrCmd) (s : State) := core s (fun d => (d.command 0x00 c 0).settle)
def execFeatSet (c : PyrCmd) (s : State) := core s (fun d => (d.command 0x01 c 0).settle)
def execEventConfig (c : PyrCmd) (s : State) := core s (fun d => (d.command 0x02 c 0).settle)
def execLcChallenge (c : PyrCmd) (s : State) := core s (fun d => (d.command 0x03 c 0).settle)
def execSliceBind (c : PyrCmd) (s : State) := core s (fun d => (d.command 0x10 c 0).settle)
def execSliceUnbind (c : PyrCmd) (s : State) := core s (fun d => (d.command 0x11 c 0).settle)
def execSliceRebind (c : PyrCmd) (s : State) := core s (fun d => (d.command 0x12 c 0).settle)
def execSliceReset (c : PyrCmd) (s : State) := core s (fun d => (d.command 0x13 c 0).settle)
def execRuleSet (c : PyrCmd) (s : State) := core s (fun d => (d.command 0x14 c 0).settle)
def execExtentDefine (c : PyrCmd) (s : State) := core s (fun d => (d.command 0x15 c 0).settle)
def execSliceQos (c : PyrCmd) (s : State) := core s (fun d => (d.command 0x16 c 0).settle)
def execDlogConfig (c : PyrCmd) (s : State) := core s (fun d => (d.command 0x17 c 0).settle)
def execWindowSet (c : PyrCmd) (s : State) := core s (fun d => (d.command 0x18 c 0).settle)
def execSqAssign (c : PyrCmd) (s : State) := core s (fun d => (d.command 0x19 c 0).settle)
def execQueueQos (c : PyrCmd) (s : State) := core s (fun d => (d.command 0x1A c 0).settle)
def execSlotOn (c : PyrCmd) (s : State) := core s (fun d => (d.command 0x20 c 0).settle)
def execSlotOff (c : PyrCmd) (s : State) := core s (fun d => (d.command 0x21 c 0).settle)
def execPersistArm (c : PyrCmd) (s : State) := core s (fun d => (d.command 0x22 c 0).settle)
def execPairConfig (c : PyrCmd) (s : State) := core s (fun d => (d.command 0x28 c 0).settle)
def execRoleChange (c : PyrCmd) (s : State) := core s (fun d => (d.command 0x29 c 0).settle)

/-- Principal 0's first key, unwrapped as a secured session carries it (R337). -/
def Dev.firstKey (d : Dev) (k : Nat) : Dev :=
  if d.mgmt.down || d.mgmt.dead || (d.keyOf 0).key.isSome then d
  else if d.committing then d.submit (.dev [{ loc := keyLoc, len := 64, bytes := packKey { d.keyOf 0 with key := some (k % 2 ^ 256) } }])
  else (d.keyApply 0 (k % 2 ^ 256) 0).cfgChange

/-- KEY_INSTALL (R333, R337): from a ring as every command; as a secured message of a session only principal 0's first key. -/
def execKeyInstall (c : PyrCmd) (session : Option Nat) (s : State) :=
  core s (fun d => match session with
    | none => (d.command 0x30 c 0).settle
    | some k => if c.opcode = 0x30 ∧ c.target = 0 then d.firstKey k else d)

def execMemIde (c : PyrCmd) (ok : Bool) (s : State) := core s (fun d => (d.command 0x31 c (bit ok)).settle)
def execLcAuth (c : PyrCmd) (sigOk erased : Bool) (s : State) := core s (fun d => (d.command 0x32 c (bit sigOk + 2 * bit erased)).settle)
def execFwStage (c : PyrCmd) (image : Option Nat) (s : State) := core s (fun d => (d.command 0x38 c (image.elim 0 (fun v => v % 2 ^ 16 + 1))).settle)
def execFwActivate (c : PyrCmd) (s : State) := core s (fun d => (d.command 0x39 c 0).settle)

/-! ### Firmware and the Curator (R346 to R348, R332) -/

/-- FW_PROGRAM_COMPLETE (R347): the image is staged, or the bank could not be programmed; FW_STAGE completes. -/
def Dev.fwProgrammed (d : Dev) (ok : Bool) : Dev :=
  match d.mgmt.prog with
  | [] => d
  | v :: rest =>
    let b := !d.nor.fwBank
    let d := { d with mgmt := { d.mgmt with prog := rest } }
    if ok then
      let d := { d with nor := if b then { d.nor with staged := true, ver1 := v } else { d.nor with staged := true, ver0 := v } }
      ((d.set R.SEC.FWVER.STAGED v).raise .cur 6).endAction [0x38] 0 { result := v }
    else ((d.off R.SEC.FWVER.STAGED).raise .cur 5).endAction [0x38] 0 { status := stImage }

def execFwProgramComplete (ok : Bool) (s : State) := core s (fun d => d.fwProgrammed ok)

/-- The Curator goes away (R348): the fetched command is fetched again later; commands that wait for the engine too. -/
def Dev.curDown (d : Dev) : Dev :=
  { d with mgmt := { d.mgmt with down := true, cur := none }, commit := { d.commit with mapCmd := none, queue := d.commit.queue.filter (fun q => match q with
      | .cmd _ _ _ | .refused _ _ _ => false
      | _ => true) } }

/-- CURATOR_RESTART, WATCHDOG_TIMEOUT; a Curator halted through debug restarts too. -/
def Dev.curRestart (d : Dev) (wdog : Bool) : Dev :=
  if d.mgmt.dead then d else if wdog then (d.raise .cur 2).curDown else d.curDown

def execCuratorRestart (s : State) := core s (fun d => d.curRestart false)
def execWatchdogTimeout (s : State) := core s (fun d => d.curRestart true)

/-- The completion a recorded command gets after a restart (R332). -/
def CommitRec.afterRestart (r : CommitRec) : Res := if r.done then { status := r.status, code := r.code, result := r.result } else { status := stInternal, result := 1 }

/-- CURATOR_RESTART_COMPLETE (R332, R347): the active bank runs; recorded commands complete; fetching begins again from HEAD. -/
def Dev.curBack (d : Dev) : Dev :=
  if d.mgmt.down then
    let d := d.curDown
    let b := d.nor.fwBank
    let d := (d.put R.SEC.CURSTS.BANK b).set R.SEC.FWVER.ACTIVE (d.nor.ver b)
    let d := if d.nor.staged then d else d.off R.SEC.FWVER.STAGED
    let d := { d with mgmt := { d.mgmt with down := false, cur := none, rings := Tbl.remap d.mgmt.rings {} (fun _ (r : RingE) => { r with fetch := r.head }) } }
    d.mgmt.recs.foldl (fun (d : Dev) r => (d.complete r.prin r.cmd r.afterRestart).updRing r.prin (fun g => { g with fetch := g.head })) d
  else d

def execCuratorRestartComplete (s : State) := core s Dev.curBack

/-! ### Rings (R323 to R327) -/

/-- COMMAND_DOORBELL (R325). -/
def execCommandDoorbell (p : Fin 8) (tail : Nat) (s : State) := catBar s (fun d => d.set (R.PRIN.DB.TAIL p) tail)

/-- The principal has a posted command to fetch. -/
def Dev.posted (d : Dev) (p : Nat) : Bool := (d.ring p).attached && (d.ring p).fetch != d.get (R.PRIN.DB.TAIL p) % d.ringSize p

/-- COMMAND_FETCH (R325): the next principal in round robin. One fetched command at a time awaits its commit point. -/
def Dev.cmdFetch (d : Dev) : Dev :=
  if d.mgmt.down || d.mgmt.dead || d.mgmt.cur.isSome || !d.inService then d
  else match ((List.range 8).map (fun i => (d.mgmt.rr + 1 + i) % 8)).find? d.posted with
    | none => d
    | some p =>
      let slot := (d.ring p).fetch
      let d := d.emit (.prinMem p) .ringRead [d.get64 (R.PRIN.CRBL.VALUE p) (R.PRIN.CRBH.VALUE p) + 128 * slot]
      let d := d.updRing p (fun r => { r with fetch := (slot + 1) % d.ringSize p })
      { d with mgmt := { d.mgmt with cur := some (p, slot), rr := p } }

def execCommandFetch (s : State) := core s Dev.cmdFetch

/-- The outcome of an attachment (ARES.STATUS): 0 OK, 1 BASE, 2 SIZE, 3 PASID, 4 STATE. -/
def Dev.attachStatus (d : Dev) (p : Nat) : Nat :=
  let size := d.get (R.PRIN.RCTL.SIZE p)
  let same := fun (q : Nat) => q != p && (d.ring q).attached && d.get (R.PRIN.RCTL.PASID_EN q) == d.get (R.PRIN.RCTL.PASID_EN p) &&
    d.get (R.PRIN.RCTL.PASID q) == d.get (R.PRIN.RCTL.PASID p)
  if d.get (R.PRIN.CRBL.VALUE p) % 4096 ≠ 0 ∨ d.get (R.PRIN.CPBL.VALUE p) % 4096 ≠ 0 then 1
  else if size < 4 ∨ 12 < size then 2
  else if (List.range 8).any same then 3
  else if !d.inService then 4
  else 0

/-- The first slot from HEAD on whose command is not past its commit point: `l` holds the slots whose commands are (R325, R327). -/
def resumeAt : Nat → Nat → List Nat → Nat → Nat
  | 0, _, _, h => h
  | n + 1, size, l, h => if l.contains h then resumeAt n size l ((h + 1) % size) else h

/-- ATTACH (R324, R327): the result is written; an attached principal's feature word is cleared, commands that completed while it was away
have their completions written, and fetching resumes at HEAD, past commands still running. -/
def Dev.attach (d : Dev) (p : Nat) : Dev :=
  if d.is (R.PRIN.RCTL.EN p) then d
  else
    let st := d.attachStatus p
    let d := (((d.set (R.PRIN.ARES.STATUS p) st).addMod (R.PRIN.ARES.SEQ p) 1).on (R.PRIN.ARES.VALID p)).set (R.PRIN.ARES.HEAD p) (d.ring p).head
    if st = 0 then
      let d := (d.on (R.PRIN.RCTL.EN p)).updRing p (fun r => { r with attached := true, feat := none, fetch := r.head })
      let d := (d.mgmt.recs.filter (fun r => r.done && r.prin == p)).foldl (fun (d : Dev) r => d.complete p r.cmd { status := r.status, code := r.code, result := r.result }) d
      let at_ := resumeAt (d.ringSize p) (d.ringSize p) ((d.mgmt.recs.filter (fun r => r.prin == p)).map (·.cmd.slot)) (d.ring p).head
      (d.updRing p (fun r => { r with fetch := at_ })).set (R.PRIN.ARES.HEAD p) at_
    else d.secRaise 4 p

def execAttach (p : Fin 8) (s : State) := bar s (fun d => d.attach p)

/-- DETACH (R327): fetched commands before their commit point are discarded. -/
def Dev.detach (d : Dev) (p : Nat) : Dev :=
  if d.is (R.PRIN.RCTL.EN p) then
    let d := (d.off (R.PRIN.RCTL.EN p)).updRing p (fun r => { r with attached := false })
    let busy : Bool := match d.commit.change with
      | some (.cmd a _ _) => a == p
      | some (.refused a _ _) => a == p
      | _ => false
    let mine := fun (q : Change) => match q with
      | .cmd a _ _ => a == p
      | .refused a _ _ => a == p
      | _ => false
    { d with mgmt := { d.mgmt with cur := if d.mgmt.cur.any (fun x => x.1 == p) && !busy then none else d.mgmt.cur }, commit := { d.commit with queue := d.commit.queue.filter (fun q => !mine q), mapCmd := if d.commit.mapCmd.any (fun x => x.1 == p) then none else d.commit.mapCmd } }
  else d

def execDetach (p : Fin 8) (s : State) := bar s (fun d => d.detach p)

/-! ### Events (R341, R342) -/

/-- Write one entry of a principal's event ring, if there is room. -/
def Dev.eventWrite (d : Dev) (p kind level number : Nat) : Dev × Bool :=
  let r := d.ring p
  let n := 2 ^ r.evSize
  let ci := d.get (R.PRIN.DB.EVCI p) % n
  if (r.evPi + 1) % n = ci then (d.secRaise 5 p, false)
  else
    let d := d.emit (.prinMem p) .eventEntry ((r.evBase + 16 * r.evPi) :: leBytes (packEvent r.evPhase kind level number d.ft) 16)
    let d := if r.evPi = ci then d.emit (.prinMem p) .msix [8 + p] else d
    (d.updRing p (fun r => { r with evPi := (r.evPi + 1) % n, evPhase := if (r.evPi + 1) % n = 0 then !r.evPhase else r.evPhase }), true)

/-- One source's level is delivered where it differs from the level last delivered. -/
def Dev.eventSource (d : Dev) (p n : Nat) : Dev :=
  let last := (d.ring p).evLast.contains n
  let now := d.active n
  if last = now then d
  else
    let (d, ok) := d.eventWrite p 0 (bit now) n
    if ok then d.updRing p (fun r => { r with evLast := if now then r.evLast ++ [n] else r.evLast.filter (· != n) }) else d

/-- One system queue's pending interrupt is delivered. -/
def Dev.eventQueue (d : Dev) (p k : Nat) : Dev :=
  let (d, ok) := d.eventWrite p 1 1 k
  if ok then d.updRing p (fun r => { r with evSq := r.evSq.filter (· != k) }) else d

/-- EVENT_DELIVER (R341, R342): an attached principal with EVENTS confirmed and its event ring on. -/
def Dev.eventDeliver (d : Dev) (p : Nat) : Dev :=
  let r := d.ring p
  if r.attached && r.evEn && r.feat.any (fun w => hasBit w 1) then
    let d := ((List.range 576).filter (fun n => hasBit r.evSub n)).foldl (fun (d : Dev) n => d.eventSource p n) d
    r.evSq.foldl (fun (d : Dev) k => d.eventQueue p k) d
  else d

def execEventDeliver (p : Fin 8) (s : State) := core s (fun d => d.eventDeliver p)

/-- EVCI_WRITE (R342): room returns, and what waits is delivered. -/
def execEvciWrite (p : Fin 8) (evci : Nat) (s : State) := catBar s (fun d => (d.set (R.PRIN.DB.EVCI p) evci).eventDeliver p)

/-! ### FM API and DOE (R56, R337, R343) -/

/-- Served requests. -/
def FmOp.served : FmOp → Bool
  | .identify | .physPortState | .vcsInfo | .ldInfo | .tunnel => true
  | _ => false

/-- The place an FM API request comes from. -/
def FmVia.chan : FmVia → Chan
  | .mailbox p => .host p
  | .mctpSideband => .sideband
  | .mctpMgmt => .mgmt

/-- The code of an FM API request. -/
def FmOp.code : FmOp → Nat
  | .identify => 0
  | .physPortState => 1
  | .vcsInfo => 2
  | .ldInfo => 3
  | .tunnel => 4
  | _ => 5

/-- What the answer covers (R343): by a HOST port's mailbox, that port and the MEM ports its slices are bound to; elsewhere every port. -/
def Dev.fmCovers (d : Dev) (via : FmVia) : List Nat :=
  match via with
  | .mailbox p =>
    let es := ((d.slices.filter (fun (x : Nat × SliceE) => x.2.st != slFree && x.2.port == p)).flatMap (fun (x : Nat × SliceE) => x.2.exts)).map d.ext
    (List.range 64).filter (fun q => q == p || (d.isMem q && es.any (fun e => e.port == q || (e.altEn && !e.altPartner && e.altPort == q))))
  | _ => (List.range 64).filter (fun q => (d.prt q).ex)

/-- FM_API_REQUEST (R343). -/
def Dev.fmApi (d : Dev) (via : FmVia) (op : FmOp) : Dev :=
  let open_ : Bool := match via with
    | .mailbox p => d.isHost p && d.isUp p
    | _ => true
  if d.mgmt.down || d.mgmt.dead || !open_ then d
  else if op.served then (d.addMod R.SEC.FMCNT.VALUE 1).emit via.chan .fmRsp (op.code :: d.fmCovers via)
  else d.emit via.chan .fmUnsupported [op.code]

def execFmApiRequest (via : FmVia) (op : FmOp) (s : State) := core s (fun d => d.fmApi via op)

/-- The management function's number in a DOE request; lower numbers are ports. -/
abbrev mgmtFn : Nat := 64

/-- The code of a DOE protocol. -/
def DoeProto.code : DoeProto → Nat
  | .cmaSpdm => 0
  | .securedCma => 1
  | .ideKm => 2
  | .cdat => 3

/-- DOE_REQUEST (R38, R56, R337): answered on the function it came to; principal 0's first key comes unwrapped in a secured session of the management
function. -/
def Dev.doe (d : Dev) (fn : Nat) (proto : DoeProto) (key : Option Nat) : Dev :=
  let there : Bool := fn == mgmtFn || (fn < 64 && d.isHost fn && d.isUp fn)
  if d.mgmt.down || d.mgmt.dead || !there then d
  else
    let d := d.emit (if fn = mgmtFn then .mgmt else .host fn) .doeRsp [fn, proto.code]
    match key with
    | some k => if fn = mgmtFn ∧ proto = .securedCma then d.firstKey k else d
    | none => d

def execDoeRequest (fn : Nat) (proto : DoeProto) (key : Option Nat) (s : State) := core s (fun d => d.doe fn proto key)

/-! ### MAPREF answers (R263) -/

/-- The waiting bind goes on once every MAPREF it asked for is acknowledged. -/
def Dev.mapReady (d : Dev) : Dev :=
  match d.commit.mapCmd with
  | none => d
  | some (p, c) =>
    if d.commit.maps.any (·.cmd) then d
    else Dev.commitCmd { d with commit := { d.commit with mapCmd := none, mapGot := [] } } p c 0

/-- The waiting bind ends with STATE_CONFLICT: the mappings already counted are taken back; the one under way is still awaited, and taken back after it. -/
def Dev.mapFail (d : Dev) : Dev :=
  match d.commit.mapCmd with
  | none => d
  | some (p, c) =>
    let sent := (d.commit.maps.filter (fun m => m.cmd && m.mseq.isSome)).map (·.ext)
    let rest := (d.commit.maps.filter (fun m => !m.cmd || m.mseq.isSome)).map (fun (m : MapOut) => { m with cmd := false })
    let d := { d with commit := { d.commit with mapCmd := none, mapGot := [], maps := rest ++ (d.commit.mapGot ++ sent).map (fun e => ({ ext := e, delta := 2 } : MapOut)) } }
    (d.refuseCmd p c conflictNone).mapPump

/-- The answer to the MAPREF under way: MSEQ moves on; UNMAPPED ends the waiting bind. -/
def Dev.mapAnswered (d : Dev) (status : Nat) : Dev :=
  match d.commit.maps with
  | [] => d
  | m :: rest =>
    match m.mseq with
    | none => d
    | some n =>
      let d := { d with xgrp := { d.xgrp with mseq := n } }
      if m.cmd ∧ status ≠ 0 then
        Dev.mapFail { d with commit := { d.commit with maps := rest } }
      else
        let d := { d with commit := { d.commit with maps := rest, mapGot := if m.cmd then d.commit.mapGot ++ [m.ext] else d.commit.mapGot } }
        d.mapReady.mapPump

/-- MAPREF_TIMEOUT (R263): no CMP within 1 ms: the waiting command completes with STATE_CONFLICT. -/
def Dev.mapTimeout (d : Dev) : Dev :=
  match d.commit.maps with
  | [] => d
  | m :: _ => if m.mseq.isSome ∧ m.cmd then d.mapFail else d

def execMaprefTimeout (s : State) := core s (fun d => (d.mapTimeout).settle)

/-! ### XEPIN_RSP (R86, R128, R146, R251, R262, R263) -/

/-- A request of this device, or one it forwarded, ends with a status other than OK (R146, R262): the status goes back; here the outcome of a refused part. -/
def Dev.xFailed (d : Dev) (m : Msg) (status : Nat) : Dev :=
  if m.home then
    match m.kind with
    | .memRead => d.giveData m 0 true
    | .atomic => d.failAtomic m
    | _ => d.wroteHome m
  else
    let r := m.asReq
    match m.src.link with
    | some p => if m.kind == .ioWrite then d else (d.dropReq r).toXep r p (m.x.elim 0x80 (fun h => if h.op = 0x10 then 0x85 else if m.kind.asksData then 0x84 else 0x80)) status none false
    | none =>
      match m.kind with
      | .memRead =>
        match m.src with
        | .skid _ | .io _ => d.answerCa r
        | _ => (if m.mv = 1 ∨ m.mv = 2 then d.answerCpl r .cmp else d).answerData r 0 true
      | .ioRead => d.answerCa r
      | .atomic => d.failAtomic m
      | .memWrite | .memWb => d.answerCpl r .cmp
      | _ => d

/-- A caching read of a host whose home is the partner (R105, R128): it gets a completion and data. -/
def Msg.cachingRead (m : Msg) : Bool := m.kind == .memRead && m.x.any (fun h => h.op == 2 || h.op == 3)

/-- The completion a RSP carries (R252). -/
def rspOp (op : Nat) : Op := if op = 0x81 then .cmpS else if op = 0x82 then .cmpE else if op = 0x83 then .cmpM else .cmp

/-- The answer to a MAPREF (R263): one of this device moves it on, another's goes back the way it came. -/
def Dev.mapRsp (d : Dev) (q : Msg) (status : Nat) : Dev :=
  match q.src.link with
  | some l => d.toXep q.asReq l 0x80 status none false
  | none => if q.x.any (fun h => h.be % 2 ^ 16 == 0) then d.lostAnswered (q.pool / 2 ^ 30) status else d.mapAnswered status

/-- The request a response of a Xepin link answers is over. -/
def Dev.xAnswer (d : Dev) (p : Nat) (a : Option Msg) (o : OutReq) (m : XMsg) : Dev :=
  let q := o.msg
  let part := m.status == 0 && q.cachingRead && !o.got
  let d := d.updPrt p (fun r => { r with outs := if part then r.outs.map (fun x => if x.idx = o.idx then { x with got := true } else x) else r.outs.filter (fun x => x.idx != o.idx) })
  if d.stale q then (if part then d else (d.dropMsg q).dropStale q.asReq)
  else if q.kind = .mapref then (d.dropMsg q).mapRsp q m.status
  else if m.status ≠ 0 then (d.dropMsg q).xFailed q m.status
  else if q.cachingRead then
    let d := if part then d else d.dropMsg q
    if m.op = 0x84 then d.answerData q.asReq m.data m.poison else d.answerCpl q.asReq (rspOp m.op)
  else match q.kind with
    | .memWrite | .memWb => if q.home then (d.dropMsg q).wroteHome q else (d.dropMsg q).answerCpl q.asReq (rspOp m.op)
    | .memInv => (d.dropMsg q).answerCpl q.asReq (rspOp m.op)
    | k => d.responded p a q k m.data m.poison

/-- A snoop's answer, a conflict's ack, or a response matched by its tag. -/
def Dev.xepRspAct (d : Dev) (p : Nat) (a : Option Msg) (m : XMsg) : Dev :=
  if 0x88 ≤ m.op ∧ m.op ≤ 0x8A then d.birsp m.oidx m.tag (if m.op = 0x88 then .i else if m.op = 0x89 then .s else .e)
  else if m.op = 0x8B then d.toHost m.oidx .biConflict .biConflictAck [m.addr] 16 false
  else match d.outFor p m.tag with
    | none => d.late p
    | some o => d.xAnswer p a o m

/-- XEPIN_RSP: a response that is forwarded is taken as its header comes (R75); what the device itself acts on when it is whole. -/
def Dev.xepRsp (d : Dev) (p : Nat) (m : XMsg) : Dev :=
  if !(d.isXep p && d.isUp p && !opIsReq m.op && opKnown m.op (d.role p == 4)) then d
  else
    let a := d.xArrival p m
    let m := if a.any (·.poison) then { m with poison := true } else m
    let on := (d.outFor p m.tag).any (fun o => !o.msg.home && !o.msg.cachingRead && o.msg.kind != .mapref)
    if a.any (fun x => !x.dataIn) && !on then d
    else d.withArrival p (16 + 64 * xLines m.op m.status m.len) a (fun d => d.xepRspAct p a m)

def execXepinRsp (p : Fin 64) (m : XMsg) (s : State) := core s (fun d => (d.xepRsp p m).settle)

end Sys2Proof.Machine
end

