-- ==== Sys2Proof/Machine/View.lean ====
section
/-! DEFINITION. BAR0 as read (R7, R389 to R392): registers, the registers that show what the device holds elsewhere, and the table windows. -/
namespace Sys2Proof.Machine

/-! ### Registers -/

/-- A register's fields as stored; a write-only field reads 0 (R6). -/
def Dev.regVal (d : Dev) (off : Nat) : Nat :=
  match findReg off with
  | none => 0
  | some r => (r.flds.filter (fun f => f.acc != .wo)).foldl (fun n f => n + d.get (.mk3 off f.lsb f.w f.rst) * 2 ^ f.lsb) 0

/-- Bits of a predicate on 32 numbers from `lo`. -/
def maskOf (lo n : Nat) (f : Nat → Bool) : Nat := cat ((List.range n).map (fun k => (bit (f (lo + k)), 1)))

/-- An injection channel. -/
def Dev.injCh (d : Dev) (c : Nat) : InjCh := Tbl.get d.inj {} c

/-- Lane i of a stand is out of lane-dormant (R401): its port exists and is neither in lane-dormant nor, with L0P_DORMANT, idled by L0p. -/
def Dev.laneLive (d : Dev) (s i : Nat) : Bool :=
  match d.portOf (4 * s + i / 4) with
  | none => false
  | some p =>
    let pm := d.get (R.PU.LNKSTS.PM p)
    pm != 3 && !(pm == 1 && d.is (R.PU.PMCTL.L0P_DORMANT p) && !d.laneActive p (16 * s + i - 4 * p))

/-- A port unit that is not the lowest of its port (R11). -/
def Dev.covered (d : Dev) (pu : Nat) : Bool := (d.portOf pu).any (· != pu)

/-- Registers of the global blocks that show what the device holds elsewhere. -/
def Dev.liveTop (d : Dev) (off : Nat) : Option Nat :=
  if off = 0x20C then some (bit d.clk.locked + 2 * bit d.clk.holdover + 4 * bit d.clk.onMclk)
  else if off = 0x210 then some (maskOf 0 7 (fun r => !d.clk.railsOut.contains r))
  else if 0x22C ≤ off ∧ off < 0x248 then some (Tbl.get d.clk.railMv 0 ((off - 0x22C) / 4) % 2 ^ 12)
  else if off = 0x30C then some (d.ft % 2 ^ 32)
  else if off = 0x310 then some (d.ft / 2 ^ 32)
  else if off = 0x20004 then some (maskOf 0 4 (fun c => (d.injCh c).done) + 16 * d.get R.FLT.STS.INJ_REJ)
  else if off = 0x20008 then some (bit d.errNLow + 2 * d.errSources.length)
  else if 0x20040 ≤ off ∧ off < 0x20088 then some (maskOf (8 * (off - 0x20040)) 32 d.active)
  else if 0x20200 ≤ off ∧ off < 0x20240 then
    let c := (off - 0x20200) / 16
    if off % 16 = 0 then some (d.regVal off / 2 * 2 + bit (d.injCh c).armed)
    else if off % 16 = 12 then some ((d.injCh c).left + 2 ^ 16 * bit (d.injCh c).armed) else none
  else if off = 0x60010 then some (d.skid.acts.length + 2 ^ 8 * d.bursts.length + 2 ^ 16 * d.skid.ready.length)
  else if off = 0x70004 then some (d.extents.filter (fun x => x.2.st == 2)).length
  else if off = 0x70008 then some (d.extents.filter (fun x => x.2.st == 3)).length
  else if 0x70030 ≤ off ∧ off < 0x70070 then some (maskOf (8 * (off - 0x70030)) 32 (fun s => (d.sl s).st != slFree))
  else if 0x70070 ≤ off ∧ off < 0x700B0 then some (maskOf (8 * (off - 0x70070)) 32 (fun s => (d.sl s).lost))
  else if off = 0x700B0 then some (d.slices.filter (fun x => x.2.st != slFree)).length
  else if off = 0x700B4 then some (d.extents.filter (fun x => x.2.st == 1)).length
  else if off = 0x700B8 then some (d.extents.filter (fun x => x.2.valid && x.2.st == 0)).length
  else none

/-- Registers of the repeated blocks that show what the device holds elsewhere, and those that read zero (R61, R87, R89, R178, R271). -/
def Dev.liveUnit (d : Dev) (off : Nat) : Option Nat :=
  if 0x80000 ≤ off ∧ off < 0x82400 ∧ off % 0x100 = 4 then
    some (d.regVal off + 2 * bit (d.noc.held.any (fun e => domRouter e.1 == (off - 0x80000) / 0x100)))
  else if 0x90000 ≤ off ∧ off < 0x92000 then
    let r := d.slt ((off - 0x90000) / 0x100)
    match off % 0x100 with
    | 0x10 => some (r.mIout % 2 ^ 16 + 2 ^ 16 * (r.mVout % 2 ^ 16))
    | 0x14 => some (r.mPout % 2 ^ 20 + 2 ^ 20 * (r.mVin / 10 % 2 ^ 12))
    | 0x18 => some (r.energy / 1000 % 2 ^ 32)
    | 0x1C => some (r.energy / 1000 / 2 ^ 32 % 2 ^ 32)
    | _ => none
  else if 0x100000 ≤ off ∧ off < 0x140000 then
    let pu := (off - 0x100000) / 0x1000
    if !d.covered pu then none
    else if off % 0x1000 = 8 then some (d.regVal off % 2 ^ 8)
    else if off % 0x1000 = 0x44 then some 0 else none
  else if 0x180000 ≤ off ∧ off < 0x190000 then
    let s := (off - 0x180000) / 0x1000
    if off % 0x1000 = 8 then some (maskOf 0 16 (d.laneLive s))
    else if 0x60 ≤ off % 0x1000 ∧ s % 4 ≠ 0 then some 0 else none
  else if 0x1C0000 ≤ off ∧ off < 0x1D0000 then
    let c := (off - 0x1C0000) / 0x4000
    let o := off % 0x4000
    if o = 0x0C then some ((List.range 16).foldl (fun n b => n + d.buf.free (16 * c + b)) 0)
    else if o = 0x14 ∧ c ≠ 0 then some 0
    else if o = 0x18 then some (if c = 0 then d.buf.poolFree + 2 ^ 18 * d.get (R.CP.POOLSTS.CFG_REJ 0) else 0)
    else if 0x30 ≤ o ∧ o < 0x50 then
      let j := (o - 0x30) / 4
      some (d.buf.free (16 * c + 2 * j) + 2 ^ 16 * d.buf.free (16 * c + 2 * j + 1))
    else if o = 0x50 then some ((List.range 64).foldl (fun n i => n + (d.activeNow (16 * c + i / 4) (i % 4)).length) 0)
    else none
  else if 0x200000 ≤ off ∧ off < 0x210000 then
    let r := d.dir ((off - 0x200000) / 0x1000)
    match off % 0x1000 with
    | 0x14 => some (d.regVal off + 2 ^ 15 * bit (r.rcl.isSome || !r.rclQ.isEmpty))
    | 0x18 => some (r.ents.length + 2 ^ 16 * r.inUse)
    | 0x1C => some ((r.park.filter (·.shared)).length + 2 ^ 9 * (r.park.filter (fun x => !x.shared)).length)
    | _ => none
  else if 0x240000 ≤ off ∧ off < 0x250000 then
    let p := (off - 0x240000) / 0x400
    if !(d.prt p).ex then some 0
    else if off % 0x400 = 8 then some (d.regVal off + 2 ^ 8 * ((d.gateCur p).elim 0 (·.1))) else none
  else none

/-- A register's value as read. -/
def Dev.readReg (d : Dev) (off : Nat) : Nat := ((d.liveTop off).orElse (fun _ => d.liveUnit off)).getD (d.regVal off)

/-! ### Table windows (R391) -/

/-- Word j of a packed entry. -/
def wordOf (x j : Nat) : Nat := bits x (32 * j) 32

/-- The word at an offset of the table windows; past a window's last entry it is zero. -/
def Dev.readTable (d : Dev) (off : Nat) : Nat :=
  let ent := fun (base stride : Nat) => (off - base) / stride
  let word := fun (base stride x : Nat) => wordOf x ((off - base) % stride / 4)
  if off < 0x1008000 then word 0x1000000 64 (packSlice (d.sl (ent 0x1000000 64)))
  else if 0x1010000 ≤ off ∧ off < 0x1020000 then word 0x1010000 16 (packRule (Tbl.get d.rules {} (ent 0x1010000 16)))
  else if 0x1020000 ≤ off ∧ off < 0x1021000 then word 0x1020000 16 (packCWin (Tbl.get d.cwins {} (ent 0x1020000 16)))
  else if 0x1021000 ≤ off ∧ off < 0x1025000 then word 0x1021000 32 (packDlog (Tbl.get d.dlogs {} (ent 0x1021000 32)))
  else if 0x1028000 ≤ off ∧ off < 0x102C000 then word 0x1028000 32 (packPolice (d.police (ent 0x1028000 32)))
  else if 0x102C000 ≤ off ∧ off < 0x102D000 then
    let k := ent 0x102C000 16
    word 0x102C000 16 (packClass (Tbl.get d.sched.written (clsDef k) k))
  else if 0x1030000 ≤ off ∧ off < 0x1050000 then
    let b := d.gcl (ent 0x1030000 0x400)
    let o := (off - 0x1030000) % 0x400
    if o < 16 then wordOf (packGclHdr b) (o / 4)
    else if o < 0x200 then 0
    else wordOf (packGate (Tbl.get b.entries {} ((o - 0x200) / 8))) (o % 8 / 4)
  else if 0x1050000 ≤ off ∧ off < 0x1050000 + 1040 * 64 then word 0x1050000 64 (packQueue (d.qe (ent 0x1050000 64)))
  else if 0x1070000 ≤ off ∧ off < 0x1071000 then xgrpWord d.xgrp (off - 0x1070000)
  else if 0x1072000 ≤ off ∧ off < 0x1074000 then word 0x1072000 16 (packSdump (Tbl.get d.sdumps {} (ent 0x1072000 16)))
  else if 0x1080000 ≤ off ∧ off < 0x1080000 + 10272 * 8 then word 0x1080000 8 (packCtrSel (Tbl.get d.ctrsels {} (ent 0x1080000 8)))
  else if 0x10A0000 ≤ off ∧ off < 0x10A0000 + 10272 * 8 then word 0x10A0000 8 (Tbl.get d.ctrvals 0 (ent 0x10A0000 8))
  else if 0x1100000 ≤ off ∧ off < 0x1180000 then word 0x1100000 8 (packExtent (d.ext (ent 0x1100000 8)))
  else if 0x1200000 ≤ off ∧ off < 0x1300000 then word 0x1200000 8 (packQsamp (Tbl.get d.qsamps {} (ent 0x1200000 8)))
  else if 0x1400000 ≤ off ∧ off < 0x1800000 then
    let r := d.dir (ent 0x1400000 0x40000)
    word 0x1400000 16 (packDir (Tbl.get r.ents {} ((off - 0x1400000) % 0x40000 / 16)))
  else 0

/-! ### Any offset -/

/-- Offsets the manual names as not registers (R208, R349, R364): they read zero and ignore writes (R389). -/
def notReg (off : Nat) : Bool :=
  (0x60100 ≤ off && off < 0x60200 && off % 16 == 0xC) || (0x10100 ≤ off && off < 0x10200 && off % 0x20 == 0x1C) ||
    (0x50040 ≤ off && off < 0x500C0 && off % 0x20 == 0x1C)

/-- The system queues' registers (R388). -/
def isSqBlock (off : Nat) : Bool := 0x68000 ≤ off && off < 0x69000

/-- What a word at an offset reads, or nothing where it decodes to nothing (R389). -/
def Dev.readWord (d : Dev) (off : Nat) : Option Nat :=
  if (bar0Target off).isNone then none
  else if isTable off then some (d.readTable off)
  else if isSqBlock off then some (d.qRegRead (1024 + (off - 0x68000) / 0x100) (off % 0x100))
  else if notReg off then some 0
  else if (findReg off).isSome then some (d.readReg off)
  else none

end Sys2Proof.Machine
end

