-- ==== Sys2Proof/Machine/Access.lean ====
section
/-! DEFINITION. Writes of BAR0 (R6, R388 to R394): what a write of each register does, the writable table windows, and how a device of a pair
takes a write of configuration (R282). A special register's write calls the operation of its own command. -/
namespace Sys2Proof.Machine

/-! ### A write's value (R6, R390) -/

/-- The bits that byte enables select. -/
def beMask (be : Nat) : Nat := cat ((List.range 4).map (fun k => (if hasBit be k then 0xFF else 0, 8)))

/-- `a` where the mask is 0, `b` where it is 1, over `w` bits. -/
def mixBits (a b m w : Nat) : Nat := (a &&& (m ^^^ (2 ^ w - 1))) ||| (b &&& m)

/-- What a field is given: its new value for RW, the bits written as 1 for the others. Fields of a domain `pass` leaves out are given what changes nothing. -/
def Dev.given (d : Dev) (off v be : Nat) (pass : Dom → Bool) (f : FldD) : Nat :=
  let m := bits (beMask be) f.lsb f.w
  let x := bits v f.lsb f.w
  if f.acc = .rw then (if pass f.dom then mixBits (d.get (.mk3 off f.lsb f.w f.rst)) x m f.w else d.get (.mk3 off f.lsb f.w f.rst))
  else if pass f.dom then x &&& m else 0

/-- The whole word a register is given. -/
def Dev.given32 (d : Dev) (off v be : Nat) (pass : Dom → Bool) : Nat :=
  match findReg off with
  | none => 0
  | some r => r.flds.foldl (fun n f => n + d.given off v be pass f * 2 ^ f.lsb) 0

/-- The plain write: RW fields take the word, RW1C bits written as 1 clear (R6). -/
def Dev.putWord (d : Dev) (off w : Nat) : Dev :=
  match findReg off with
  | none => d
  | some r => r.flds.foldl (fun (d : Dev) f =>
      let F := Fld.mk3 off f.lsb f.w f.rst
      let x := bits w f.lsb f.w
      match f.acc with
      | .rw => d.set F x
      | .rw1c => if x = 0 then d else d.set F (d.get F &&& (x ^^^ (2 ^ f.w - 1)))
      | _ => d) d

/-- A plain write with one field that refuses a value: it stays as it was. -/
def Dev.putBut (d : Dev) (off w : Nat) (F : Fld) (ok : Bool) : Dev := if ok then d.putWord off w else (d.putWord off w).set F (d.get F)

/-! ### Status registers (R297, R298) -/

/-- Zero a register's named fields. -/
def Dev.zero (d : Dev) (l : List Fld) : Dev := l.foldl Dev.off d

/-- What else returns to zero when status bits are clear: a corrected-error count with its CE_OVER, and first-fault records with the bits they belong to. -/
def Dev.settleSts (d : Dev) (S : Sts) (m : Nat) : Dev :=
  let ce := fun (d : Dev) (b : Nat) (c : Fld) => if hasBit m b then d.off c else d
  let clear := fun (d : Dev) (bs : List Nat) => bs.all (fun b => !d.is (S.bit b))
  if 0x80000 ≤ S.off ∧ S.off < 0x82400 then ce d 12 (R.NOC.STS.CE_CNT ((S.off - 0x80000) / 0x100))
  else if 0x1C0000 ≤ S.off ∧ S.off < 0x1D0000 then
    let c := (S.off - 0x1C0000) / 0x4000
    if S.off % 0x4000 = 4 then ce d 1 (R.CP.BUFSTS.CE_CNT c)
    else if clear d [1] then d.zero [R.CP.STARVEQ.PORT c, R.CP.STARVEQ.SLICE c, R.CP.STARVEQ.CLASS c, R.CP.STARVEQ.VALID c] else d
  else if 0x200000 ≤ S.off then
    let n := (S.off - 0x200000) / 0x1000
    let d := ce d 2 (R.DS.STS.CE_CNT n)
    if clear d [0, 1] then d.zero [R.DS.ERRLOC.SET n, R.DS.ERRLOC.WAY n, R.DS.ERRLOC.VALID n] else d
  else if S.off = 0x10000 then ce d 9 R.SEC.STS.CE_CNT
  else if S.off = 0x10008 then ce d 4 R.SEC.CURSTS.CE_CNT
  else if S.off = 0x40004 then (if clear d [4] then d.zero [R.PAIR.CMTFAIL.VALID, R.PAIR.CMTFAIL.OFFSET] else d)
  else if S.off = 0x50004 then (if clear d [3] then d.zero [R.TLY.CTRERR.NUMBER, R.TLY.CTRERR.VALID] else d)
  else if S.off = 0x60004 then
    let d := ce d 12 R.DMV.STS.CE_CNT
    if clear d [0, 1] then d.zero [R.DMV.ERRQ.QUEUE, R.DMV.ERRQ.STATUS, R.DMV.ERRQ.VALID] else d
  else d

/-- A write of 1 to bits of a status register: they clear, and what is recorded beside them with them; bits whose cause still holds set again (R298). -/
def Dev.statusWrite (d : Dev) (S : Sts) (m still : Nat) : Dev :=
  let had := (S.faults.map (·.1) ++ S.marked).filter (fun b => hasBit m b && hasBit still b && d.is (S.bit b))
  had.foldl (fun (d : Dev) b => d.raise S b) ((d.clearSts S m).settleSts S m)

/-! ### Gating, debug and injection -/

/-- A stand may be gated while its port units are DISABLED, a directory slice while no coherent window is enabled (R20). DESIGN CHOICE: a window whose enable
under way waits for the slices to wake counts as enabled (R21; log entry 27). -/
def Dev.mayGate (d : Dev) (k : Nat) : Bool :=
  if k < 16 then (List.range 4).all (fun i => d.role (4 * k + i) == 0) else d.cwins.all (fun x => !x.2.en) && d.winchg.all (fun x => x.2.kind != 1)

/-- A write of PWRCTL: GATE, then the bits that clear (R20, R23). -/
def Dev.pwrWrite (d : Dev) (k off w : Nat) : Dev :=
  let d := d.putWord off (w / 2 * 2 + d.get (pwrGate k))
  d.gateReq k (flag w 0) (d.mayGate k)

/-- DBGCTL.HALT_REQ (R399): with the debug master enabled the Curator halts; it does nothing until it restarts. -/
def Dev.haltReq (d : Dev) : Dev :=
  if d.is R.SEC.LCSTS.DBG_EN then Dev.raise { d with mgmt := { d.mgmt with down := true } } .dbg 1 else d

/-- A part and an instance a checker has (R302). -/
def injLegal (chk inst mode part n : Nat) : Bool :=
  n != 0 && (match chk with
  | 0 => inst < 4 && mode == 0 && part == 0
  | 1 => inst < 16 && mode == 0
  | 2 => inst < 16 && mode == 0 && part == 0
  | 3 => inst < 36 && mode == 1
  | 4 => inst == 0 && mode == 0 && part == 0
  | 5 => mode == 0 && part == 0 && hasParity (4 * inst)
  | _ => false)

/-- INJc_CTL.ARM (R301): the channel arms with its other fields, or the arm is refused (R302). -/
def Dev.injArm (d : Dev) (c : Nat) : Dev :=
  if (d.injCh c).armed then d
  else
    let chk := d.get (R.INJ.CTL.CHK c)
    let n := d.get (R.INJ.CNT.N c)
    if injLegal chk (d.get (R.INJ.TGT.INST c)) (d.get (R.INJ.CTL.MODE c)) (d.get (R.INJ.TGT.PART c)) n then
      { d with inj := Tbl.set d.inj {} c { armed := true, chk := chk, inst := d.get (R.INJ.TGT.INST c), part := d.get (R.INJ.TGT.PART c), double := d.is (R.INJ.CTL.DOUBLE c), left := n, done := (d.injCh c).done } }
    else d.on R.FLT.STS.INJ_REJ

/-- INJc_CTL.STOP (R301): an armed channel disarms. -/
def Dev.injStop (d : Dev) (c : Nat) : Dev :=
  if (d.injCh c).armed then { d with inj := Tbl.upd d.inj {} c (fun x => { x with armed := false, left := 0, done := true }) } else d

/-- A write of an injection register (R301, R303): while ARMED is 1 nothing but STOP acts. -/
def Dev.injWrite (d : Dev) (c off w : Nat) : Dev :=
  if (d.injCh c).armed then (if off % 16 = 0 ∧ flag w 3 then d.injStop c else d)
  else
    let d := d.putWord off w
    if off % 16 = 0 ∧ flag w 0 ∧ !flag w 3 then d.injArm c else d

/-! ### Registers by block -/

/-- TOP (R272, R396, R397). -/
def Dev.topWrite (d : Dev) (off w : Nat) : Dev :=
  if off = 0x8 then
    (if flag w 2 then d.off R.TOP.DSTATE.REJ else d).modeWrite (bits w 0 2)
  else if off = 0x214 then d.putBut off w R.TOP.THRCTL.THROTTLE_C (85 ≤ w && w ≤ 105)
  else if off = 0x300 then d.putBut off w R.TOP.FTCTL.SYNC_US (10 ≤ bits w 13 10 && bits w 13 10 ≤ 1000)
  else if off = 0x318 then (if d.ftParent = 0 then d.putWord off w else d)
  else if off = 0x320 then d.ftSet w
  else d.putWord off w

/-- A principal's ring set-up (R323): a changed base or SIZE starts the ring again. -/
def Dev.prinSetup (d : Dev) (p off w : Nat) : Dev :=
  let n := d.putWord off w
  let sz := fun (x : Dev) => (x.get (R.PRIN.CRBL.VALUE p), x.get (R.PRIN.CRBH.VALUE p), x.get (R.PRIN.CPBL.VALUE p), x.get (R.PRIN.CPBH.VALUE p), x.get (R.PRIN.RCTL.SIZE p))
  if sz d = sz n then n else (n.updRing p (fun r => { r with head := 0, fetch := 0, phase := true, written := [] })).off (R.PRIN.DB.TAIL p)

/-- A principal's registers (R323 to R327, R342). -/
def Dev.prinWrite (d : Dev) (p off w : Nat) : Dev :=
  let o := (off - 0x10100) % 0x20
  let en := d.is (R.PRIN.RCTL.EN p)
  if o < 0x10 then (if en then d.secRaise 4 p else d.prinSetup p off w)
  else if o = 0x10 then
    let same := w / 2 == d.regVal off / 2
    if en then
      let d := if flag w 0 ∨ !same then d.secRaise 4 p else d
      if flag w 0 then d else d.detach p
    else
      let d := (d.prinSetup p off (w / 2 * 2))
      if flag w 0 then d.attach p else d
  else if o = 0x14 then (d.putWord off w).eventDeliver p
  else d

/-- Tally's global registers (R364). -/
def Dev.tlyWrite (d : Dev) (off w : Nat) : Dev :=
  let on := d.is R.TLY.CTL.SNAP_EN
  if off = 0x50000 then
    let ok := 1 ≤ bits w 0 20 && bits w 0 20 ≤ 1000000
    let d := if ok then d.set R.TLY.CTL.PERIOD_US (bits w 0 20) else d.raise .tly tlyRej
    if flag w 20 then d.snapEnable else d.off R.TLY.CTL.SNAP_EN
  else if off = 0x5000C then
    if on ∨ bits w 8 4 < 2 ∨ 12 < bits w 8 4 then d.raise .tly tlyRej else d.putWord off w
  else if off = 0x50010 ∨ off = 0x50014 then (if on then d.raise .tly tlyRej else d.putWord off w)
  else d.putWord off w

/-- A Landing channel's registers (R363, R364). -/
def Dev.ldWrite (d : Dev) (c off w : Nat) : Dev :=
  let o := (off - 0x50040) % 0x20
  let still := d.is (R.LD.LCTL.EN c) || d.is (R.LD.LCTL.BUSY c)
  if o = 0 then
    let keep := w / 4 == d.regVal off / 4
    let en := d.is (R.LD.LCTL.EN c)
    if !keep ∧ (still ∨ bits w 6 5 < 6 ∨ 16 < bits w 6 5) then d.raise .tly tlyRej
    else
      let n := d.putWord off (w / 2 * 2 + bit en)
      if flag w 0 = en then n
      else if en then n.landDisable c
      else
        let m := n.landEnable c
        if m.is (R.LD.LCTL.EN c) then m else d.raise .tly tlyRej
  else if o = 8 ∨ o = 0xC ∨ o = 0x10 then (if still then d.raise .tly tlyRej else d.putWord off w)
  else d.putWord off w

/-- The Skidder's global registers (R208). -/
def Dev.dmvWrite (d : Dev) (off w : Nat) : Dev :=
  if off = 0x60000 then
    let a := 1 ≤ bits w 0 7 && bits w 0 7 ≤ 64
    let b := 1 ≤ bits w 16 10 && bits w 16 10 ≤ 1000
    let n := (d.putBut off w R.DMV.CTL.ACT_MAX a)
    let n := if b then n else n.set R.DMV.CTL.STALL_US (d.get R.DMV.CTL.STALL_US)
    if a && b then n else n.raise .dmv dmvRej
  else d.putWord off w

/-- A timer's registers (R208). -/
def Dev.tmrWrite (d : Dev) (t off w : Nat) : Dev :=
  if off % 16 = 8 then d.timerConfig t w
  else if d.is (R.TMR.CFG.EN t) then d.raise .dmv dmvRej
  else d.putWord off w

/-- Shunt codes in half milliohms (R308). -/
def shuntOf (c : Nat) : Nat := [1, 2, 3, 4, 5, 6, 8, 10].getD c 10

/-- A slot's CTL and LIM (R308): only in OFF and LATCHED, only legal values; EN belongs to the slot commands. -/
def Dev.sltWrite (d : Dev) (n off w : Nat) : Dev :=
  if off % 0x100 = 0 ∨ off % 0x100 = 4 then
    let lim := off % 0x100 == 4
    let x := d.putWord off w
    let ok := if lim then 500 ≤ bits w 0 14 && bits w 0 14 ≤ 9000 && 90 ≤ bits w 16 8 && bits w 16 8 ≤ 120 && 125 ≤ bits w 24 8 && bits w 24 8 ≤ 140
      else bits w 8 3 < 5 && bits w 17 3 < 6
    if (d.slotSt n = 0 ∨ d.slotSt n = 6) ∧ ok ∧ x.get (R.SLT.LIM.ILIM n) * shuntOf (x.get (R.SLT.CTL.SHUNT n)) ≤ 60000 then x
    else d.raise (.slt n) 7
  else d.putWord off w

/-- A port unit's registers (R44, R45, R51, R57, R59, R60, R61, R84, R87, R400). PU.EPOCH of a unit that is not the lowest of its port takes no write (R87).
DESIGN CHOICE: a write that gives a running PRBS the refused rate 6 changes nothing (R59; log entry 142). -/
def Dev.puWrite (d : Dev) (p off w : Nat) : Dev :=
  let o := off % 0x1000
  if o = 0 then (if d.is (R.PU.LNKCTL.ENABLE p) then d.raise (.pu p) puREJ else d.putWord off w)
  else if o = 4 then
    let us := bits w 8 10
    let ok := 1 ≤ us && us ≤ 1000
    let d := (if ok then d.set (R.PU.LNKCTL.LOCK_LOSS_US p) us else d.raise (.pu p) puREJ).put (R.PU.LNKCTL.DIAG p) (flag w 2)
    let d := if flag w 0 then d.linkEnable p else d.linkDisable p
    if flag w 1 then d.retrain p else d
  else if o = 0xC then
    let n := (d.putWord off w).set (R.PU.PMCTL.L0P_WIDTH p) (d.get (R.PU.PMCTL.L0P_WIDTH p))
    if bits w 2 3 = d.get (R.PU.PMCTL.L0P_WIDTH p) then n else n.l0pWidth p (bits w 2 3)
  else if o = 0x28 then (if d.is (R.PU.LNKSTS.IDE_ACT p) then d.raise (.pu p) puREJ else d.putWord off w)
  else if o = 0x30 then
    let run := d.is (R.PU.PRBSCTL.RUN p)
    if run && flag w 0 && bits w 4 3 == 6 && !xepStand p then d.raise (.pu p) puREJ
    else
      let n := (d.putWord off w).put (R.PU.PRBSCTL.RUN p) (run && flag w 0)
      if flag w 0 ∧ !run then n.prbsRun p else n
  else if o = 0x3C then
    let n := d.putWord off w
    if flag w 0 then n.eyeStart p (bits w 1 2) else n
  else if o = 0x44 then
    if d.covered p then d
    else if bits w 8 13 ≤ 5000 then d.putWord off w else d.raise (.pu p) puREJ
  else d.putWord off w

/-- A stand's registers (R23, R271, R401). -/
def Dev.stWrite (d : Dev) (s off w : Nat) : Dev :=
  let o := off % 0x1000
  if o = 0 then d.pwrWrite s off w else if 0x60 ≤ o ∧ s % 4 ≠ 0 then d else d.putWord off w

/-- A compartment's registers (R89). -/
def Dev.cpWrite (d : Dev) (c off w : Nat) : Dev :=
  let o := off % 0x4000
  if (o = 0x14 ∨ o = 0x18) ∧ c ≠ 0 then d
  else if o = 0x14 then (if bits w 0 18 ≤ 131072 then d.putWord off w else d.on (R.CP.POOLSTS.CFG_REJ 0))
  else d.putWord off w

/-- A directory slice's registers (R111, R122, R125, R131). -/
def Dev.dsWrite (d : Dev) (n off w : Nat) : Dev :=
  let o := off % 0x1000
  if o = 0 then d.pwrWrite (16 + n) off w
  else if o = 4 then
    let ok := 10 ≤ bits w 0 14 && bits w 0 14 ≤ 10000
    let x := d.putBut off w (R.DS.CTL.RSP_TMO_US n) ok
    let x := if ok then x else x.raise (.ds n) 8
    if flag w 14 then x.predClr n else x
  else if o = 0x10 then (if flag w 0 then d.recallStart n (bits w 1 2) (bits w 3 8) (bits w 11 6) else d.putWord off w)
  else d.putWord off w

/-- A port's scheduler registers (R172 to R178). -/
def Dev.schWrite (d : Dev) (p off w : Nat) : Dev :=
  if !(d.prt p).ex then d
  else if off % 0x400 = 0 ∨ off % 0x400 = 4 then d.shaperWrite p (off % 0x400 == 4) w
  else
    let d := if flag w 0 then d.gateEnable p else d.off (R.SCH.GCTL.EN p)
    if flag w 2 then d.gateSwap p else d

/-- A protection record's PVSTS (R147, R160). -/
def Dev.pvWrite (d : Dev) (chk off w : Nat) : Dev :=
  let d := d.put (.mk3 off 2 1 0) (flag w 2)
  if flag w 0 then d.vioClear chk else d

/-- A register takes a word. -/
def Dev.specialWrite (d : Dev) (off w : Nat) : Dev :=
  match stsAt off with
  | some S => d.statusWrite S w 0
  | none =>
  if off < 0x1000 then d.topWrite off w
  else if 0x10100 ≤ off ∧ off < 0x10200 then d.prinWrite ((off - 0x10100) / 0x20) off w
  else if off = 0x1084C then (if flag w 0 then d.haltReq else d)
  else if off = 0x20004 then
    let d := if flag w 4 then d.off R.FLT.STS.INJ_REJ else d
    { d with inj := (List.range 4).foldl (fun (t : Tbl InjCh) c => if hasBit w c then Tbl.upd t {} c (fun x => { x with done := false }) else t) d.inj }
  else if 0x20200 ≤ off ∧ off < 0x20240 then d.injWrite ((off - 0x20200) / 16) off w
  else if off = 0x30018 then (if 1 ≤ bits w 0 7 && bits w 0 7 ≤ 100 then d.putWord off w else d)
  else if 0x50000 ≤ off ∧ off < 0x50040 then d.tlyWrite off w
  else if 0x50040 ≤ off ∧ off < 0x500C0 then d.ldWrite ((off - 0x50040) / 0x20) off w
  else if 0x60000 ≤ off ∧ off < 0x60100 then d.dmvWrite off w
  else if 0x60100 ≤ off ∧ off < 0x60200 then d.tmrWrite ((off - 0x60100) / 16) off w
  else if off = 0x70000 then (if 1 ≤ bits w 0 7 && bits w 0 7 ≤ 100 then d.putWord off w else d)
  else if off = 0x70010 then d.pvWrite 16 off w
  else if off = 0x70020 then d.pvWrite 17 off w
  else if 0x80000 ≤ off ∧ off < 0x82400 then d.localEn ((off - 0x80000) / 0x100) w
  else if 0x90000 ≤ off ∧ off < 0x92000 then d.sltWrite ((off - 0x90000) / 0x100) off w
  else if 0x100000 ≤ off ∧ off < 0x140000 then d.puWrite ((off - 0x100000) / 0x1000) off w
  else if 0x180000 ≤ off ∧ off < 0x190000 then
    let s := (off - 0x180000) / 0x1000
    if off % 0x1000 = 0x40 then d.pvWrite s off w else d.stWrite s off w
  else if 0x1C0000 ≤ off ∧ off < 0x1D0000 then d.cpWrite ((off - 0x1C0000) / 0x4000) off w
  else if 0x200000 ≤ off ∧ off < 0x210000 then d.dsWrite ((off - 0x200000) / 0x1000) off w
  else if 0x240000 ≤ off ∧ off < 0x250000 then d.schWrite ((off - 0x240000) / 0x400) off w
  else d.putWord off w

/-! ### Writable table windows (R391) -/

/-- An entry's packed value with word j replaced under the byte enables. -/
def putWordOf (x j v be : Nat) : Nat :=
  let o := wordOf x j
  x - o * 2 ^ (32 * j) + mixBits o (v % 2 ^ 32) (beMask be) 32 * 2 ^ (32 * j)

/-- A gate list bank takes no write while it is operational or a swap to it is pending, with EN at 1 (R175). -/
def Dev.bankShut (d : Dev) (b : Nat) : Bool :=
  let p := b / 2
  (d.prt p).ex && d.is (R.SCH.GCTL.EN p) && (b == d.operBank p || d.is (R.SCH.GCTL.SWAP p))

/-- A word written to a bank (R175). -/
def GclBank.write (g : GclBank) (o v be : Nat) : GclBank :=
  if o < 16 then
    let x := putWordOf (packGclHdr g) (o / 4) v be
    { g with base := bits x 0 64, last := bits x 64 6 }
  else if o < 0x200 then g
  else
    let k := (o - 0x200) / 8
    { g with entries := Tbl.set g.entries {} k (unpackGate (putWordOf (packGate (Tbl.get g.entries {} k)) (o % 8 / 4) v be)) }

/-- A change of configuration where the write made one and has not counted it. -/
def Dev.counted (old new : Dev) (changed : Bool) : Dev := if changed && new.cfgSeq == old.cfgSeq then new.cfgChange else new

/-- A write of a table window; read-only windows ignore it (R392). `be` 255: both words of a counter selector at once. -/
def Dev.tableWrite (d : Dev) (off v be : Nat) : Dev :=
  if 0x102C000 ≤ off ∧ off < 0x102D000 then
    let k := (off - 0x102C000) / 16
    let j := off % 16 / 4
    let e := unpackClass (putWordOf (packClass (Tbl.get d.sched.written (clsDef k) k)) j v be)
    let d := { d with sched := { d.sched with written := Tbl.set d.sched.written (clsDef k) k e } }
    if j = 3 then
      let n := d.clsCommit (k / 4) (k % 4)
      d.counted n (n.classes != d.classes)
    else d
  else if 0x1030000 ≤ off ∧ off < 0x1050000 then
    let b := (off - 0x1030000) / 0x400
    if d.bankShut b then d.raise (.sch (cpOf (b / 2))) 0
    else
      let n := (d.gcl b).write ((off - 0x1030000) % 0x400) v be
      d.counted { d with gcls := Tbl.set d.gcls {} b n } (n != d.gcl b)
  else if off = 0x1070000 then
    let x := putWordOf (cat [(d.xgrp.fabricId, 8), (bit d.xgrp.rebal, 1)]) 0 v be
    let busy := (List.range 64).any (fun p => d.is (R.PU.LNKCTL.ENABLE p) && (d.role p == 3 || d.role p == 4))
    let n := { d.xgrp with fabricId := if busy then d.xgrp.fabricId else bits x 0 8, rebal := flag x 8 }
    let e := d.counted { d with xgrp := n } (n != d.xgrp)
    if busy && hasBit be 0 then e.raise (.xep 0) 6 else e
  else if 0x1072000 ≤ off ∧ off < 0x1074000 then
    let k := (off - 0x1072000) / 16
    let e := Tbl.get d.sdumps {} k
    let n := unpackSdump (putWordOf (packSdump e) (off % 16 / 4) v be)
    d.counted { d with sdumps := Tbl.set d.sdumps {} k n } (n != e)
  else if 0x1080000 ≤ off ∧ off < 0x1080000 + 10272 * 8 then
    let k := (off - 0x1080000) / 8
    d.counterSelect k (if be = 255 then v else putWordOf (packCtrSel (Tbl.get d.ctrsels {} k)) (off % 8 / 4) v be)
  else d

/-! ### Writes -/

/-- A ring tail or event index: progress, not configuration (R280). -/
def isTail (off : Nat) : Bool := 0x10100 ≤ off && off < 0x10200 && off % 0x20 == 0x14

/-- A register has a field a write acts on in a domain that `pass` admits. -/
def touches (off : Nat) (pass : Dom → Bool) : Bool :=
  match findReg off with
  | none => false
  | some r => r.flds.any (fun f => f.acc != .ro && pass f.dom)

/-- The part of a write (of DSTATE, one that enables its byte 0) that lies in the domains `pass` admits takes effect (R6, R214, R221, R393). Table windows are CAT. -/
def Dev.writePart (d : Dev) (off v be : Nat) (pass : Dom → Bool) : Dev :=
  if isTable off then (if pass .cat then d.tableWrite off v be else d)
  else if touches off pass && (off != 8 || hasBit be 0) then
    let n := d.specialWrite off (d.given32 off v be pass)
    d.counted n (!isTail off && catVal d.regs off != catVal n.regs off)
  else d

/-- What a write would change in the configuration a pair shares. -/
def Dev.sharedChange (d : Dev) (off v be : Nat) : List Item := catDiff (d.image 1) ((d.writePart off v be (· == .cat)).image 1) false

/-- A BAR0 write at a stop (R282): what a pair shares waits for the commit engine, everything else takes effect at once. Writes of CAT state have
no effect from P0 (R214), all writes in SAVED and SAFE (R221). -/
def Dev.bar0Write (d : Dev) (off v be : Nat) : Dev :=
  if 7 ≤ d.get R.PRS.STATE.SEQ ∨ be % 16 = 0 then d
  else
    let all := fun (x : Dom) => x != .cat || !d.saving
    if isSqBlock off then
      let q := 1024 + (off - 0x68000) / 0x100
      if d.saving ∨ 8 ≤ d.sqOwner q then d
      else
        let cur := d.qRegRead q (off % 0x100)
        let m := beMask be
        let w := if off % 0x100 = 4 then v &&& m else if off % 0x100 = 0 then mixBits (cur / 8 * 8 + cur % 2) (v % 2 ^ 32) m 32 else mixBits cur (v % 2 ^ 32) m 32
        d.mirrorQueue (d.qRegWrite q (off % 0x100) w) q
    else if d.committing && !d.saving && !ownReg off && !(d.sharedChange off v be).isEmpty then
      (d.writePart off v be (· != .cat)).submit (.reg off v be)
    else d.writePart off v be all

/-- A write of a word, with the parity check of the register it updates (R300). -/
def Dev.writeWord (d : Dev) (off v be : Nat) : Dev := (d.parityCheck off).bar0Write off v be

end Sys2Proof.Machine
end

