-- ==== Sys2Proof/Machine/Bar.lean ====
section
/-! DEFINITION. Register and table packets at their target (R26, R27, R30, R31, R389 to R392, R402), register writes, and the sideband (R344). -/
namespace Sys2Proof.Machine

/-! ### Packets at the stop they are for -/

/-- The stop serves the address: it decodes, at this stop, to a register for the register types and to a window for the table types (R402). -/
def Dev.serves (d : Dev) (p : Packet) : Bool :=
  bar0Target p.addr == some (p.dst, p.dstPort) && (2 ≤ p.typ) == isTable p.addr && (d.readWord (p.addr / 4 * 4)).isSome

/-- Words in 128-bit flits, four to a flit. -/
def toFlits : Nat → List Nat → List Nat
  | 0, _ => []
  | _, [] => []
  | n + 1, l => cat ((l.take 4).map (fun w => (w, 32))) :: toFlits n (l.drop 4)

/-- The words a read packet asks for. -/
def Packet.offs (p : Packet) : List Nat := (List.range (max 1 p.dwcnt)).map (fun i => p.addr / 4 * 4 + 4 * i)

/-- CFG_RD, TBL_RD (R26, R27, R300, R392): answered with the data, or with NO_TARGET. Each register's parity is checked as it is read. -/
def Dev.packetRead (d : Dev) (p : Packet) : Dev :=
  let d := d.take p
  if d.serves p then
    let d := p.offs.foldl Dev.parityCheck d
    d.reply p 4 0 (toFlits p.dwcnt.succ (p.offs.map (fun o => (d.readWord o).getD 0)))
  else d.reply p 4 4 []

def execCfgRd (pkt : Packet) (s : State) := core s (fun d => if pkt.typ = 0 then d.packetRead pkt else d)
def execTblRd (pkt : Packet) (s : State) := core s (fun d => if pkt.typ = 2 then d.packetRead pkt else d)

/-- The words a write packet carries, each with its offset and byte enables: those of a single word ride in bits [35:32] of its flit. -/
def Packet.words (p : Packet) : List (Nat × Nat × Nat) :=
  if p.dwcnt ≤ 1 then [(p.addr / 4 * 4, bits (p.data.headD 0) 0 32, bits (p.data.headD 0) 32 4)]
  else (List.range p.dwcnt).map (fun i => (p.addr / 4 * 4 + 4 * i, bits (p.data.getD (i / 4) 0) (32 * (i % 4)) 32, 15))

/-- CFG_WR, TBL_WR (R26, R30, R31): poisoned data is not written; a write whose end-to-end CRC differs is discarded and sets CRC_FAIL; each write is
acknowledged. -/
def Dev.packetWrite (d : Dev) (p : Packet) : Dev :=
  let d := d.take p
  if p.poison then d.reply p 5 5 []
  else if p.e2e ∧ p.crc ≠ p.crc32 then (d.raise (.noc p.dst) bCRC).reply p 5 3 []
  else if d.serves p then (p.words.foldl (fun (d : Dev) w => d.writeWord w.1 w.2.1 w.2.2) d).reply p 5 0 []
  else d.reply p 5 4 []

def execCfgWr (pkt : Packet) (s : State) := core s (fun d => if pkt.typ = 1 then (d.packetWrite pkt).settle else d)
def execTblWr (pkt : Packet) (s : State) := core s (fun d => if pkt.typ = 3 then (d.packetWrite pkt).settle else d)

/-! ### Accesses by offset -/

/-- The switched domain an offset's unit lies in; PWRCTL is served from outside it (R23). -/
def offDomain (off : Nat) : Option Nat :=
  match bar0Target off with
  | some (r, 0) => if (0x180000 ≤ off && off < 0x190000 || 0x200000 ≤ off && off < 0x210000) && off % 0x1000 == 0 then none else routerDom r
  | _ => none

/-- An access to a unit in a gated domain wakes it (R7, R23). -/
def Dev.wakeFor (d : Dev) (off : Nat) : Dev :=
  match offDomain off with
  | none => d
  | some k => d.wake k

/-- REGISTER_WRITE (R6, R390): any register without a row of its own. -/
def Dev.regWrite (d : Dev) (off v be : Nat) : Dev :=
  let o := off / 4 * 4
  if (d.readWord o).isNone then d else (d.wakeFor o).writeWord o v (be % 16)

def execRegisterWrite (off : Nat) (value : Word) (be : Nat) (s : State) := core s (fun d => (d.regWrite off value.toNat be).settle)

/-- GATE_REQUEST (R20, R22, R23): a write of a domain's PWRCTL.GATE. -/
def execGateRequest (k : Fin 32) (gate : Bool) (s : State) := bar s (fun d => d.gateReq k gate (d.mayGate k))

/-- SIDEBAND_ACCESS (R344): MCTP, SPDM, or a register read; a write has no effect. -/
def Dev.sideband (d : Dev) (a : SbAcc) : Dev :=
  match a with
  | .mctp op => d.fmApi .mctpSideband op
  | .spdm => if d.mgmt.down || d.mgmt.dead then d else d.emit .sideband .spdm []
  | .regRead off =>
    let o := off / 4 * 4
    match d.readWord o with
    | none => d.emit .sideband .sbData [o]
    | some _ =>
      let d := (d.wakeFor o).parityCheck o
      d.emit .sideband .sbData [o, (d.readWord o).getD 0]
  | .regWrite _ _ => d

def execSidebandAccess (a : SbAcc) (s : State) := core s (fun d => d.sideband a)

end Sys2Proof.Machine
end

