-- ==== Sys2Proof/Machine/DataCmds.lean ====
section
/-! DEFINITION. The commands of scheduling (R161 to R180), of the Skidder (R181 to R208) and of Tally (R350 to R364): one meaning each. -/
namespace Sys2Proof.Machine

def execEgressSelect (p : Fin 64) (err : Ecc) (s : State) := core s (fun d => d.select p err)

def execGateListSwap (p : Fin 64) (s : State) := catBar s (fun d => d.gateSwap p)

def execBankSwap (p : Fin 64) (s : State) := core s (fun d => d.bankSwap p)

def execFragmentRead (q : Fin 1040) (slot : Nat) (dst : Bool) (result : RdResult) (entries : List Nat) (ue : Bool) (s : State) :=
  core s (fun d => d.fragRead q slot dst result entries ue)

def execScrubComplete (ext : Fin 65536) (ok : Bool) (s : State) := core s (fun d => d.scrubDone ext ok)

/-- ADM_STALL (R208): a system burst has waited for reserve cells longer than STALL_US. -/
def execAdmStall (s : State) := core s (fun d => if d.skid.acts.any (fun a => !isTenant a.q && a.waits) then d.raise .dmv dmvAdmStall else d)

def execQueueEnable (q : Fin 1040) (s : State) := core s (fun d => d.onQueue q 0 1 (fun d => d.queueEnable q))

def execQueueDisable (q : Fin 1040) (s : State) := core s (fun d => d.onQueue q 0 0 (fun d => d.queueDisable q))

def execQueueAbort (q : Fin 1040) (s : State) := core s (fun d => d.onQueue q 0 2 (fun d => d.queueAbort q))

def execQueueResume (q : Fin 1040) (s : State) := core s (fun d => d.onQueue q 0 4 (fun d => d.queueResume q))

def execTailWrite (q : Fin 1040) (value : Nat) (s : State) := core s (fun d => d.onQueue q 8 value (fun d => d.tailWrite q value))

def execSnapshotBoundary (s : State) := core s Dev.snapBoundary

def execSnapshotRecordWrite (ok : Bool) (s : State) := core s (fun d => (d.snapWrite ok).settle)

def execSamplerVisit (s : State) := core s Dev.sample

def execLandingRecordWrite (ch : Fin 4) (ok : Bool) (s : State) := core s (fun d => (d.landWrite ch ok).settle)

end Sys2Proof.Machine
end

