-- ==== Sys2Proof/Machine/Debug.lean ====
section
/-! DEFINITION. The debug master (R138, R145, R146, R158, R159), the TAP and boundary scan (R399). -/
namespace Sys2Proof.Machine

/-- An error response at the debug access port: DAP_ERR (R399). -/
def Dev.dbgErr (d : Dev) (addr : Nat) : Dev := ((d.addSat R.SEC.DAPERRCNT.VALUE 1).raise .dbg 0).emit .debug .dbgErr [addr]

/-- A refused debug access (R146, R147): an error response and a record of the debug checker. DESIGN CHOICE: an access that no slice has is recorded with
slice 0 and that slice's port; the spec names no port for it (log entry 174). -/
def Dev.dbgRefuse (d : Dev) (slice : Nat) (r : Deny) (addr : Nat) : Dev :=
  (d.pvRecord pvDbg slice (d.sl slice).port 3 r addr false false).dbgErr addr

/-- A served debug access. -/
def Dev.dbgServed (d : Dev) : Dev := d.addMod R.SEC.DAPCNT.VALUE 1

/-- A locked region (R158): admitted in RMA only, each refusal recorded. -/
def Dev.dbgLocked (d : Dev) (what : Nat) : Dev :=
  if d.is R.SEC.LCSTS.DBG_EN ∧ d.get R.SEC.LCSTS.STATE = 3 then (d.dbgServed).emit .debug .dbgData [what] else d.dbgRefuse (d.get R.SEC.DAPCTL.SLICE) { kind := 4 } what

/-- DEBUG_ACCESS (R138, R145, R158, R159). While the debug master is not enabled it reaches nothing: an error, and a record where what it asks for is locked. A pool access is attributed to the slice in DAPCTL, translated
and checked as source 3, and goes to memory as a read or write that caches nothing; the word memory gives comes with the command. -/
def Dev.dbgAccess (d : Dev) (a : DbgAcc) : Dev :=
  let en := d.is R.SEC.LCSTS.DBG_EN
  match a with
    | .keyStore => d.dbgLocked 0
    | .curatorMem => d.dbgLocked 1
    | .cat e => if (d.ext e).cat then d.dbgLocked (e * 2 ^ 30) else if !en then d.dbgErr (e * 2 ^ 30) else d.dbgRefuse (d.get R.SEC.DAPCTL.SLICE) { kind := 0 } (e * 2 ^ 30)
    | .pool wr addr v =>
      let d := (d.set R.SEC.DAPADDRL.VALUE addr).set R.SEC.DAPADDRH.VALUE (addr / 2 ^ 32)
      let s := d.get R.SEC.DAPCTL.SLICE
      let r : Except Deny Nat := if (d.sl s).st = slFree then .error { kind := 5 } else d.checkPart s addr 3 (if wr then 2 else 1)
      match r with
      | .error y => if !en ∧ y.kind ≠ 4 then d.dbgErr addr else d.dbgRefuse (if y.kind = 5 then 0 else s) y addr
      | .ok pool =>
        if !en then d.dbgErr addr else
        let b := pool % 64 / 4 * 4
        let d := d.dbgServed.dirReq { src := .dev, cls := if wr then .ncw else .ncr, pool := pool, slice := s, data := v % 2 ^ 32 * 2 ^ (8 * b), be := 15 * 2 ^ b }
        if wr then d.emit .debug .dbgData [addr] else (d.set R.SEC.DAPDATA.VALUE v).emit .debug .dbgData [addr, v % 2 ^ 32]

def execDebugAccess (a : DbgAcc) (s : State) := core s (fun d => (d.dbgAccess a).settle)

/-- HALT_REQ (R399). -/
def execHaltReq (s : State) := bar s Dev.haltReq

/-- TAP_RESET_EXIT (R399): the TAP leaves reset; not a fault. -/
def execTapResetExit (s : State) := core s (fun d => (d.raise .lc 3).emit .debug .tapRsp [])

/-- BOUNDARY_SCAN_LOAD (R399): a boundary-scan instruction is in force; not a fault. -/
def execBoundaryScanLoad (s : State) := core s (fun d => (d.on R.SEC.BSCANSTS.ACTIVE).raise .dbg 2)

end Sys2Proof.Machine
end

