-- ==== Sys2Proof/Machine/Shared.lean ====
section
/-! DEFINITION. Rows that stand for one write of shared configuration (R44, R51, R171, R173, R176, R208, R351, R357, R363). In a pair such a write takes
effect at GO (R283), as REGISTER_WRITE's does. -/
namespace Sys2Proof.Machine

/-- A CAT write with a row of its own: in a pair what it would change waits for the commit engine; alone it acts at once. -/
def Dev.sharedRow (d : Dev) (off v be : Nat) (f : Dev → Dev) : Dev :=
  if d.committing && !(d.sharedChange off v be).isEmpty then d.submit (.reg off v be) else f d

/-- The CAT bits of a register with one field replaced. -/
def Dev.withFld (d : Dev) (f : Fld) (v : Nat) : Nat := catVal (d.set f v).regs (f.key / 32)

/-- A CAT field of a register is written. -/
def Dev.sharedFld (d : Dev) (f : Fld) (v : Nat) (g : Dev → Dev) : Dev := d.sharedRow (f.key / 32) (d.withFld f v) 15 g

def execLinkDisable (p : Fin 64) (s : State) := catBar s (fun d => ((d.wakePu p).sharedFld (R.PU.LNKCTL.ENABLE p) 0 (fun d => d.linkDisable p)).settle)
def execLinkEnable (p : Fin 64) (s : State) := catBar s (fun d => (d.wakePu p).sharedFld (R.PU.LNKCTL.ENABLE p) 1 (fun d => d.linkEnable p))
def execL0pWidthChange (p : Fin 64) (width : Fin 8) (s : State) := catBar s (fun d => (d.wakePu p).sharedFld (R.PU.PMCTL.L0P_WIDTH p) width (fun d => d.l0pWidth p width))

/-- CLASS_ENTRY_COMMIT (R171): the write of an entry's last word. -/
def execClassEntryCommit (p : Fin 64) (cls : Fin 4) (s : State) :=
  catBar s (fun d =>
    let k := 4 * p.val + cls.val
    let w := wordOf (packClass (Tbl.get d.sched.written (clsDef cls) k)) 3
    d.sharedRow (0x102C00C + 16 * k) w 15 (fun d => d.tableWrite (0x102C00C + 16 * k) w 15))

/-- PORT_SHAPER_WRITE (R173, R178). -/
def execPortShaperWrite (p : Fin 64) (burst : Bool) (value : Word) (s : State) :=
  catBar s (fun d =>
    let off := 0x240000 + 0x400 * p.val + 4 * bit burst
    d.sharedRow off value.toNat 15 (fun d => d.writePart off value.toNat 15 (fun _ => true)))

def execGateListEnable (p : Fin 64) (s : State) := catBar s (fun d => d.sharedFld (R.SCH.GCTL.EN p) 1 (fun d => d.gateEnable p))

def execTimerConfig (t : Fin 16) (value : Word) (s : State) :=
  catBar s (fun d => d.sharedRow (0x60108 + 16 * t.val) value.toNat 15 (fun d => d.timerConfig t value.toNat))

def execCounterSelect (i : Fin 10272) (lo hi : Word) (s : State) :=
  catBar s (fun d =>
    let x := lo.toNat + 2 ^ 32 * hi.toNat
    d.sharedRow (0x1080000 + 8 * i.val) x 255 (fun d => d.counterSelect i x))

def execSnapshotEnable (s : State) := catBar s (fun d => d.sharedFld R.TLY.CTL.SNAP_EN 1 Dev.snapEnable)
def execLandingEnable (ch : Fin 4) (s : State) := catBar s (fun d => d.sharedFld (R.LD.LCTL.EN ch) 1 (fun d => d.landEnable ch))
def execLandingDisable (ch : Fin 4) (s : State) := catBar s (fun d => d.sharedFld (R.LD.LCTL.EN ch) 0 (fun d => d.landDisable ch))

end Sys2Proof.Machine
end

