-- ==== Sys2Proof/Machine/Engine.lean ====
section
/-! DEFINITION. The two-phase commit of a pair (R282 to R285): the commit engine, its messages, the completions that wait for it. -/
namespace Sys2Proof.Machine

/-! ### Messages over the mirror link -/

/-- The results of a MACK (R279). -/
abbrev mOk : Nat := 0
abbrev mFail : Nat := 1
abbrev mBusy : Nat := 2

/-- Send a MACK. -/
def Dev.sendMack (d : Dev) (mid result code : Nat) : Dev := d.txByp 8 (mackBytes result code mid d.cfgSeq) d.cfgSeq

/-- Send a MACK that a repeat of its message gets again (R284). -/
def Dev.giveMack (d : Dev) (mid result code : Nat) : Dev :=
  Dev.sendMack { d with commit := { d.commit with given := ((mid, result, code) :: d.commit.given.filter (fun g => g.1 != mid)).take 2048 } } mid result code

/-- The MACK already given to a message. -/
def Dev.givenMack (d : Dev) (mid : Nat) : Option (Nat × Nat × Nat) := d.commit.given.find? (fun g => g.1 == mid)

/-- A message of the partner takes effect once: a repeat gets its MACK again (R284). -/
def Dev.onceMid (d : Dev) (mid : Nat) (f : Dev → Dev) : Dev :=
  match d.givenMack mid with
  | some g => d.sendMack g.1 g.2.1 g.2.2
  | none => f d

/-! ### Changes -/

/-- The CAT domain. -/
def catOnly (x : Dom) : Bool := match x with
  | .cat => true
  | _ => false

/-- CFG_SEQ, the changes not journaled and their count are those of `old` after one change (R282): a commit counts as one. -/
def Dev.seqFrom (d old : Dev) : Dev :=
  (({ d with prs := { d.prs with chg := old.prs.chg } }.setCfgSeq old.cfgSeq).set R.PRS.JRNSTS.PEND (old.get R.PRS.JRNSTS.PEND)).cfgChange

/-- The principal whose command the change is. -/
def Change.prin : Change → Option Nat
  | .cmd p _ _ => some p
  | .refused p _ _ => some p
  | _ => none

/-- One change, and whose command it was. -/
def Dev.seqBy (d old : Dev) (who : Option Nat) : Dev := who.elim (d.seqFrom old) (d.seqFrom old).changedBy

/-- What a command would change in the configuration a pair shares. -/
def Dev.cmdItems (d : Dev) (p : Nat) (c : PyrCmd) (x : Nat) : List Item := catDiff (d.image 1) ((d.cmdApply p c x).1.image 1) false

/-- An item of a queue entry: already in effect where the device's own queues made the change. -/
def Item.isQueue (i : Item) : Bool := 0x1050000 ≤ i.loc && i.loc < 0x1070000

/-- A command reaches its commit point (R331): its counter is consumed, its record is kept, the next one may be fetched. -/
def Dev.recordCmd (d : Dev) (p : Nat) (c : PyrCmd) (r : Res) (long : Bool) : Dev :=
  let d := d.useCounter p c r
  { d with mgmt := { d.mgmt with cur := if d.mgmt.cur = some (p, c.slot) then none else d.mgmt.cur, recs := d.mgmt.recs ++ [{ prin := p, cmd := c, status := r.status, code := r.code, result := r.result, done := !long }] } }

/-- The change under way takes effect on this device (R282): CFG_SEQ advances by 1. -/
def Dev.applyChange (d : Dev) : Dev :=
  let n := match d.commit.change with
    | none => d
    | some (.cmd p c x) => let (n, r) := d.cmdApply p c x; n.recordCmd p c r (n.cmdLong c && r.status == stOk)
    | some (.refused p c r) => d.recordCmd p c r false
    | some (.reg off v be) => d.writePart off v be catOnly
    | some (.dev l) => (l.filter (fun (i : Item) => !i.isQueue)).foldl Dev.takeItem d
  (n.seqBy d (d.commit.change.bind Change.prin)).addMod R.PAIR.CMTCNT.VALUE 1

/-- The engine is IDLE: no own change is under way. -/
def Dev.engineIdle (d : Dev) : Dev := { d with commit := { d.commit with change := none, items := [] } }.set R.PAIR.COMMIT.STATE 0

/-- The commit is over (R282): a command whose action has ended completes. -/
def Dev.closeCommit (d : Dev) : Dev :=
  let fin := fun (d : Dev) (p : Nat) (c : PyrCmd) =>
    match d.mgmt.recs.find? (fun r => r.prin == p && r.cmd.slot == c.slot) with
    | some r => if r.done && !d.mgmt.down then d.complete p c { status := r.status, code := r.code, result := r.result } else d
    | none => d
  match d.commit.change with
  | some (.cmd p c _) => fin d.engineIdle p c
  | some (.refused p c _) => fin d.engineIdle p c
  | _ => d.engineIdle

/-- The partner refuses the change (R282): a command completes with STATE_CONFLICT and the partner's code, RESULT bit 16 set (R335); a BAR0 write sets CMT_FAIL
and is recorded in CMTFAIL. -/
def Dev.commitRefused (d : Dev) (code : Nat) : Dev :=
  let n := d.engineIdle.addSat R.PAIR.CMTFAIL.COUNT 1
  match d.commit.change with
  | some (.cmd p c _) => n.finishCmd p c { status := stConflict, code := code, result := 2 ^ 16 } false false
  | some (.refused p c r) => n.finishCmd p c r false false
  | some (.reg off _ _) =>
    let n := n.raise .pair 4
    if n.is R.PAIR.CMTFAIL.VALID then n else (n.set R.PAIR.CMTFAIL.OFFSET (off / 4)).on R.PAIR.CMTFAIL.VALID
  | _ => n

/-! ### LOCAL_CHANGE_READY (R282, R296) -/

/-- Start a commit: each PREP message takes a number, the last one's is pending. -/
def Dev.openCommit (d : Dev) (x : Change) (items : List Item) : Dev :=
  let last := (d.commit.next + (payloads items [] 0).length - 1) % 65536
  let d := { d with commit := { d.commit with change := some x, items := items, next := (last + 1) % 65536 } }
  ((d.set R.PAIR.COMMIT.MID last).set R.PAIR.COMMIT.STATE 1).sendPrep

/-- A local change is checked and sent. A command its own check refuses consumes its counter on both devices if it is critical (R331). -/
def Dev.startChange (d : Dev) (x : Change) : Dev :=
  match x with
  | .cmd p c y =>
    match d.cmdConflict p c with
    | some r => if c.crit then d.openCommit (.refused p c r) [] else d.finishCmd p c r false false
    | none => d.openCommit x (d.cmdItems p c y)
  | .refused _ _ _ => d.openCommit x []
  | .reg off v be => if (d.sharedChange off v be).isEmpty then d.writePart off v be catOnly else d.openCommit x (d.sharedChange off v be)
  | .dev l => d.openCommit x l

/-- A change of a device whose pair state is not PAIRED is applied alone (R282). -/
def Dev.aloneChange (d : Dev) (x : Change) : Dev :=
  match x with
  | .cmd p c y => d.commitAlone p c y
  | .refused p c r => d.finishCmd p c r false false
  | .reg off v be => d.writePart off v be catOnly
  | .dev l => ((l.filter (fun (i : Item) => !i.isQueue)).foldl Dev.takeItem d).seqFrom d

/-- The engine takes the next local change: IDLE, serving, and no transfer to a joiner under way (R296). -/
def Dev.localReady (d : Dev) : Dev :=
  match d.commit.queue with
  | [] => d
  | x :: rest =>
    if d.get R.PAIR.COMMIT.STATE ≠ 0 ∨ !d.inService ∨ d.pst = psSync then d
    else
      let d := { d with commit := { d.commit with queue := rest } }
      if d.inPair then d.startChange x else d.aloneChange x

def execLocalChangeReady (s : State) := core s (fun d => d.localReady.settle)

/-! ### PREP, MACK, GO (R282) -/

/-- The first of two checks' refusals. -/
def orCode (a b : Option Nat) : Option Nat := match a with
  | some x => some x
  | none => b

/-- What the command behind an item would refuse on this device (R282): the state code of R335. -/
def Dev.itemBad (d : Dev) (i : Item) : Option Nat :=
  let host := fun (p : Nat) => if d.isHost p then none else some (0x50 + d.linkSt p)
  if 0x1000000 ≤ i.loc ∧ i.loc < 0x1010000 then
    let s := (i.loc - 0x1000000) / 64
    let o := d.sl s
    let e := unpackSlice i.bytes
    if 2 ≤ o.st then some (0x10 + o.st)
    else if o.st = slFree ∧ e.st = slBound then orCode (host e.port) (if d.buf.poolFree < 256 ∧ !d.holdsResv s then some 0 else none)
    else none
  else if 0x1020000 ≤ i.loc ∧ i.loc < 0x1021000 then
    let w := (i.loc - 0x1020000) / 16
    if d.winBusy w then some 0x32
    else
      let e := unpackCWin i.bytes
      if e.en then ((List.range 64).filter (hasBit e.elig)).foldl (fun r p => orCode r (host p)) none else none
  else if 0x1100000 ≤ i.loc ∧ i.loc < 0x1200000 then (if (d.ext ((i.loc - 0x1100000) / 8)).st = 2 then some 0x22 else none)
  else none

/-- The check of a partner's change: its CFG_SEQ follows this device's, and no item is refused. -/
def Dev.prepBad (d : Dev) (seq : Nat) (items : List Item) : Option Nat :=
  if seq ≠ (d.cfgSeq + 1) % 2 ^ 64 then some 0 else items.foldl (fun r i => orCode r (d.itemBad i)) none

/-- PREP in IDLE (R282): parts are collected; the whole change is checked, its counter consumed, and it is held or refused. -/
def Dev.prepIdle (d : Dev) (m : PrepMsg) : Dev :=
  if m.more then { d with commit := { d.commit with part := d.commit.part ++ m.items } }
  else
    let items := d.commit.part ++ m.items
    let d := { d with commit := { d.commit with part := [] } }
    let bad := d.prepBad m.cfgSeq items
    let d := if m.cnt = 0 ∨ m.dev then d else d.updKey m.prin (fun k => { k with cnt := m.cnt })
    match bad with
    | none => ({ d with commit := { d.commit with held := some { m with items := items } } }.set R.PAIR.COMMIT.STATE 3).giveMack m.mid mOk 0
    | some code => (d.raise .pair 4).giveMack m.mid mFail code

/-- The own change goes back to the head of its queue (R282). -/
def Dev.requeue (d : Dev) : Dev :=
  let q := d.commit.change.toList
  Dev.engineIdle { d with commit := { d.commit with queue := q ++ d.commit.queue } }

/-- PREP (R282). -/
def Dev.prepIn (d : Dev) (m : PrepMsg) : Dev :=
  if !d.mirrorUp ∨ !d.inPair then d
  else d.rxMir.onceMid m.mid (fun d =>
    let st := d.get R.PAIR.COMMIT.STATE
    if st = 0 then d.prepIdle m
    else if st = 1 then
      if d.is R.PAIR.STATE.ROLE then d.requeue.prepIdle m else if m.more then d else d.sendMack m.mid mBusy 0
    else d)

def execPrep (m : PrepMsg) (s : State) := core s (fun d => (d.prepIn m).settle)

/-- GO (R282): the held items take effect. -/
def Dev.goIn (d : Dev) (mid : Nat) : Dev :=
  if !d.mirrorUp then d
  else d.rxMir.onceMid mid (fun d =>
    match d.commit.held with
    | none => d
    | some m =>
      if d.get R.PAIR.COMMIT.STATE = 3 then
        let n := ((m.items.foldl Dev.takeItem d).seqBy d (if m.dev then none else some m.prin)).addMod R.PAIR.CMTCNT.VALUE 1
        ({ n with commit := { n.commit with held := none } }.set R.PAIR.COMMIT.STATE 0).giveMack mid mOk 0
      else d)

def execGo (mid cfgSeq : Nat) (s : State) := core s (fun d => if cfgSeq = (d.cfgSeq + 1) % 2 ^ 64 ∨ (d.givenMack mid).isSome then (d.goIn mid).settle else d)

/-- The MACK of a CPL message (R285): the completion is written, and those behind it follow. -/
def Dev.cplAcked (d : Dev) (mid : Nat) (c : SCpl) : Dev :=
  { d with skid := { d.skid with cplWait := d.skid.cplWait.filter (fun w => w.1 != mid) } }.confirmed c

/-- MACK (R282): one that names no pending message is ignored. -/
def Dev.mackIn (d : Dev) (mid result code : Nat) : Dev :=
  if !d.mirrorUp then d
  else
    let d := d.rxByp
    match d.skid.cplWait.find? (fun w => w.1 == mid) with
    | some w => d.cplAcked mid w.2
    | none =>
      let st := d.get R.PAIR.COMMIT.STATE
      if d.get R.PAIR.COMMIT.MID ≠ mid then d
      else if st = 1 then
        if result = mOk then
          let n := d.applyChange
          let go := n.commit.next
          (({ n with commit := { n.commit with next := (go + 1) % 65536 } }.set R.PAIR.COMMIT.MID go).set R.PAIR.COMMIT.STATE 2).sendGo
        else if result = mFail then d.commitRefused code
        else d
      else if st = 2 then d.closeCommit
      else d

def execMack (mid : Nat) (result : Fin 4) (code : Nat) (s : State) := core s (fun d => (d.mackIn mid result code).settle)

/-- The partner is lost (R282): a change sent is applied alone and its command completes; a held one is discarded. -/
def Dev.commitLost (d : Dev) : Dev :=
  let st := d.get R.PAIR.COMMIT.STATE
  if st = 1 then d.applyChange.closeCommit
  else if st = 2 then d.closeCommit
  else if st = 3 then { d with commit := { d.commit with held := none, part := [] } }.set R.PAIR.COMMIT.STATE 0
  else { d with commit := { d.commit with part := [] } }

/-! ### CPL, RING, FWD (R275, R280, R285) -/

/-- CPL (R285): the SECONDARY stores the completion, and the queue's progress follows it. -/
def Dev.cplIn (d : Dev) (mid : Nat) (c : SCpl) (okSeq : Nat) : Dev :=
  if !d.mirrorUp ∨ !d.inPair ∨ !d.is R.PAIR.STATE.ROLE then d
  else d.rxMir.onceMid mid (fun d =>
    let d := { d with skid := { d.skid with stored := Tbl.put d.skid.stored c.q c } }
    let h := (c.slot + 1) % (d.qe c.q).ents
    let d := d.updQr c.q (fun r => { r with hphase := if h = 0 then !c.phase else c.phase, fetch := h })
    let d := d.updQe c.q (fun e => { e with head := h, okSeq := okSeq % 2 ^ 32, lastStatus := if c.status = 0 then e.lastStatus else c.status, fphase := if h = 0 then !c.phase else c.phase })
    d.giveMack mid mOk 0)

def execCpl (mid : Nat) (c : SCpl) (okSeq : Nat) (s : State) := core s (fun d => d.cplIn mid c okSeq)

/-- RING (R280): the pointers of a principal's ring, as long as the principal is not attached here too. -/
def Dev.ringIn (d : Dev) (p : Nat) (r : RingE) : Dev :=
  if !d.mirrorUp ∨ !d.is R.PAIR.CTL.EN then d
  else if (d.ring p).attached then d.rxMir
  else d.rxMir.updRing p (fun g => { g with head := r.head, fetch := r.head, phase := r.phase, written := [] })

def execRing (prin : Fin 8) (r : RingE) (s : State) := core s (fun d => d.ringIn prin r)

/-- FWD (R275): a doorbell-page write takes effect on the PRIMARY. -/
def Dev.fwdIn (d : Dev) (s o v : Nat) : Dev :=
  if !d.mirrorUp ∨ !d.is R.PAIR.CTL.EN then d
  else if d.is R.PAIR.STATE.ROLE then d.rxMir
  else d.rxMir.dbWrite s o v

def execFwd (sl : Fin 512) (off value : Nat) (s : State) := core s (fun d => (d.fwdIn sl off value).settle)

/-- NOTICE (R222): with PAIR_SAVE this device saves too; a device that does not serve starts nothing. -/
def Dev.noticeIn (d : Dev) : Dev :=
  if !d.mirrorUp ∨ !d.is R.PAIR.CTL.EN then d
  else if d.is R.PRS.CTL.PAIR_SAVE ∧ d.inService then d.rxMir.enterP0 2
  else d.rxMir

/-- The cause the partner names is not recorded: RESULT.CAUSE says that a notice came. -/
def execNotice (_cause : Fin 8) (s : State) := core s (fun d => d.noticeIn.settle)

end Sys2Proof.Machine
end

