-- ==== Sys2Proof/Machine/FabricCmds.lean ====
section
/-! DEFINITION. The commands of the NoC (R24 to R36), of power gating and of clocks, rails and temperature (R15 to R18, R370 to R385): one meaning each. -/
namespace Sys2Proof.Machine

def execNocFlitArrive (r : Fin 36) (pkt : Packet) (flit : Nat) (err : Ecc) (s : State) :=
  core s (fun d => d.flitArrive r pkt flit err)

def execBar0Access (write : Bool) (off be value : Nat) (s : State) := core s (fun d => d.bar0 write off be value)

def execRdCpl (pkt : Packet) (s : State) := core s (fun d => d.rdCpl pkt)

def execWrAck (pkt : Packet) (s : State) := core s (fun d => d.wrAck pkt)

def execEvent (pkt : Packet) (s : State) := core s (fun d => d.eventMsg pkt)

def execSnap (pkt : Packet) (s : State) := core s (fun d => d.snapMsg pkt)

def execNocReturnedRequest (pkt : Packet) (s : State) := core s (fun d => d.returnedReq pkt)

def execNocRequestTimeout (src : NocSrc) (tag : Nat) (s : State) := core s (fun d => d.reqTimeout src tag)

def execNocStall (r : Fin 36) (pkt : Packet) (s : State) := core s (fun d => d.stall r pkt)

def execDomainOn (k : Fin 32) (s : State) := core s (fun d => d.domainOn k)

def execDomainGated (k : Fin 32) (s : State) := core s (fun d => d.domainGated k)

/-- QUIESCE (R34): the router stops accepting flits. -/
def execQuiesce (r : Fin 36) (s : State) := bar s (fun d => d.on (R.NOC.CTL.QUIESCE r))

def execQuiesceComplete (r : Fin 36) (s : State) := core s (fun d => d.quiesceDone r)

def execUnquiesce (r : Fin 36) (s : State) := bar s (fun d => d.unquiesce r)

def execLocalEnChange (r : Fin 36) (value : Word) (s : State) := bar s (fun d => d.localEn r value.toNat)

def execRefclkLost (s : State) := aon s Dev.refclkLost

def execClockMonitorWindow (c n m a : Int) (s : State) := aon s (fun d => d.clockWindow c n m a)

def execRootPllLock (s : State) := aon s Dev.rootLock

def execPllLockTimeout (s : State) := aon s Dev.pllTimeout

def execRailFault (r : Fin 7) (mv : Nat) (s : State) := aon s (fun d => d.railFault r mv)

def execThermalSample (temps : List Int) (s : State) := core s (fun d => d.thermal temps)

def execDstateModeWrite (mode : Fin 4) (s : State) := bar s (fun d => d.modeWrite mode)

end Sys2Proof.Machine
end

