-- ==== Sys2Proof/Machine/Faults.lean ====
section
/-! DEFINITION. Clearing fault bits (R297, R298) and arming fault injection (R301, R302). -/
namespace Sys2Proof.Machine

/-- FAULT_BIT_CLEAR (R298, R6): bits written as 1 clear; those whose cause still holds in the next cycle set again and FIRST takes them again. `off` names a status
register. -/
def Dev.faultClear (d : Dev) (off m still : Nat) : Dev :=
  match stsAt off with
  | some S => (d.parityCheck off).statusWrite S m still
  | none => d

def execFaultBitClear (off : Nat) (mask still : Word) (s : State) := bar s (fun d => d.faultClear off mask.toNat still.toNat)

/-- INJECT_ARM (R301). -/
def execInjectArm (ch : Fin 4) (s : State) := bar s (fun d => d.injArm ch)

/-- INJECT_STOP (R301). -/
def execInjectStop (ch : Fin 4) (s : State) := bar s (fun d => d.injStop ch)

end Sys2Proof.Machine
end

