-- ==== Sys2Proof/Machine/HomeCmds.lean ====
section
/-! DEFINITION. The commands of the coherent home (R93 to R131), of slices and protection (R132 to R160) and those after which held messages settle: one meaning each. -/
namespace Sys2Proof.Machine

def execVioClear (chk : Fin 18) (s : State) := bar s (fun d => d.vioClear chk)

def execBitagReturn (ds : Fin 16) (tag : Nat) (s : State) := core s (fun d => (d.bitagReturn ds (tag % 256)).settle)

def execPredClr (ds : Fin 16) (s : State) := bar s (fun d => d.predClr ds)

def execGenerationAdvance (sl : Fin 512) (s : State) := core s (fun d => (d.genAdvance sl).settle)

def execReservationReturn (sl : Fin 512) (s : State) := core s (fun d => d.resvReturn sl)

def execHoldExpire (p : Fin 64) (s : State) := core s (fun d => d.holdExpire p)

def execRds (req : DirReq) (s : State) := core s (fun d => (d.dirReq { req with cls := .rds, seen := false }).settle)

def execRda (req : DirReq) (s : State) := core s (fun d => (d.dirReq { req with cls := .rda, seen := false }).settle)

def execInv (req : DirReq) (s : State) := core s (fun d => (d.dirReq { req with cls := .inv, seen := false }).settle)

def execWb (req : DirReq) (s : State) := core s (fun d => (d.dirReq { req with cls := .wb, seen := false }).settle)

def execNcr (req : DirReq) (s : State) := core s (fun d => (d.dirReq { req with cls := .ncr, seen := false }).settle)

def execNcw (req : DirReq) (s : State) := core s (fun d => (d.dirReq { req with cls := .ncw, seen := false }).settle)

def execAtomicop (req : DirReq) (s : State) := core s (fun d => (d.dirReq { req with cls := .atom, seen := false }).settle)

def execSnoopData (p : Fin 64) (pool : Nat) (line : LineWr) (poison : Bool) (s : State) :=
  core s (fun d => if d.ideOk p then (d.snoopData p pool line.data line.be poison).settle else d)

def execBirsp (p : Fin 64) (bitag : Nat) (rsp : SnpRsp) (s : State) := core s (fun d => (d.birspIn p bitag rsp).settle)

def execBiconflict (p : Fin 64) (pool : Nat) (s : State) := core s (fun d => (d.biconflictIn p pool).settle)

def execRspTmo (pool : Nat) (what : Awaited) (s : State) := core s (fun d => (d.rspTmo pool what).settle)

def execParkRetry (ds : Fin 16) (s : State) := core s (fun d => (d.parkRetry ds).settle)

def execReturnedRequestPresent (ds : Fin 16) (key : Nat) (s : State) := core s (fun d => (d.present ds key).settle)

def execRecallStart (ds : Fin 16) (mode : Fin 4) (win : Fin 256) (port : Fin 64) (s : State) :=
  bar s (fun d => (d.recallStart ds mode win port).settle)

def execRecallComplete (ds : Fin 16) (s : State) := core s (fun d => (d.recallComplete ds).settle)

def execWindowChangeComplete (w : Fin 256) (s : State) := core s (fun d => (d.winDone w).settle)

def execSliceDrainComplete (sl : Fin 512) (s : State) := core s (fun d => (d.drained sl).settle)

def execDrainTimeout (sl : Fin 512) (s : State) := core s (fun d => (d.drainTmo sl).settle)

def execBurstReadData (id data : Nat) (poison : Bool) (s : State) := core s (fun d => (d.burstData id data poison).settle)

def execBurstComplete (id : Nat) (ok : Bool) (s : State) := core s (fun d => (d.burstComplete id ok).settle)

def execBurstTimeout (id : Nat) (s : State) := core s (fun d => (d.burstTimeout id).settle)

def execSkidderReadBack (q : Fin 1040) (slot id : Nat) (ok poison : Bool) (data : Nat) (s : State) :=
  core s (fun d => (d.readBack q slot id (!ok || poison) data).settle)

def execDescriptorStart (q : Fin 1040) (s : State) := core s (fun d => (d.descStart q).settle)

def execTimerFire (t : Fin 16) (s : State) := core s (fun d => (d.timerFire t).settle)

def execQueueTurn (s : State) := core s (fun d => d.queueTurn.settle)

def execDescriptorFetch (q : Fin 1040) (s : State) := core s (fun d => (d.descFetch q).settle)

def execFetchReturn (q : Fin 1040) (result : RdResult) (descs ue : List Nat) (s : State) :=
  core s (fun d => (d.fetchReturn q result descs ue).settle)

def execStopComplete (q : Fin 1040) (s : State) := core s (fun d => (d.mirrorQueue (d.stopComplete q) q).settle)

def execPolicerAdmit (sl : Fin 512) (s : State) := core s (fun d => (d.policeHead sl).settle)

def execPolicerRetry (sl : Fin 512) (s : State) := core s (fun d => (d.policeHead sl).settle)

def execWakeFail (dom : Fin 32) (s : State) := core s (fun d => (d.wakeFails dom).settle)

end Sys2Proof.Machine
end

