-- ==== Sys2Proof/Machine/Pair.lean ====
section
/-! DEFINITION. The pair (R273 to R296): heartbeats and the fence, the fence check, the takeover, yielding, joining, and the end of the restore (R233). -/
namespace Sys2Proof.Machine

/-- Microseconds since a cycle, as the time registers of R304 hold them. -/
def Dev.usFrom (d : Dev) (t : Nat) : Nat := min 0xFFFF ((d.time.cclk - t) / 2000)

/-- The device sends heartbeats: SEEK, SYNC, PAIRED, ALONE (R286), and YIELDED, from where it can only join by them (R288). -/
def Dev.beats (d : Dev) : Bool := [psSeek, psSync, psPaired, psAlone, psYielded].contains d.pst

/-! ### The fence (R287) -/

/-- The fence extent. -/
def Dev.fenceExt (d : Dev) : ExtentE := d.ext (d.get R.PAIR.FENCE_EXT.EXT)

/-- The place of a port's fence accesses: a MEM port of this device, or the partner over the mirror link. -/
def Dev.fenceChan (d : Dev) (p : Nat) : Chan := if d.isMem p then .mem p else .mirror

/-- Write the own half of the fence line. -/
def Dev.fenceWrite (d : Dev) (yield take : Bool) : Dev :=
  if d.is R.PAIR.CTL.FENCE_EN then
    d.emit (d.fenceChan d.fenceExt.port) .fenceWrite [d.get R.PAIR.FENCE_EXT.EXT, d.get R.PAIR.FENCE_OFS.OFS + 16 * d.get R.PAIR.STATE.ROLE, d.get64 R.PAIR.HBCNT_L.VALUE R.PAIR.HBCNT_H.VALUE, bit yield, bit take]
  else d

/-- Read the fence line through PORT, or the alternate head on the partner (R289). -/
def Dev.fenceRead (d : Dev) (alt : Bool) : Dev :=
  Dev.emit { d with pair := { d.pair with read := true } } (if alt then .mirror else d.fenceChan d.fenceExt.port) .fenceRead [d.get R.PAIR.FENCE_EXT.EXT, d.get R.PAIR.FENCE_OFS.OFS, if alt then d.fenceExt.altPort else d.fenceExt.port]

/-! ### The MIRROR port in DECIDE -/

/-- Hold the MIRROR port in Disabled (R288): its egress hold runs on (R286). -/
def Dev.holdMirror (d : Dev) : Dev :=
  match d.mirrorPort with
  | none => d
  | some m => ((d.cutFail m (d.prt m).width).holdStart m).quietPort m

/-- A port held in Disabled begins bring-up again; one that R39 keeps in OFF stays there. -/
def Dev.unhold (d : Dev) (p : Nat) : Dev :=
  if (d.prt p).ex ∧ (d.prt p).held then
    let d := d.updPrt p (fun r => { r with held := false })
    if (d.prt p).refused then d else d.enterWait p
  else d

/-- The MIRROR port is free again. -/
def Dev.freeMirror (d : Dev) : Dev := d.mirrorPort.elim d d.unhold

/-! ### SWITCH (R291, R292) -/

/-- A request that was on its way to the partner's directory, from its header on the mirror link (R251, R252). -/
def Msg.toHome (m : Msg) : Option DirReq :=
  m.x.map (fun h =>
    let a := xAtom h.op h.data
    { src := m.src, cls := xCls h.op, pool := m.pool, mv := if h.op = 5 then .none else xMv h, slice := m.slice.getD 0, sys := m.slice.isNone, tag := m.tag, data := h.data, be := h.be, poison := m.poison, op := a.1, arg := a.2.1, cmp := a.2.2, gen := m.gen, part := m.part })

/-- The requests for windows of the partner that the MIRROR port's hold or its outstanding entries keep, oldest first. -/
def Dev.carried (d : Dev) (m : Nat) : List Msg :=
  let mine := fun (x : Msg) => x.op == .xReq && x.kind.isReq && x.kind != .mapref && !x.home && x.dataIn && (d.winOf (x.pool / 2 ^ 30)).isSome
  (d.sentOn m).filter mine ++ d.buf.msgs.filter (fun x => x.stage == 1 && x.egress == m && !x.hdrLeft && mine x)

/-- Step 1: requests the partner was home to come to the own directory, the MIRROR hold expires (R85), snoops sent through the partner are expired (R111). -/
def Dev.switchMirror (d : Dev) : Dev :=
  match d.mirrorPort with
  | none => d
  | some m =>
    let l := d.carried m
    let kept := fun (x : Msg) => !l.any (fun y => y.id == x.id)
    let d := d.updPrt m (fun r => { r with outs := r.outs.filter (fun o => kept o.msg) })
    let d := d.updXl m (fun x => { x with unack := x.unack.filter (fun f => f.msg.all kept), wait := x.wait.filter (fun f => f.msg.all kept) })
    let d := l.foldl (fun (d : Dev) x => d.dropMsg x) d
    let d := d.expirePort m
    let d := l.foldl (fun (d : Dev) x => x.toHome.elim d d.dirReq) d
    (List.range 16).foldl (fun (d : Dev) ds =>
      ((d.dir ds).trks.map (·.line)).foldl (fun (d : Dev) line =>
        ((List.range 64).filter (fun p => !d.isUp p)).foldl (fun (d : Dev) p =>
          match (d.dir ds).trk line with
          | some t => if t.waits.contains p then d.expireSnoop ds t p else d
          | none => d) d) d) d

/-- Step 2: REBUILD in each enabled window whose HOME names the partner. -/
def Dev.rebuildAll (d : Dev) : Dev :=
  let role := d.is R.PAIR.STATE.ROLE
  { d with cwins := d.cwins.map (fun (x : Nat × CWinE) => if x.2.en ∧ x.2.home ≠ role then (x.1, { x.2 with rebuild := true }) else x) }

/-- A stored completion and its head write-back are written again, with the same values (R292). -/
def Dev.rewriteCpl (d : Dev) (c : SCpl) : Dev :=
  let e := d.qe c.q
  (d.queueWrite c.q .cplEntry (e.cpl + 32 * c.slot) 32 (packSCpl c)).queueWrite c.q .headWb e.hwb 8 (packHwb e.head (d.qGen c.q) e.okSeq)

/-- Step 4: the PRIMARY role, the stored completions, every queue that ran HALTED. -/
def Dev.takeRole (d : Dev) : Dev :=
  if d.is R.PAIR.STATE.ROLE then
    let d := d.off R.PAIR.STATE.ROLE
    let d := d.skid.stored.foldl (fun (d : Dev) x => d.rewriteCpl x.2) d
    (d.queues.filter (fun (x : Nat × QueueE) => isTenant x.1 && (x.2.st == qActive || x.2.st == qStopping))).foldl (fun (d : Dev) x =>
      Dev.enterHalted (d.updQr x.1 (fun r => { r with stop := 0, dis := false, fetched := [], reading := 0, fired := false, why := 0 })) x.1) d
  else d

/-- TAKE (R288, R289, R292): ALONE, the actions of SWITCH, and the recall of every line. -/
def Dev.takeOver (d : Dev) : Dev :=
  let d := (d.set R.PAIR.DECIDE_T.US (d.usFrom d.pair.t0)).fenceWrite false true
  let d := { d with pair := { d.pair with solo := true, stage := 1, stageAt := d.time.cclk, hbN := 0, wait := false, read := false } }.set R.PAIR.STATE.PSTATE psAlone
  let d := if d.get R.TOP.DSTATE.MODE = 1 ∨ d.get R.TOP.DSTATE.MODE = 2 then d.set R.TOP.DSTATE.MODE 3 else d
  let d := d.switchMirror.rebuildAll.takeRole.freeMirror
  let d := { d with pair := { d.pair with stage := 2, stageAt := d.time.cclk } }.set R.PAIR.SWITCH_T.US (d.usFrom d.pair.stageAt)
  d.recallAll 0 0 0 rclTake

/-- TAKEOVER_RESUME_COMPLETE (R291, R292, R396): RECALL is over, held requests are admitted again. -/
def Dev.resumeDone (d : Dev) : Dev :=
  if d.pair.stage = 3 ∨ (d.pair.stage = 2 ∧ !d.recalling rclTake) then
    let d := { d with pair := { d.pair with stage := 0 } }.set R.PAIR.TOTAL_T.US (d.usFrom d.pair.hbAt)
    let d := d.raise .pair 1
    if d.get R.TOP.DSTATE.MODE = 3 ∧ d.inService then d.set R.TOP.DSTATE.MODE 1 else d
  else d

def execTakeoverResumeComplete (s : State) := core s (fun d => d.resumeDone.settle)

/-! ### YIELD (R288) -/

/-- YIELD: the own half says so, every port except MIRROR goes to Disabled. -/
def Dev.yieldNow (d : Dev) : Dev :=
  let d := (d.set R.PAIR.DECIDE_T.US (d.usFrom d.pair.t0)).fenceWrite true false
  let d := { d with pair := { d.pair with hbN := 0, wait := false, read := false } }.set R.PAIR.STATE.PSTATE psYielded
  let ps := (List.range 64).filter (fun p => (d.prt p).ex && d.role p != 4)
  let d := ps.foldl (fun (d : Dev) p => ((d.cutFail p (d.prt p).width).expirePort p).quietPort p) d
  (d.raise .pair 2).freeMirror

/-! ### DECIDE (R288, R289) -/

/-- No read of the fence came back, or there is no fence. -/
def Dev.blind (d : Dev) : Dev := if d.is R.PAIR.STATE.ROLE then d.yieldNow else d.takeOver

/-- Enter DECIDE: the MIRROR port is held in Disabled, the fence check starts. -/
def Dev.decide (d : Dev) : Dev :=
  let d := { d with pair := { d.pair with t0 := d.time.cclk, att := 0, read := false, wait := false, cnt := 0, same := 0 } }.set R.PAIR.STATE.PSTATE psDecide
  let d := d.holdMirror
  if d.is R.PAIR.CTL.FENCE_EN then d.fenceRead false else d.blind

/-- The partner's heartbeat count last accepted. -/
def Dev.hbLast (d : Dev) : Nat := d.get64 R.PAIR.PHBCNT_L.VALUE R.PAIR.PHBCNT_H.VALUE

/-- A fence read returned the partner's half. -/
def Dev.fenceSeen (d : Dev) (f : FenceHalf) : Dev :=
  if d.pst = psDecide ∧ d.pair.read then
    let same := if d.pair.wait ∧ 0 < d.pair.same ∧ d.pair.cnt = f.cnt then d.pair.same + 1 else 1
    let w := d.pair.wait
    let d := { d with pair := { d.pair with read := false, cnt := f.cnt, same := same } }
    if w then (if f.yield ∨ 3 ≤ same then d.takeOver else d)
    else if f.yield ∨ f.cnt ≤ d.hbLast + 1 then d.takeOver
    else if d.is R.PAIR.STATE.ROLE then d.yieldNow
    else { d with pair := { d.pair with wait := true } }
  else d

def execFenceReadComplete (peer : FenceHalf) (s : State) := core s (fun d => (d.fenceSeen peer).settle)

/-- A fence read attempt timed out (R289): FENCE_ERR; three attempts in all, through PORT, ALT, PORT. In WAIT a read that fails breaks the run of equal counts. -/
def Dev.fenceTimeout (d : Dev) : Dev :=
  if d.pst = psDecide ∧ d.pair.read then
    let d := Dev.raise { d with pair := { d.pair with read := false, att := d.pair.att + 1, same := 0 } } .pair 3
    if d.pair.wait then d
    else if d.pair.att < 3 then d.fenceRead (d.pair.att % 2 == 1)
    else d.blind
  else d

def execFenceReadTimeout (s : State) := core s (fun d => d.fenceTimeout.settle)

/-- A PRIMARY in WAIT reads the fence again. -/
def execFencePoll (s : State) := core s (fun d => if d.pst = psDecide ∧ d.pair.wait ∧ !d.pair.read then d.fenceRead false else d)

/-- 270 µs after entry to DECIDE a PRIMARY in WAIT takes over. -/
def execDecideLimit (s : State) := core s (fun d => if d.pst = psDecide ∧ d.pair.wait then d.takeOver.settle else d)

/-! ### Heartbeats (R286) -/

/-- The partner is declared lost (R282, R286, R288): from PAIRED to DECIDE, from SYNC back to the state it left. -/
def Dev.partnerLost (d : Dev) : Dev :=
  let was := d.pst
  let d := (d.raise .pair 0).set64 R.PAIR.LOSSTIME_L.VALUE R.PAIR.LOSSTIME_H.VALUE d.ft
  let d := d.commitLost
  let d := { d with pair := { d.pair with miss := 0, hbN := 0 } }
  if was = psSync then
    let d := ((d.off R.PAIR.SYNCSTS.SOURCE).off R.PAIR.SYNCSTS.JOINER).off R.PAIR.SYNCSTS.HANDBACK
    { d with pair := { d.pair with solo := d.pair.left != psYielded, synced := false } }.set R.PAIR.STATE.PSTATE d.pair.left
  else
    let waits := d.skid.cplWait
    let d := { d with skid := { d.skid with cplWait := [] } }.set R.PAIR.STATE.PSTATE psDecide
    let d := waits.foldl (fun (d : Dev) w => d.confirmed w.2) d
    d.decide

/-- HB_PERIOD (R286, R287): a heartbeat, the own half of the fence line, and the period counted. -/
def Dev.hbPeriod (d : Dev) (fenceOk : Bool) : Dev :=
  if d.beats then
    let d := d.set64 R.PAIR.HBCNT_L.VALUE R.PAIR.HBCNT_H.VALUE (d.get64 R.PAIR.HBCNT_L.VALUE R.PAIR.HBCNT_H.VALUE + 1)
    let d := if d.mirrorUp then d.txByp 7 (hbBytes d.pst (d.is R.PAIR.STATE.ROLE) (d.get64 R.PAIR.HBCNT_L.VALUE R.PAIR.HBCNT_H.VALUE) d.cfgSeq) d.cfgSeq else d
    let d := if d.pst = psYielded then d else d.fenceWrite false (d.pst == psAlone)
    let d := if d.is R.PAIR.CTL.FENCE_EN ∧ d.pst ≠ psYielded ∧ !fenceOk then d.raise .pair 3 else d
    let d := { d with pair := { d.pair with miss := if d.pair.got then 0 else d.pair.miss + 1, got := false } }
    if 8 ≤ d.pair.miss ∧ (d.pst = psSync ∨ d.pst = psPaired) then d.partnerLost else d
  else d

def execHbPeriod (fenceOk : Bool) (s : State) := core s (fun d => (d.hbPeriod fenceOk).settle)

/-! ### Joining (R288, R295, R296) -/

/-- Bytes of the image a SYNC_DATA message carries at most: 64 slots hold the offset too (R277, R278). -/
abbrev syncPiece : Nat := 1020

/-- The source of R295. -/
def Dev.isSource (d : Dev) (m : HbMsg) : Bool :=
  if d.pst = psYielded ∨ (m.pstate = psAlone ∨ d.pair.peerAlone) then false
  else if d.pst = psAlone ∨ m.pstate = psYielded then true
  else if d.cfgSeq = m.cfgSeq then !d.is R.PAIR.STATE.ROLE
  else m.cfgSeq < d.cfgSeq

/-- The source sends its image and hands back every window whose HOME names the joiner (R296). -/
def Dev.sendImage (d : Dev) : Dev :=
  let n := (905232 + syncPiece - 1) / syncPiece
  let img := (d.image 1).bytes
  let d := (List.range n).foldl (fun (d : Dev) i => d.sendMir { mtype := 5, more := i + 1 != n, seq := d.cfgSeq } (leBytes (i * syncPiece) 4 ++ ((img.drop (i * syncPiece)).take syncPiece))) d
  let d := (d.sendMir { mtype := 6, seq := d.cfgSeq } []).on R.PAIR.SYNCSTS.HANDBACK
  (d.cwins.filter (fun (x : Nat × CWinE) => x.2.en && x.2.home != d.is R.PAIR.STATE.ROLE)).foldl (fun (d : Dev) x => d.recallAll 1 x.1 0 rclBack) d

/-- Enter SYNC (R288, R295). -/
def Dev.enterSync (d : Dev) (m : HbMsg) : Dev :=
  let src := d.isSource m
  let d := { d with pair := { d.pair with left := d.pst, hbN := 0, rx := 0, synced := false, syncAt := d.time.cclk, solo := d.pair.solo && src } }
  let d := (d.set R.PAIR.STATE.PSTATE psSync).put R.PAIR.STATE.ROLE (!src)
  if src then (d.on R.PAIR.SYNCSTS.SOURCE).sendImage else d.on R.PAIR.SYNCSTS.JOINER

/-- HB (R274, R286, R288): a heartbeat of the partner is accepted. -/
def Dev.hbIn (d : Dev) (m : HbMsg) : Dev :=
  if d.mirrorUp ∧ d.beats then
    let counts := d.pst != psAlone || m.pstate == psSeek || m.pstate == psYielded
    let alone := if m.pstate = psAlone then true else if m.pstate = psSync then d.pair.peerAlone else false
    let d := d.rxByp.set64 R.PAIR.PHBCNT_L.VALUE R.PAIR.PHBCNT_H.VALUE m.cnt
    let d := { d with pair := { d.pair with got := true, hbAt := d.time.cclk, hbN := d.pair.hbN + bit counts, peerAlone := alone } }
    let d := if m.role = d.is R.PAIR.STATE.ROLE then (d.raise .pair 5).put R.PAIR.STATE.ROLE (hasBit d.pins.devId 0) else d
    if 2 ≤ d.pair.hbN ∧ (d.pst = psSeek ∨ d.pst = psAlone ∨ d.pst = psYielded) ∧ counts then d.enterSync m else d
  else d

def execHb (m : HbMsg) (s : State) := core s (fun d => (d.hbIn m).settle)

/-- SYNC_DATA (R296): a piece of the source's image, in order. -/
def Dev.syncData (d : Dev) (off len : Nat) : Dev :=
  if d.mirrorUp ∧ d.is R.PAIR.SYNCSTS.JOINER ∧ len ≤ 1024 ∧ off ≤ d.pair.rx then
    let d := d.rxMir
    { d with pair := { d.pair with rx := max d.pair.rx (off + len) } }
  else d

def execSyncData (off len : Nat) (s : State) := core s (fun d => d.syncData off len)

/-- The joiner takes the image (R296): tables, keys, counters and CFG_SEQ, the extents in its own view (R281). -/
def Dev.takeImage (d : Dev) (img : Image) : Dev :=
  let i := d.ownView img
  let own := d.mgmt.recs
  let d := d.loadAll i .partner
  let d := { d with slices := i.slices, cwins := i.cwins, queues := i.queues, mgmt := { d.mgmt with rings := Tbl.remap i.rings {} (fun p (r : RingE) => { r with attached := (d.ring p).attached }), recs := own }, skid := { d.skid with rt := Tbl.remap i.queues {} (fun _ (q : QueueE) => { fetch := q.head, hphase := q.fphase }) } }
  Dev.pendAfter (((d.extents.filter (fun x => x.2.st == 2)).map (·.1)).foldl Dev.queueScrub d)

/-- SYNC_END (R296): with the whole image received the joiner loads it. -/
def Dev.syncEnd (d : Dev) (img : Image) : Dev :=
  if d.mirrorUp ∧ d.pst = psSync ∧ d.is R.PAIR.SYNCSTS.JOINER ∧ 905232 ≤ d.pair.rx then
    let d := d.rxMir.takeImage img
    { d with pair := { d.pair with synced := true } }
  else d

def execSyncEnd (img : Image) (s : State) := core s (fun d => (d.syncEnd img).settle)

/-- Transfer and handback are complete (R288, R296): PAIRED, JOINED; a joiner's ports begin bring-up again. -/
def Dev.toPaired (d : Dev) : Dev :=
  let d := (d.set R.PAIR.STATE.PSTATE psPaired).set R.PAIR.SYNC_T.US (d.usFrom d.pair.syncAt)
  let d := ((d.off R.PAIR.SYNCSTS.SOURCE).off R.PAIR.SYNCSTS.JOINER).off R.PAIR.SYNCSTS.HANDBACK
  let d := { d with pair := { d.pair with solo := false, hbN := 0, miss := 0, synced := false, rx := 0 } }
  ((List.range 64).foldl Dev.unhold d).raise .pair 7

/-- HANDBACK_COMPLETE (R296). -/
def Dev.handback (d : Dev) : Dev :=
  let ovr := if d.is R.PAIR.SYNCSTS.SOURCE then d.is R.PAIR.SYNCSTS.HANDBACK && !d.recalling rclBack else d.pair.synced
  if d.pst = psSync ∧ ovr then d.toPaired else d

def execHandbackComplete (s : State) := core s (fun d => d.handback.settle)

/-! ### RESUME_READY (R233, R288, R396) -/

/-- MEM ports that are not UP at resume-ready answer as R85 answers where there is no alternate (R234). -/
def Dev.absentPorts (d : Dev) : Dev :=
  ((List.range 64).filter (fun p => d.isMem p && !d.isUp p && (d.prt p).hold == holdService)).foldl (fun d p => d.updPrt p (fun r => { r with hold := holdAbsent })) d

/-- The restore completes; a device that pairs and has no mirror link decides at once. -/
def Dev.resumeReady (d : Dev) : Dev :=
  if d.restoring 5 then
    let d := ((d.toSeq 1).set R.TOP.DSTATE.MODE 1).set R.PRS.RSTTIME.MS (min 0xFFFF ((d.time.cclk - d.prs.t0.getD 0) / 2000000))
    let d := d.unanswered.absentPorts.raise .prs 7
    if d.is R.PAIR.CTL.EN then
      let d := { d with pair := { d.pair with solo := true } }.set R.PAIR.STATE.PSTATE psSeek
      if d.mirrorUp then d else d.decide
    else d
  else d

def execResumeReady (s : State) := core s (fun d => d.resumeReady.settle)

end Sys2Proof.Machine
end

