-- ==== Sys2Proof/Machine/PortCmds.lean ====
section
/-! DEFINITION. The commands of ports and links (R38 to R61), of what they receive (R62 to R92, R138 to R157) and of slot power (R305 to R321): one meaning each. -/
namespace Sys2Proof.Machine

def execTrainingComplete (p : Fin 64) (partner : Partner) (s : State) := core s (fun d => d.trained p partner)

def execRateStepComplete (p : Fin 64) (preset : Nat) (s : State) := core s (fun d => d.rateStep p preset)

def execEqFail (p : Fin 64) (s : State) := core s (fun d => d.eqFail p)

def execTrainingFallback (p : Fin 64) (s : State) := core s (fun d => d.fallback p)

def execLockLoss (p : Fin 64) (lanes : Nat) (s : State) := core s (fun d => d.lockLoss p (d.lostLanes p lanes))

def execRecoveryToDetect (p : Fin 64) (s : State) := core s (fun d => d.recoveryToDetect p)

def execRetrain (p : Fin 64) (s : State) := bar s (fun d => (d.wakePu p).retrain p)

def execRecoveryExit (p : Fin 64) (s : State) := core s (fun d => d.recoveryExit p)

def execSymbolLockChange (pu : Fin 64) (lane : Fin 4) (lock : Bool) (s : State) := core s (fun d => d.symLock pu lane lock)

def execL1IdleTimeout (p : Fin 64) (s : State) := core s (fun d => d.l1Idle p)

def execPartnerPmRequest (p : Fin 64) (req : PmReq) (s : State) := core s (fun d => d.partnerPm p req)

def execLinkPmExit (p : Fin 64) (s : State) := core s (fun d => d.pmExit p)

def execIdeKeyProgram (p : Fin 64) (link ok : Bool) (s : State) := core s (fun d => d.ideKey p link ok)

def execIdeIntegrityFail (p : Fin 64) (_link : Bool) (forwarded : List Nat) (s : State) := core s (fun d => d.ideFail p forwarded)

def execPrbsRun (p : Fin 64) (s : State) := bar s (fun d => (d.wakePu p).prbsRun p)

def execPrbsCheckerLock (p : Fin 64) (lane : LaneLock) (s : State) := core s (fun d => d.prbsLock p lane.lane lane.errs)

def execEyeScanStart (p : Fin 64) (lane : Fin 4) (s : State) := bar s (fun d => (d.wakePu p).eyeStart p lane)

def execEyeScanComplete (p : Fin 64) (left right up down : Nat) (s : State) := core s (fun d => d.eyeDone p left right up down)

def execMarginingRequest (p : Fin 64) (lane : Fin 4) (s : State) := core s (fun d => d.margin p lane)

def execUnitReceive (pu : Fin 64) (u : RxUnit) (s : State) := core s (fun d => (d.unitIn pu u).settle)

def execSafRelease (pu : Fin 64) (s : State) := core s (fun d => d.safRelease pu)

def execCreditGrant (p : Fin 64) (kind : CreditKind) (s : State) := core s (fun d => d.creditGrant p kind)

def execMemResponse (p : Fin 64) (tag : Nat) (kind : MsgKind) (data : Nat) (poison : Bool) (s : State) := core s (fun d => (d.memRspIn p tag kind data poison).settle)

/-- DLOG_CI_WRITE (R157) and FLT_CLR (R156): the slice's own write to its page, served and refused as any access of it (R148, R183). -/
def execDlogCiWrite (port : Fin 64) (sl : Fin 512) (value : Nat) (s : State) := core s (fun d => if d.takesIo port then d.pageWrite port sl (some sl.val) 0x200 value else d)

def execFltClr (port : Fin 64) (sl : Fin 512) (s : State) := core s (fun d => if d.takesIo port then d.pageWrite port sl (some sl.val) 0x204 1 else d)

def execCxlioRequest (p : Fin 64) (pasid : Option Nat) (req : IoReq) (s : State) := core s (fun d => (d.ioIn p pasid req).settle)

/-- PTM_REQUEST (R38, R268): a HOST port answers with fabric time. -/
def execPtmRequest (p : Fin 64) (s : State) := core s (fun d => if d.isHost p && d.isUp p then d.emit (.host p) .ptmRsp [d.ft] else d)

/-- INSERTION_DELAY_EXPIRE (R310). -/
def execInsertionDelayExpire (n : Fin 32) (s : State) :=
  core s (fun d => d.slotFree (fun d => if d.slotSt n = 1 ∧ (d.slt n).vinOk then d.toRamp n else d))

/-- VOUT_REACHED (R310): SETTLE, full enhancement, PG_DLY starts. -/
def execVoutReached (n : Fin 32) (lv : SlotLevels) (s : State) :=
  core s (fun d => d.slotFree (fun d =>
    d.takeRow n 6 (fun e => e.slotSt n == 2) (fun e => (((e.slotLevels n lv).toSlot n 3).updSlt n (fun r => { r with pgDue := false })).gate n 3)))

/-- PG_DELAY_EXPIRE (R311): PG asserts while the fault timer is idle, else it is withheld and decided again at each later sample. -/
def execPgDelayExpire (n : Fin 32) (s : State) :=
  core s (fun d => d.slotFree (fun d =>
    if d.slotSt n = 3 then (if (d.slt n).timer then d.updSlt n (fun r => { r with pgDue := true }) else d.settleOn n) else d))

/-- FAULT_TIMER_START (R309): in RAMP, SETTLE and ON. -/
def execFaultTimerStart (n : Fin 32) (s : State) :=
  core s (fun d => if d.slotLive n then d.updSlt n (fun r => { r with timer := true }) else d)

/-- FAULT_TIMER_IDLE (R309, R311): a withheld PG asserts. -/
def execFaultTimerIdle (n : Fin 32) (s : State) :=
  core s (fun d =>
    let due := (d.slt n).pgDue
    let d := d.updSlt n (fun r => { r with timer := false })
    if d.slotSt n = 3 ∧ due then d.slotFree (fun d => d.settleOn n) else d)

/-- FAST_TRIP (R310, R306): the comparator has pulled GATE; with a power-off in the same sample the trip still sets its bit and consumes no retry. -/
def execFastTrip (n : Fin 32) (s : State) :=
  core s (fun d => (d.takeRow n 1 (fun e => e.slotLive n) (fun e => e.trip n 0)).tripDown n)

/-- FAULT_TIME_EXPIRE (R309, R310). -/
def execFaultTimeExpire (n : Fin 32) (s : State) :=
  core s (fun d => d.takeRow n 2 (fun e => e.slotLive n && (e.slt n).timer) (fun e => (e.gate n 1).trip n 1))

/-- RAMP_TMO (R310). -/
def execRampTmo (n : Fin 32) (s : State) :=
  core s (fun d => d.takeRow n 3 (fun e => e.slotSt n == 2) (fun e => (e.gate n 1).trip n 2))

/-- SUPPLY_WINDOW_LOST (R310): UV or OV. -/
def execSupplyWindowLost (n : Fin 32) (ovr : Bool) (s : State) :=
  core s (fun d => d.takeRow n 4 (fun e => e.slotLive n) (fun e => (e.updSlt n (fun r => { r with vinOk := false })).toQual n (if ovr then 5 else 4)))

/-- VOUT_LOST (R310): VOUT below the PG threshold for 10 us with PG asserted. -/
def execVoutLost (n : Fin 32) (s : State) :=
  core s (fun d => d.takeRow n 5 (fun e => e.slotLive n && e.is (R.SLT.STS.PG n)) (fun e => e.toQual n 4))

/-- NOLOAD (R310, R318): in ON; with AUTO_OFF the slot powers down, except from P0 to PERST_N. -/
def execNoload (n : Fin 32) (lv : SlotLevels) (s : State) :=
  core s (fun d =>
    d.takeRow n 8 (fun e => e.slotSt n == 4 && lv.iout < 100) (fun e =>
      let e := (e.slotLevels n lv).raise (.slt n) 6
      if e.is (R.SLT.CTL.AUTO_OFF n) ∧ !e.saving then e.enterDown n else e))

/-- ON_ONE_SECOND (R310). -/
def execOnOneSecond (n : Fin 32) (s : State) :=
  core s (fun d => d.slotFree (fun d => d.takeRow n 9 (fun e => e.slotSt n == 4) (fun e => e.off (R.SLT.STS.TRIES n))))

/-- RETRY_DLY_EXPIRE (R310). -/
def execRetryDlyExpire (n : Fin 32) (s : State) :=
  core s (fun d => d.slotFree (fun d =>
    if d.slotSt n = 5 then (if (d.slt n).vinOk then d.toRamp n else d.toSlot n 1) else d))

/-- SUPPLY_WINDOW_CHANGE (R310): VIN enters or leaves its window. -/
def execSupplyWindowChange (n : Fin 32) (met : Bool) (lv : SlotLevels) (s : State) :=
  core s (fun d => (d.slotLevels n lv).updSlt n (fun r => { r with vinOk := met }))

def execDownLeadExpire (n : Fin 32) (s : State) := aon s (fun d => d.downLead n)

end Sys2Proof.Machine
end

