-- ==== Sys2Proof/Machine/SaveCmds.lean ====
section
/-! DEFINITION. The commands of the persistence sequence (R209 to R228) and of the parity scan (R300): one meaning each. -/
namespace Sys2Proof.Machine

def execGpfPortStart (p : Fin 64) (s : State) := aon s (fun d => d.gpfStart p)

def execGpfPhase1Response (p : Fin 64) (ok : Bool) (s : State) := aon s (fun d => d.gpfOne p ok)

def execGpfPhase2Response (p : Fin 64) (ok : Bool) (s : State) := aon s (fun d => d.gpfTwo p ok)

def execWitnessReadComplete (p : Fin 64) (data : Nat) (ok : Bool) (s : State) := aon s (fun d => d.witnessRead p data ok)

def execGpfWaitExpire (s : State) := aon s Dev.gpfExpire

def execHomeWriteComplete (b ok : Bool) (s : State) := aon s (fun d => d.homeWritten b ok)

def execHomeFlushResponse (b ok : Bool) (s : State) := aon s (fun d => d.homeFlushed b ok)

def execHomeTimeout (b : Bool) (s : State) := aon s (fun d => d.homeTimeout b)

def execP3Timeout (s : State) := aon s Dev.p3Timeout

def execPfailNFall (s : State) := aon s Dev.pfailFall

def execPfailQualified (s : State) := aon s (fun d => (d.pfailQualified).settle)

/-- FREEZE_COMPLETE (R214, R348): every block has acknowledged. -/
def execFreezeComplete (s : State) := aon s (fun d => if d.get R.PRS.STATE.SEQ = 2 then d.toP1.settle else d)

/-- P0_TIMEOUT (R212). -/
def execP0Timeout (s : State) := aon s (fun d => if d.get R.PRS.STATE.SEQ = 2 then d.toP1.settle else d)

/-- PERSIST_DRAIN_COMPLETE (R216). -/
def execPersistDrainComplete (s : State) := aon s (fun d => if d.get R.PRS.STATE.SEQ = 3 ∧ d.drainDone then d.toP2 else d)

def execP1Timeout (s : State) := aon s Dev.p1Timeout

/-- P4_READBACK_COMPLETE (R221): each copy that finished P3 passes the validity rule of R235 or not. -/
def execP4ReadbackComplete (aOk bOk : Bool) (s : State) := aon s (fun d => if d.get R.PRS.STATE.SEQ = 6 then d.endSave aOk bOk else d)

/-- P4_TIMEOUT (R212): no copy has passed by then. -/
def execP4Timeout (s : State) := aon s (fun d => if d.get R.PRS.STATE.SEQ = 6 then d.endSave false false else d)

def execParityScanVisit (off : Nat) (bad : Bool) (s : State) := core s (fun d => (d.scanVisit off bad).settle)

end Sys2Proof.Machine
end

