-- ==== Sys2Proof/Machine/Tick.lean ====
section
/-! DEFINITION. What one CCLK cycle does while no command waits (log entry 1): time, fabric time (R265), slot samples (R319), the counters that
count cycles (R352, R353). -/
namespace Sys2Proof.Machine

/-- Slices with a message held at the policer (R166). -/
def Dev.heldSlices (d : Dev) : List Nat := ((d.buf.msgs.filter (fun m => m.stage == 0)).filterMap (·.slice)).eraseDups

/-- A cycle passes. -/
def Dev.nextCycle (d : Dev) : Dev := { d with time := { d.time with cclk := d.time.cclk + 1 } }

/-- Fabric time advances every second cycle (R15, R265). -/
def Dev.ftCycle (d : Dev) : Dev := if d.time.cclk % 2 = 0 then d.ftTick else d

/-- Every slot is sampled once per microsecond (R319). -/
def Dev.sampleCycle (d : Dev) : Dev :=
  if d.time.cclk % us 1 = 0 then (List.range 32).foldl (fun (d : Dev) n => d.updSlt n (fun r => r.sample (d.slotLive n) 1)) d else d

/-- Cycles with a message held at the policer are counted (R352). -/
def Dev.heldCycle (d : Dev) : Dev := d.heldSlices.foldl (fun (d : Dev) s => d.count (ctrSl s) 0x34 none 1) d

/-- One CCLK cycle. While the logic outside AON is held in reset CCLK stands still. -/
def Dev.tick (d : Dev) : Dev := if d.heldReset then d else d.nextCycle.ftCycle.sampleCycle.heldCycle.ctrTick

end Sys2Proof.Machine
end

