-- ==== Sys2Proof/Machine/Dispatch.lean ====
section
/-! DEFINITION. One arm per command: each calls the meaning of that command. -/
namespace Sys2Proof.Machine

/-- The effect of a command on everything but the queue. -/
def exec (i : Instr) (s : State) : Host.Outcome State Fault Refusal :=
  match i with
  | .bar0Access write off be value => Sys2Proof.Machine.execBar0Access write off be value s
  | .nocFlitArrive r pkt flit err => Sys2Proof.Machine.execNocFlitArrive r pkt flit err s
  | .cfgRd pkt => Sys2Proof.Machine.execCfgRd pkt s
  | .cfgWr pkt => Sys2Proof.Machine.execCfgWr pkt s
  | .tblRd pkt => Sys2Proof.Machine.execTblRd pkt s
  | .tblWr pkt => Sys2Proof.Machine.execTblWr pkt s
  | .rdCpl pkt => Sys2Proof.Machine.execRdCpl pkt s
  | .wrAck pkt => Sys2Proof.Machine.execWrAck pkt s
  | .event pkt => Sys2Proof.Machine.execEvent pkt s
  | .snap pkt => Sys2Proof.Machine.execSnap pkt s
  | .nocReturnedRequest pkt => Sys2Proof.Machine.execNocReturnedRequest pkt s
  | .nocRequestTimeout src tag => Sys2Proof.Machine.execNocRequestTimeout src tag s
  | .nocStall r pkt => Sys2Proof.Machine.execNocStall r pkt s
  | .domainOn d => Sys2Proof.Machine.execDomainOn d s
  | .wakeFail d => Sys2Proof.Machine.execWakeFail d s
  | .gateRequest d gate => Sys2Proof.Machine.execGateRequest d gate s
  | .domainGated d => Sys2Proof.Machine.execDomainGated d s
  | .quiesce r => Sys2Proof.Machine.execQuiesce r s
  | .unquiesce r => Sys2Proof.Machine.execUnquiesce r s
  | .quiesceComplete r => Sys2Proof.Machine.execQuiesceComplete r s
  | .localEnChange r value => Sys2Proof.Machine.execLocalEnChange r value s
  | .refclkLost => Sys2Proof.Machine.execRefclkLost s
  | .clockMonitorWindow c n m a => Sys2Proof.Machine.execClockMonitorWindow c n m a s
  | .rootPllLock => Sys2Proof.Machine.execRootPllLock s
  | .pllLockTimeout => Sys2Proof.Machine.execPllLockTimeout s
  | .linkEnable p => Sys2Proof.Machine.execLinkEnable p s
  | .linkDisable p => Sys2Proof.Machine.execLinkDisable p s
  | .retrain p => Sys2Proof.Machine.execRetrain p s
  | .recoveryExit p => Sys2Proof.Machine.execRecoveryExit p s
  | .trainingComplete p partner => Sys2Proof.Machine.execTrainingComplete p partner s
  | .rateStepComplete p preset => Sys2Proof.Machine.execRateStepComplete p preset s
  | .eqFail p => Sys2Proof.Machine.execEqFail p s
  | .trainingFallback p => Sys2Proof.Machine.execTrainingFallback p s
  | .lockLoss p lanes => Sys2Proof.Machine.execLockLoss p lanes s
  | .recoveryToDetect p => Sys2Proof.Machine.execRecoveryToDetect p s
  | .l1IdleTimeout p => Sys2Proof.Machine.execL1IdleTimeout p s
  | .partnerPmRequest p req => Sys2Proof.Machine.execPartnerPmRequest p req s
  | .l0pWidthChange p width => Sys2Proof.Machine.execL0pWidthChange p width s
  | .linkPmExit p => Sys2Proof.Machine.execLinkPmExit p s
  | .doeRequest fn proto key => Sys2Proof.Machine.execDoeRequest fn proto key s
  | .ideKeyProgram p link ok => Sys2Proof.Machine.execIdeKeyProgram p link ok s
  | .ideIntegrityFail p link forwarded => Sys2Proof.Machine.execIdeIntegrityFail p link forwarded s
  | .prbsRun p => Sys2Proof.Machine.execPrbsRun p s
  | .eyeScanStart p lane => Sys2Proof.Machine.execEyeScanStart p lane s
  | .eyeScanComplete p left right up down => Sys2Proof.Machine.execEyeScanComplete p left right up down s
  | .marginingRequest p lane => Sys2Proof.Machine.execMarginingRequest p lane s
  | .unitReceive pu u => Sys2Proof.Machine.execUnitReceive pu u s
  | .safRelease pu => Sys2Proof.Machine.execSafRelease pu s
  | .creditGrant p kind => Sys2Proof.Machine.execCreditGrant p kind s
  | .reservationReturn sl => Sys2Proof.Machine.execReservationReturn sl s
  | .egressSelect p err => Sys2Proof.Machine.execEgressSelect p err s
  | .holdExpire p => Sys2Proof.Machine.execHoldExpire p s
  | .memResponse p tag kind data poison => Sys2Proof.Machine.execMemResponse p tag kind data poison s
  | .rds req => Sys2Proof.Machine.execRds req s
  | .rda req => Sys2Proof.Machine.execRda req s
  | .inv req => Sys2Proof.Machine.execInv req s
  | .wb req => Sys2Proof.Machine.execWb req s
  | .ncr req => Sys2Proof.Machine.execNcr req s
  | .ncw req => Sys2Proof.Machine.execNcw req s
  | .snoopData p pool line poison => Sys2Proof.Machine.execSnoopData p pool line poison s
  | .birsp p bitag rsp => Sys2Proof.Machine.execBirsp p bitag rsp s
  | .biconflict p pool => Sys2Proof.Machine.execBiconflict p pool s
  | .rspTmo pool what => Sys2Proof.Machine.execRspTmo pool what s
  | .bitagReturn ds tag => Sys2Proof.Machine.execBitagReturn ds tag s
  | .parkRetry ds => Sys2Proof.Machine.execParkRetry ds s
  | .returnedRequestPresent ds key => Sys2Proof.Machine.execReturnedRequestPresent ds key s
  | .atomicop req => Sys2Proof.Machine.execAtomicop req s
  | .predClr ds => Sys2Proof.Machine.execPredClr ds s
  | .recallStart ds mode win port => Sys2Proof.Machine.execRecallStart ds mode win port s
  | .recallComplete ds => Sys2Proof.Machine.execRecallComplete ds s
  | .windowChangeComplete w => Sys2Proof.Machine.execWindowChangeComplete w s
  | .sliceBind c => Sys2Proof.Machine.execSliceBind c s
  | .sliceUnbind c => Sys2Proof.Machine.execSliceUnbind c s
  | .sliceRebind c => Sys2Proof.Machine.execSliceRebind c s
  | .sliceReset c => Sys2Proof.Machine.execSliceReset c s
  | .ruleSet c => Sys2Proof.Machine.execRuleSet c s
  | .extentDefine c => Sys2Proof.Machine.execExtentDefine c s
  | .sliceQos c => Sys2Proof.Machine.execSliceQos c s
  | .dlogConfig c => Sys2Proof.Machine.execDlogConfig c s
  | .windowSet c => Sys2Proof.Machine.execWindowSet c s
  | .sqAssign c => Sys2Proof.Machine.execSqAssign c s
  | .queueQos c => Sys2Proof.Machine.execQueueQos c s
  | .sliceDrainComplete sl => Sys2Proof.Machine.execSliceDrainComplete sl s
  | .drainTimeout sl => Sys2Proof.Machine.execDrainTimeout sl s
  | .generationAdvance sl => Sys2Proof.Machine.execGenerationAdvance sl s
  | .scrubComplete ext ok => Sys2Proof.Machine.execScrubComplete ext ok s
  | .vioClear chk => Sys2Proof.Machine.execVioClear chk s
  | .dlogCiWrite port sl value => Sys2Proof.Machine.execDlogCiWrite port sl value s
  | .fltClr port sl => Sys2Proof.Machine.execFltClr port sl s
  | .cxlioRequest p pasid req => Sys2Proof.Machine.execCxlioRequest p pasid req s
  | .ptmRequest p => Sys2Proof.Machine.execPtmRequest p s
  | .policerAdmit sl => Sys2Proof.Machine.execPolicerAdmit sl s
  | .policerRetry sl => Sys2Proof.Machine.execPolicerRetry sl s
  | .classEntryCommit p cls => Sys2Proof.Machine.execClassEntryCommit p cls s
  | .portShaperWrite p burst value => Sys2Proof.Machine.execPortShaperWrite p burst value s
  | .gateListEnable p => Sys2Proof.Machine.execGateListEnable p s
  | .gateListSwap p => Sys2Proof.Machine.execGateListSwap p s
  | .bankSwap p => Sys2Proof.Machine.execBankSwap p s
  | .queueEnable q => Sys2Proof.Machine.execQueueEnable q s
  | .queueDisable q => Sys2Proof.Machine.execQueueDisable q s
  | .queueAbort q => Sys2Proof.Machine.execQueueAbort q s
  | .queueResume q => Sys2Proof.Machine.execQueueResume q s
  | .tailWrite q value => Sys2Proof.Machine.execTailWrite q value s
  | .descriptorFetch q => Sys2Proof.Machine.execDescriptorFetch q s
  | .fetchReturn q result descs ue => Sys2Proof.Machine.execFetchReturn q result descs ue s
  | .fragmentRead q slot dst result entries ue => Sys2Proof.Machine.execFragmentRead q slot dst result entries ue s
  | .descriptorStart q => Sys2Proof.Machine.execDescriptorStart q s
  | .timerFire t => Sys2Proof.Machine.execTimerFire t s
  | .timerConfig t value => Sys2Proof.Machine.execTimerConfig t value s
  | .queueTurn => Sys2Proof.Machine.execQueueTurn s
  | .burstReadData id data poison => Sys2Proof.Machine.execBurstReadData id data poison s
  | .burstComplete id ok => Sys2Proof.Machine.execBurstComplete id ok s
  | .burstTimeout id => Sys2Proof.Machine.execBurstTimeout id s
  | .skidderReadBack q slot id ok poison data => Sys2Proof.Machine.execSkidderReadBack q slot id ok poison data s
  | .stopComplete q => Sys2Proof.Machine.execStopComplete q s
  | .admStall => Sys2Proof.Machine.execAdmStall s
  | .pfailNFall => Sys2Proof.Machine.execPfailNFall s
  | .pfailQualified => Sys2Proof.Machine.execPfailQualified s
  | .freezeComplete => Sys2Proof.Machine.execFreezeComplete s
  | .p0Timeout => Sys2Proof.Machine.execP0Timeout s
  | .persistDrainComplete => Sys2Proof.Machine.execPersistDrainComplete s
  | .p1Timeout => Sys2Proof.Machine.execP1Timeout s
  | .gpfPortStart p => Sys2Proof.Machine.execGpfPortStart p s
  | .gpfPhase1Response p ok => Sys2Proof.Machine.execGpfPhase1Response p ok s
  | .gpfPhase2Response p ok => Sys2Proof.Machine.execGpfPhase2Response p ok s
  | .witnessReadComplete p data ok => Sys2Proof.Machine.execWitnessReadComplete p data ok s
  | .gpfWaitExpire => Sys2Proof.Machine.execGpfWaitExpire s
  | .homeWriteComplete b ok => Sys2Proof.Machine.execHomeWriteComplete b ok s
  | .homeFlushResponse b ok => Sys2Proof.Machine.execHomeFlushResponse b ok s
  | .homeTimeout b => Sys2Proof.Machine.execHomeTimeout b s
  | .p3Timeout => Sys2Proof.Machine.execP3Timeout s
  | .p4ReadbackComplete aOk bOk => Sys2Proof.Machine.execP4ReadbackComplete aOk bOk s
  | .p4Timeout => Sys2Proof.Machine.execP4Timeout s
  | .parityScanVisit off bad => Sys2Proof.Machine.execParityScanVisit off bad s
  | .perstNAssert => Sys2Proof.Machine.execPerstNAssert s
  | .perstNRelease devId role => Sys2Proof.Machine.execPerstNRelease devId role s
  | .curatorBootComplete bank0Ok bank1Ok meas => Sys2Proof.Machine.execCuratorBootComplete bank0Ok bank1Ok meas s
  | .journalReadComplete read => Sys2Proof.Machine.execJournalReadComplete read s
  | .homeReadComplete a b => Sys2Proof.Machine.execHomeReadComplete a b s
  | .pairAgreement seq img => Sys2Proof.Machine.execPairAgreement seq img s
  | .consistencyPass bound => Sys2Proof.Machine.execConsistencyPass bound s
  | .resumeReady => Sys2Proof.Machine.execResumeReady s
  | .restoreStageTimeout => Sys2Proof.Machine.execRestoreStageTimeout s
  | .journalAppend => Sys2Proof.Machine.execJournalAppend s
  | .norOperationComplete ok => Sys2Proof.Machine.execNorOperationComplete ok s
  | .jrnLag => Sys2Proof.Machine.execJrnLag s
  | .capabilityExchange p rec => Sys2Proof.Machine.execCapabilityExchange p rec s
  | .frameHalfReceive p h => Sys2Proof.Machine.execFrameHalfReceive p h s
  | .replayTimeout p => Sys2Proof.Machine.execReplayTimeout p s
  | .xepinReq p m => Sys2Proof.Machine.execXepinReq p m s
  | .xepinRsp p m => Sys2Proof.Machine.execXepinRsp p m s
  | .mapref p m delta mseq => Sys2Proof.Machine.execMapref p m delta mseq s
  | .maprefTimeout => Sys2Proof.Machine.execMaprefTimeout s
  | .bucketRebalance g b => Sys2Proof.Machine.execBucketRebalance g b s
  | .hb m => Sys2Proof.Machine.execHb m s
  | .sync p depth ta trx => Sys2Proof.Machine.execSync p depth ta trx s
  | .dreq p id t4 => Sys2Proof.Machine.execDreq p id t4 s
  | .drsp p id t4 t5 t6 => Sys2Proof.Machine.execDrsp p id t4 t5 t6 s
  | .syncPeriod => Sys2Proof.Machine.execSyncPeriod s
  | .tsyncInEdge => Sys2Proof.Machine.execTsyncInEdge s
  | .tsyncMiss => Sys2Proof.Machine.execTsyncMiss s
  | .fabricTimeSet value => Sys2Proof.Machine.execFabricTimeSet value s
  | .mack mid result code => Sys2Proof.Machine.execMack mid result code s
  | .prep m => Sys2Proof.Machine.execPrep m s
  | .go mid cfgSeq => Sys2Proof.Machine.execGo mid cfgSeq s
  | .cpl mid c okSeq => Sys2Proof.Machine.execCpl mid c okSeq s
  | .ring prin r => Sys2Proof.Machine.execRing prin r s
  | .notice cause => Sys2Proof.Machine.execNotice cause s
  | .syncData off len => Sys2Proof.Machine.execSyncData off len s
  | .syncEnd img => Sys2Proof.Machine.execSyncEnd img s
  | .fwd sl off value => Sys2Proof.Machine.execFwd sl off value s
  | .localChangeReady => Sys2Proof.Machine.execLocalChangeReady s
  | .hbPeriod fenceOk => Sys2Proof.Machine.execHbPeriod fenceOk s
  | .fenceReadComplete peer => Sys2Proof.Machine.execFenceReadComplete peer s
  | .fenceReadTimeout => Sys2Proof.Machine.execFenceReadTimeout s
  | .fencePoll => Sys2Proof.Machine.execFencePoll s
  | .decideLimit => Sys2Proof.Machine.execDecideLimit s
  | .takeoverResumeComplete => Sys2Proof.Machine.execTakeoverResumeComplete s
  | .handbackComplete => Sys2Proof.Machine.execHandbackComplete s
  | .faultBitClear off mask still => Sys2Proof.Machine.execFaultBitClear off mask still s
  | .injectArm ch => Sys2Proof.Machine.execInjectArm ch s
  | .injectStop ch => Sys2Proof.Machine.execInjectStop ch s
  | .slotOn c => Sys2Proof.Machine.execSlotOn c s
  | .slotOff c => Sys2Proof.Machine.execSlotOff c s
  | .insertionDelayExpire n => Sys2Proof.Machine.execInsertionDelayExpire n s
  | .voutReached n lv => Sys2Proof.Machine.execVoutReached n lv s
  | .pgDelayExpire n => Sys2Proof.Machine.execPgDelayExpire n s
  | .faultTimerIdle n => Sys2Proof.Machine.execFaultTimerIdle n s
  | .fastTrip n => Sys2Proof.Machine.execFastTrip n s
  | .faultTimeExpire n => Sys2Proof.Machine.execFaultTimeExpire n s
  | .rampTmo n => Sys2Proof.Machine.execRampTmo n s
  | .supplyWindowLost n ovr => Sys2Proof.Machine.execSupplyWindowLost n ovr s
  | .voutLost n => Sys2Proof.Machine.execVoutLost n s
  | .noload n lv => Sys2Proof.Machine.execNoload n lv s
  | .onOneSecond n => Sys2Proof.Machine.execOnOneSecond n s
  | .retryDlyExpire n => Sys2Proof.Machine.execRetryDlyExpire n s
  | .downLeadExpire n => Sys2Proof.Machine.execDownLeadExpire n s
  | .commandDoorbell p tail => Sys2Proof.Machine.execCommandDoorbell p tail s
  | .commandFetch => Sys2Proof.Machine.execCommandFetch s
  | .attach p => Sys2Proof.Machine.execAttach p s
  | .detach p => Sys2Proof.Machine.execDetach p s
  | .evciWrite p evci => Sys2Proof.Machine.execEvciWrite p evci s
  | .eventDeliver p => Sys2Proof.Machine.execEventDeliver p s
  | .nop c => Sys2Proof.Machine.execNop c s
  | .featSet c => Sys2Proof.Machine.execFeatSet c s
  | .eventConfig c => Sys2Proof.Machine.execEventConfig c s
  | .lcChallenge c => Sys2Proof.Machine.execLcChallenge c s
  | .persistArm c => Sys2Proof.Machine.execPersistArm c s
  | .pairConfig c => Sys2Proof.Machine.execPairConfig c s
  | .roleChange c => Sys2Proof.Machine.execRoleChange c s
  | .keyInstall c session => Sys2Proof.Machine.execKeyInstall c session s
  | .memIde c ok => Sys2Proof.Machine.execMemIde c ok s
  | .lcAuth c sigOk erased => Sys2Proof.Machine.execLcAuth c sigOk erased s
  | .fwStage c image => Sys2Proof.Machine.execFwStage c image s
  | .fwProgramComplete ok => Sys2Proof.Machine.execFwProgramComplete ok s
  | .fwActivate c => Sys2Proof.Machine.execFwActivate c s
  | .curatorRestart => Sys2Proof.Machine.execCuratorRestart s
  | .watchdogTimeout => Sys2Proof.Machine.execWatchdogTimeout s
  | .curatorRestartComplete => Sys2Proof.Machine.execCuratorRestartComplete s
  | .fmApiRequest via op => Sys2Proof.Machine.execFmApiRequest via op s
  | .sidebandAccess a => Sys2Proof.Machine.execSidebandAccess a s
  | .counterSelect idx lo hi => Sys2Proof.Machine.execCounterSelect idx lo hi s
  | .snapshotEnable => Sys2Proof.Machine.execSnapshotEnable s
  | .snapshotBoundary => Sys2Proof.Machine.execSnapshotBoundary s
  | .snapshotRecordWrite ok => Sys2Proof.Machine.execSnapshotRecordWrite ok s
  | .samplerVisit => Sys2Proof.Machine.execSamplerVisit s
  | .landingRecordWrite ch ok => Sys2Proof.Machine.execLandingRecordWrite ch ok s
  | .landingEnable ch => Sys2Proof.Machine.execLandingEnable ch s
  | .landingDisable ch => Sys2Proof.Machine.execLandingDisable ch s
  | .thermalSample temps => Sys2Proof.Machine.execThermalSample temps s
  | .railFault r mv => Sys2Proof.Machine.execRailFault r mv s
  | .coreRailLow r mv => Sys2Proof.Machine.execCoreRailLow r mv s
  | .aonPowerLoss => Sys2Proof.Machine.execAonPowerLoss s
  | .dstateModeWrite mode => Sys2Proof.Machine.execDstateModeWrite mode s
  | .debugAccess a => Sys2Proof.Machine.execDebugAccess a s
  | .haltReq => Sys2Proof.Machine.execHaltReq s
  | .tapResetExit => Sys2Proof.Machine.execTapResetExit s
  | .boundaryScanLoad => Sys2Proof.Machine.execBoundaryScanLoad s
  | .registerWrite off value be => Sys2Proof.Machine.execRegisterWrite off value be s
  | .pfailNRelease => Sys2Proof.Machine.execPfailNRelease s
  | .vddAonPowerOn => Sys2Proof.Machine.execVddAonPowerOn s
  | .coreRailRestored r mv => Sys2Proof.Machine.execCoreRailRestored r mv s
  | .symbolLockChange pu lane lock => Sys2Proof.Machine.execSymbolLockChange pu lane lock s
  | .prbsCheckerLock p lane => Sys2Proof.Machine.execPrbsCheckerLock p lane s
  | .faultTimerStart n => Sys2Proof.Machine.execFaultTimerStart n s
  | .supplyWindowChange n met lv => Sys2Proof.Machine.execSupplyWindowChange n met lv s
  | .ptmResponse master => Sys2Proof.Machine.execPtmResponse master s
  | .tsyncOutRise => Sys2Proof.Machine.execTsyncOutRise s
  | .tsyncOutFall => Sys2Proof.Machine.execTsyncOutFall s
  | .memoryDeviceReady p gpf => Sys2Proof.Machine.execMemoryDeviceReady p gpf s

end Sys2Proof.Machine
end

