-- ==== Sys2Proof/Safety.lean ====
section
/-! DEFINITION. The terms statements use: a command that gives a next state, the device out of reset, the invariants. -/
namespace Sys2Proof.Machine

/-- The command is executed: exec answers a next state with the same queue, and `P` holds of the device in it. -/
def Gives (c : Instr) (s : State) (P : Dev → Prop) : Prop :=
  ∃ t : State, exec c s = .next t ∧ t.pending = s.pending ∧ P t.dev

/-- The parts of the device beside its registers. -/
inductive Part where
  | time | noc | dom | clk | pins | port | buf | slot | slices | extents | rules | cwins | winchg | dlogs | msix | polices | classes | gcls | queues
  | xgrp | sdumps | ctrsels | ctrvals | qsamps | dirs | dfilt | prs | nor | mgmt | commit | tally | sched | skid | xep | ftr | pair | out | freeCtr
  deriving DecidableEq, Repr

/-- The device without its registers, without what injection on status registers touches (R302), and without the parts named. -/
def Dev.blank (ps : List Part) (d : Dev) : Dev :=
  { regs := [], flaws := [], inj := [], time := if Part.time ∈ ps then {} else d.time, noc := if Part.noc ∈ ps then {} else d.noc, dom := if Part.dom ∈ ps then [] else d.dom,
    clk := if Part.clk ∈ ps then {} else d.clk, pins := if Part.pins ∈ ps then {} else d.pins, port := if Part.port ∈ ps then [] else d.port,
    buf := if Part.buf ∈ ps then {} else d.buf, slot := if Part.slot ∈ ps then [] else d.slot, slices := if Part.slices ∈ ps then [] else d.slices,
    extents := if Part.extents ∈ ps then [] else d.extents, rules := if Part.rules ∈ ps then [] else d.rules, cwins := if Part.cwins ∈ ps then [] else d.cwins,
    winchg := if Part.winchg ∈ ps then [] else d.winchg, dlogs := if Part.dlogs ∈ ps then [] else d.dlogs, msix := if Part.msix ∈ ps then [] else d.msix, polices := if Part.polices ∈ ps then [] else d.polices,
    classes := if Part.classes ∈ ps then [] else d.classes, gcls := if Part.gcls ∈ ps then [] else d.gcls, queues := if Part.queues ∈ ps then [] else d.queues,
    xgrp := if Part.xgrp ∈ ps then {} else d.xgrp, sdumps := if Part.sdumps ∈ ps then [] else d.sdumps, ctrsels := if Part.ctrsels ∈ ps then [] else d.ctrsels,
    ctrvals := if Part.ctrvals ∈ ps then [] else d.ctrvals, qsamps := if Part.qsamps ∈ ps then [] else d.qsamps, dirs := if Part.dirs ∈ ps then [] else d.dirs,
    dfilt := if Part.dfilt ∈ ps then [] else d.dfilt, prs := if Part.prs ∈ ps then {} else d.prs, nor := if Part.nor ∈ ps then {} else d.nor,
    mgmt := if Part.mgmt ∈ ps then {} else d.mgmt, commit := if Part.commit ∈ ps then {} else d.commit, tally := if Part.tally ∈ ps then {} else d.tally,
    sched := if Part.sched ∈ ps then {} else d.sched, skid := if Part.skid ∈ ps then {} else d.skid, xep := if Part.xep ∈ ps then [] else d.xep,
    ftr := if Part.ftr ∈ ps then {} else d.ftr, pair := if Part.pair ∈ ps then {} else d.pair, out := if Part.out ∈ ps then [] else d.out,
    freeCtr := if Part.freeCtr ∈ ps then 0 else d.freeCtr }

/-- Nothing differs between `a` and `b` but the register fields `F`, the parts `ps`, and what injection on status registers touches. -/
def Keeps (F : Fld → Prop) (ps : List Part) (a b : Dev) : Prop :=
  (∀ g : Fld, (∀ f, F f → f.key ≠ g.key) → b.get g = a.get g) ∧ b.blank ps = a.blank ps

/-- One of a list of fields. -/
def oneOf (fs : List Fld) (f : Fld) : Prop := f ∈ fs

/-- A field of a register at an offset from `lo` up to, not including, `hi`. -/
def within (lo hi : Nat) (f : Fld) : Prop := 32 * lo ≤ f.key ∧ f.key < 32 * hi

/-- The fields that raising bit `b` of a status register may change: the bit, FIRST and OVF (R297). -/
def Sts.fields (S : Sts) (b : Nat) : List Fld := [S.bit b, S.firstF, S.bit S.ovf]

/-- The PWRCTL fields and the count that waking a domain may change (R22, R23, R401). -/
def wakeFields (k : Nat) : List Fld := [pwrGate k, pwrGated k, pwrWoke k, R.ST.WAKECNT.COUNT k]

/-- Bit `b` of a status register is set. -/
def Dev.has (d : Dev) (S : Sts) (b : Nat) : Prop := d.is (S.bit b) = true

/-- No register's parity is wrong: none is found wrong when a command updates it (R300). -/
abbrev State.sound (s : State) : Prop := s.dev.flaws = []

/-- The logic outside AON is out of reset and has its clock (R15, R372, R376, R378), and no register's parity is wrong. -/
abbrev State.live (s : State) : Prop := s.dev.heldReset = false ∧ s.sound

/-- The sequencer has not entered SAVED or SAFE (R221). -/
abbrev State.writable (s : State) : Prop := s.dev.get R.PRS.STATE.SEQ < 7

/-- The sequencer serves, or restores: writes of CAT state take effect (R214). -/
abbrev State.configurable (s : State) : Prop := s.dev.get R.PRS.STATE.SEQ ≤ 1

/-- No message is queued for a port whose hold has expired, but a MAPREF that waits for its group (R84, R85, R263): every command leaves it so. -/
abbrev Dev.settled (d : Dev) : Prop := d.buf.msgs.filter d.overdue = []

/-- A message for port `p` that satisfies `f` lies in the buffer. -/
def Dev.queued (d : Dev) (p : Nat) (f : Msg → Prop) : Prop := ∃ m ∈ d.buf.msgs, m.egress = p ∧ f m

/-- No message carries the number the next one gets. -/
abbrev Dev.fresh (d : Dev) : Prop := ∀ m ∈ d.buf.msgs, m.id ≠ d.buf.nextId

/-- The directory slice of a pool address. -/
abbrev Dev.dirAt (d : Dev) (pool : Nat) : DirRt := d.dir (dsOf (pool / 64))

/-- The entry in a way of the set of a pool address. -/
abbrev Dev.entry (d : Dev) (pool way : Nat) : DirEntry := Tbl.get (d.dirAt pool).ents {} (16 * lineSet (pool / 64) + way)

/-- A request for a pool address is looked up at once: its directory slice is on, ingress holds nothing back for it (R23, R291), and no entry of the
slice has a check-bit error (R130). -/
def Dev.reaches (d : Dev) (pool : Nat) : Prop :=
  d.domSt (16 + dsOf (pool / 64)) = .on ∧ d.ingressHeld pool = false ∧ ∀ e ∈ (d.dirAt pool).ents, e.2.flaw = 0

/-- A request as the message that brings it gives it, of the generation its slice had when that message was admitted; without one, of the slice's (R149). -/
def Dev.brought (d : Dev) (q : DirReq) : DirReq := (d.broughtBy q).elim { q with gen := d.gen q.slice } q.ofMsg

/-- No returned request of the line waits (R117), and the request is of its slice's generation (R149). -/
def Dev.admits (d : Dev) (q : DirReq) : Prop :=
  (∀ k ∈ (d.dirAt q.pool).retd, k.req.pool / 64 ≠ q.pool / 64) ∧ (d.brought q).sliceOf.any (fun s => d.gen s != (d.brought q).gen) = false

/-- No transaction and no parked request has the line, a tracker is free, and no request waits for a tracker, a way or the atomic unit (R110, R115,
R116). -/
def Dev.lineFree (d : Dev) (pool : Nat) : Prop :=
  (d.dirAt pool).trk (pool / 64) = none ∧ (∀ k ∈ (d.dirAt pool).park, k.req.pool / 64 ≠ pool / 64 ∧ (k.why = .line ∨ k.why = .disable)) ∧ (d.dirAt pool).inUse < 128

/-- The address lies in coherent window `w`, whose home is this device, with no rebuild and no disable running, and port `p` is eligible; caching requests
are admitted (R93 to R96, R127, R128, R216). -/
def Dev.inWindow (d : Dev) (p pool w : Nat) (c : CWinE) : Prop :=
  d.winOf (pool / 2 ^ 30) = some (w, c) ∧ d.isHome c = true ∧ c.rebuild = false ∧ d.disabling w = false ∧ hasBit c.elig p = true ∧ d.get R.PRS.STATE.SEQ ≠ 3

/-- The Curator waits for the command of this slot of principal `p`'s ring, and has no other under way (R325, R330). -/
def Dev.posed (d : Dev) (p : Nat) (c : PyrCmd) : Prop :=
  d.mgmt.cur = some (p, c.slot) ∧ d.mgmt.down = false ∧ d.mgmt.dead = false ∧ d.commit.mapCmd = none ∧ d.commit.queue = [] ∧ d.commit.change = none ∧
    d.get R.PRS.STATE.SEQ < 3

/-- It passes the checks of format, feature, authentication, freshness and right (R330). -/
def Dev.admitted (d : Dev) (p op : Nat) (c : PyrCmd) : Prop :=
  d.posed p c ∧ c.opcode = op ∧ c.headerOk p = true ∧ d.featureOk p c = true ∧ d.permitted p c = true ∧
    (c.crit = true → (∃ k, (d.keyOf p).key = some k ∧ c.tag k = c.mac) ∧ c.cnt = ((d.keyOf p).cnt + 1) % 2 ^ 64)

/-- Its parameters and the state allow it, no MAPREF is due first, and the device commits alone (R330, R331, R263). -/
def Dev.allows (d : Dev) (p : Nat) (c : PyrCmd) (x : Nat) : Prop :=
  d.paramsOk c x = true ∧ d.cmdConflict p c = none ∧ d.needRefs c = [] ∧ d.committing = false

/-- The completion of a command has been written with a result, in its slot of the ring, with the counter of the principal's key (R326, R329). -/
def Dev.completed (d : Dev) (p : Nat) (c : PyrCmd) (r : Res) : Prop :=
  ∃ ph, ⟨.prinMem p, .pyrCpl, (d.get64 (R.PRIN.CPBL.VALUE p) (R.PRIN.CPBH.VALUE p) + 32 * c.slot) :: leBytes (packPyrCpl c.cid r.status r.code c.slot ph (d.keyOf p).cnt r.result) 32⟩ ∈ d.out

/-- The command has passed its commit point and its action goes on (R331). -/
def Dev.running (d : Dev) (p : Nat) (c : PyrCmd) : Prop := ∃ r ∈ d.mgmt.recs, r.prin = p ∧ r.cmd = c ∧ r.done = false

/-- The configuration has changed once more (R229). -/
def Dev.changedOnce (a b : Dev) : Prop := b.cfgSeq = (a.cfgSeq + 1) % 2 ^ 64

/-- The registers every command may write: the commands completed, MIR messages sent, CFG_SEQ and the changes that wait for the journal. -/
def cmdRegs : List Fld := [R.SEC.CMDCNT.VALUE, R.PAIR.MIRTX.VALUE, R.PRS.CFGSEQ_L.VALUE, R.PRS.CFGSEQ_H.VALUE, R.PRS.JRNSTS.PEND]

/-- The device without what is powered by AON or lies outside it: what PERST_N and the core rails hold in reset (R372, R376). -/
def Dev.outside (d : Dev) : Dev :=
  { d with regs := [], flaws := [], clk := {}, pins := {}, slot := [], prs := {}, nor := {}, out := [], freeCtr := 0 }

/-- Held in reset, or before the root PLL has locked, everything outside AON stands as reset leaves it, and the sequencer is in RESTORE, or in SAVED
after a power failure during RESTORE (R212, R372, R376, R378). -/
def State.resetInv (s : State) : Prop :=
  s.dev.heldReset = true → s.dev.outside = Dev.outside {} ∧ (s.dev.get R.PRS.STATE.SEQ = 0 ∨ s.dev.get R.PRS.STATE.SEQ = 7)

/-- `n` steps end in a next state: no fault, no refusal. -/
def State.safe (n : Nat) (s : State) : Bool :=
  match n with
  | 0 => true
  | k + 1 => match step s with
    | .next t => State.safe k t
    | _ => false

end Sys2Proof.Machine
end

