-- ==== Sys2Proof/Certificates/Slice0/Obligations.lean ====
section
/-! DEFINITION. The statements about the block, in the order of OBLIGATIONS.json. `Gives c s P`: command `c` is executed in state `s` and `P` holds of the
device after it; `Keeps fs a b`: nothing differs but the register fields `fs` (Sys2Proof/Safety.lean). -/
open Sys2Proof Sys2Proof.Machine

/-- R28: dimension order, and the route depends on the source and destination routers alone. -/
def Obligations.PacketsRouteByDimension : Prop :=
  ∀ (r : Fin 36) (p : Packet), p.dstCol < 6 → p.dstRow < 6 →
    let col := r.val % 6
    let row := r.val / 6
    let toward := fun (a b i : Nat) => if a ≤ b then a + i else a - i
    let dc := (p.dstCol - col) + (col - p.dstCol)
    let dr := (p.dstRow - row) + (row - p.dstRow)
    routeFrom (dc + dr) r p =
        (List.range (dc + 1)).map (fun i => 6 * row + toward col p.dstCol i) ++
          (List.range dr).map (fun i => 6 * toward row p.dstRow (i + 1) + p.dstCol) ∧
      (∀ q : Packet, q.dstCol = p.dstCol → q.dstRow = p.dstRow → ∀ n, routeFrom n r q = routeFrom n r p) ∧
      ∀ (s : State) (q : Nat) (e : Nat × Nat × Packet), s.live → p.typ < 8 → 0 < dc + dr → (routeFrom (dc + dr) r p)[1]? = some q → s.dev.quiesced q = false → s.dev.inj = [] →
        s.dev.arrivalOf r p = some e →
        Gives (.nocFlitArrive r p 0 .none) s (fun d =>
          d.noc = { s.dev.noc with transit := s.dev.noc.transit.erase e ++ [(r.val, q, p)] } ∧ Keeps (oneOf []) [.noc] s.dev d)

/-- R30, R26: the checks on a flit; R29: a path's order; R33: four packets wait for a domain; R36: waiting before a quiesced router; R31, R32, R34: entering the
mesh. -/
def Obligations.RoutersCheckAndForwardFlits : Prop :=
  ∀ (r : Fin 36) (p : Packet) (s : State), s.live →
    (∀ x, s.dev.arrivalOf r p = some x →
      (∀ e : Ecc, e = .double ∨ (e = .none ∧ 8 ≤ p.typ) → s.dev.backedUp r p = false →
        Gives (.nocFlitArrive r p 0 e) s (fun d =>
          d.has (.noc r) 2 ∧ d.noc = { s.dev.noc with transit := s.dev.noc.transit.erase x } ∧
            Keeps (oneOf ((Sts.noc r).fields 2)) [.noc] s.dev d)) ∧
      (∀ q, p.typ < 8 → nextHop r p = some q → s.dev.quiesced q = true → (p.dst = q → p.dstPort ≠ 2) →
        Gives (.nocFlitArrive r p 0 .none) s (fun d =>
          d.noc = { s.dev.noc with transit := s.dev.noc.transit.erase x, waiting := s.dev.noc.waiting ++ [(r.val, p)] } ∧
            Keeps (oneOf []) [.noc] s.dev d)) ∧
      (p.typ < 8 → nextHop r p = none → (p.dstPort < 2 → hasBit (s.dev.get (R.NOC.CTL.LOCAL_EN r)) p.dstPort = true) →
        (∀ k, p.dstPort = 0 → routerDom r = some k → s.dev.domSt k = .on) →
        Gives (.nocFlitArrive r p 0 .none) s (fun d =>
          d.noc = { s.dev.noc with transit := s.dev.noc.transit.erase x, delivered := s.dev.noc.delivered ++ [p] } ∧
            Keeps (oneOf []) [.noc] s.dev d)) ∧
      (s.dev.backedUp r p = true → ∀ e : Ecc, Gives (.nocFlitArrive r p 0 e) s (fun d => Keeps (oneOf []) [] s.dev d))) ∧
    ((∃ u, (u, r.val, p) ∈ s.dev.noc.transit) → s.dev.arrivalOf r p = none → ∀ e : Ecc, Gives (.nocFlitArrive r p 0 e) s (fun d => Keeps (oneOf []) [] s.dev d)) ∧
    (∀ src q, sourceOf p = some src → src ≠ .bridge → p.src = r.val → p.isReq = true → (∀ u, (u, r.val, p) ∉ s.dev.noc.transit) → s.dev.findReq src p.tag = none →
      nextHop r p = some q → s.dev.quiesced q = false → s.dev.inj = [] →
      (s.dev.quiesced r = false → Gives (.nocFlitArrive r p 0 .none) s (fun d =>
        d.noc = { s.dev.noc with transit := s.dev.noc.transit ++ [(r.val, q, s.dev.seal r p)], reqs := s.dev.noc.reqs ++ [⟨src, p.tag, p.typ % 2 == 1, p.addr, s.dev.time.cclk⟩] } ∧
          (s.dev.is (R.NOC.CTL.E2E_GEN r) = true → p.typ % 2 = 1 → (s.dev.seal r p).e2e = true ∧ (s.dev.seal r p).crc = (s.dev.seal r p).crc32) ∧
          Keeps (oneOf []) [.noc] s.dev d)) ∧
      (s.dev.quiesced r = true → Gives (.nocFlitArrive r p 0 .none) s (fun d =>
        d.noc = { s.dev.noc with locals := s.dev.noc.locals ++ [(r.val, p)], reqs := s.dev.noc.reqs ++ [⟨src, p.tag, p.typ % 2 == 1, p.addr, s.dev.time.cclk⟩] } ∧
          Keeps (oneOf []) [.noc] s.dev d))) ∧
    (∀ n, 0 < n → n ≤ p.data.length →
      Gives (.nocFlitArrive r p n .single) s (fun d =>
        d.get (R.NOC.STS.CE_CNT r) = min (s.dev.get (R.NOC.STS.CE_CNT r) + 1) 255 ∧
          (s.dev.get (R.NOC.CTL.CE_THRESH r) ≤ min (s.dev.get (R.NOC.STS.CE_CNT r) + 1) 255 → d.has (.noc r) 12) ∧
          Keeps (oneOf (R.NOC.STS.CE_CNT r :: (Sts.noc r).fields 12)) [] s.dev d) ∧
      Gives (.nocFlitArrive r p n .double) s (fun d =>
        (∀ u v, (u, v, p) ∈ s.dev.noc.transit → (u, v, { p with poison := true }) ∈ d.noc.transit) ∧
          (∀ e ∈ s.dev.noc.transit, e.2.2 ≠ p → e ∈ d.noc.transit) ∧ Keeps (oneOf []) [.noc] s.dev d))

/-- R402, R34: the management function bridge. -/
def Obligations.Bar0AccessBecomesRequest : Prop :=
  ∀ (write : Bool) (off be value : Nat) (s : State), s.live →
    (bar0Target (off / 4 * 4) = none →
      Gives (.bar0Access write off be value) s (fun d =>
        d.out = (if write then s.dev.out else s.dev.out ++ [⟨.bar0, .bar0Ca, [s.dev.noc.nextTag]⟩]) ∧ Keeps (oneOf []) [.out] s.dev d)) ∧
    (∀ r port, bar0Target (off / 4 * 4) = some (r, port) →
      Gives (.bar0Access write off be value) s (fun d =>
        ∃ p : Packet, p.dst = r ∧ p.dstPort = port ∧ p.src = 0 ∧ p.srcPort = 0 ∧ p.vc = false ∧ p.addr = off / 4 * 4 ∧ p.tag = s.dev.noc.nextTag ∧
          p.typ = (if isTable (off / 4 * 4) then 2 else 0) + (if write then 1 else 0) ∧
          (s.dev.seal 0 p).e2e = (write && s.dev.is (R.NOC.CTL.E2E_GEN 0)) ∧ ((s.dev.seal 0 p).e2e = true → (s.dev.seal 0 p).crc = (s.dev.seal 0 p).crc32) ∧
          d.noc.reqs = s.dev.noc.reqs ++ [⟨.bridge, p.tag, write, p.addr, s.dev.time.cclk⟩] ∧ d.noc.nextTag = (p.tag + 1) % 1024 ∧
          (s.dev.quiesced 0 = false ∨ (r = 0 ∧ port = 2) →
            d.noc.transit = s.dev.noc.transit ++ [(0, 0, s.dev.seal 0 p)] ∧ d.noc.bridge = s.dev.noc.bridge) ∧
          (s.dev.quiesced 0 = true → ¬(r = 0 ∧ port = 2) →
            d.noc.bridge = s.dev.noc.bridge ++ [p] ∧ d.noc.transit = s.dev.noc.transit) ∧
          Keeps (oneOf []) [.noc] s.dev d))

/-- R32, R36, R26: requests and what closes them. -/
def Obligations.NocAnswersCloseRequests : Prop :=
  ∀ (s : State), s.live →
    (∀ (p : Packet) (src : NocSrc) (q : NocReq), srcOf p = some src → s.dev.findReq src p.tag = some q →
      let closed := { s.dev.noc with delivered := s.dev.noc.delivered.erase p, reqs := s.dev.noc.reqs.erase q }
      let failed := if q.src = .bridge ∧ q.write = false then s.dev.out ++ [⟨.bar0, .bar0Ca, [q.tag]⟩] else s.dev.out
      (p.err = 0 → p.poison = false → src = .bridge →
        Gives (.rdCpl p) s (fun d => d.noc = closed ∧ d.out = s.dev.out ++ [⟨.bar0, .bar0Cpl, [q.tag, lowWord p.data]⟩] ∧
          Keeps (oneOf []) [.noc, .out] s.dev d)) ∧
      (p.err ≠ 0 ∨ p.poison = true →
        Gives (.rdCpl p) s (fun d => d.noc = closed ∧ d.out = failed ∧ Keeps (oneOf []) [.noc, .out] s.dev d)) ∧
      (p.err = 0 → Gives (.wrAck p) s (fun d => d.noc = closed ∧ Keeps (oneOf []) [.noc] s.dev d)) ∧
      (p.ret = true → p.err ≠ 0 →
        Gives (.nocReturnedRequest p) s (fun d => d.noc = closed ∧ d.out = failed ∧ Keeps (oneOf []) [.noc, .out] s.dev d))) ∧
    (∀ (src : NocSrc) (tag : Nat) (q : NocReq), s.dev.findReq src tag = some q →
      Gives (.nocRequestTimeout src tag) s (fun d =>
        d.noc.reqs = s.dev.noc.reqs.erase q ∧ d.has (.noc src.at.1) 6 ∧
          d.out = (if q.src = .bridge ∧ q.write = false then s.dev.out ++ [⟨.bar0, .bar0Ca, [q.tag]⟩] else s.dev.out) ∧
          (src = .bridge → ∀ p ∈ d.noc.bridge, p.tag ≠ tag) ∧
          Keeps (oneOf ((Sts.noc src.at.1).fields 6)) [.noc, .out] s.dev d)) ∧
    (∀ (r : Fin 36) (p : Packet), (r.val, p) ∈ s.dev.noc.waiting → p.isReq = false →
      Gives (.nocStall r p) s (fun d => d.noc = { s.dev.noc with waiting := s.dev.noc.waiting.erase (r.val, p) } ∧ d.has (.noc r) 3 ∧
        Keeps (oneOf ((Sts.noc r).fields 3)) [.noc] s.dev d)) ∧
    (∀ (r : Fin 36) (p : Packet) (q : Nat), (r.val, p) ∈ s.dev.noc.waiting → p.isReq = true → s.dev.inj = [] →
      nextHop r (p.returned 1) = some q → s.dev.quiesced q = false →
      Gives (.nocStall r p) s (fun d => d.has (.noc r) 3 ∧
        d.noc = { s.dev.noc with waiting := s.dev.noc.waiting.erase (r.val, p), transit := s.dev.noc.transit ++ [(r.val, q, p.returned 1)] } ∧
        (p.returned 1).ret = true ∧ (p.returned 1).err = 1 ∧ (p.returned 1).dst = p.src ∧
        Keeps (oneOf ((Sts.noc r).fields 3)) [.noc] s.dev d)) ∧
    (∀ p : Packet,
      Gives (.event p) s (fun d =>
        d.noc = { s.dev.noc with delivered := s.dev.noc.delivered.erase p, events := if p.poison then s.dev.noc.events else s.dev.noc.events ++ [p] } ∧
          Keeps (oneOf []) [.noc] s.dev d) ∧
      Gives (.snap p) s (fun d =>
        d.noc = { s.dev.noc with delivered := s.dev.noc.delivered.erase p, snaps := if p.poison then s.dev.noc.snaps else s.dev.noc.snaps ++ [p] } ∧
          Keeps (oneOf []) [.noc] s.dev d))

/-- R34, R36: quiescing; R20, R22, R33: power domains. -/
def Obligations.QuiescingAndGating : Prop :=
  (∀ (r : Fin 36) (s : State), s.live →
    (s.writable → Gives (.quiesce r) s (fun d => d.quiesced r = true ∧ Keeps (oneOf [R.NOC.CTL.QUIESCE r]) [] s.dev d)) ∧
    (s.dev.quiesced r = true → s.dev.routerEmpty r = true →
      Gives (.quiesceComplete r) s (fun d => d.is (R.NOC.STS.QUIESCED r) = true ∧ Keeps (oneOf [R.NOC.STS.QUIESCED r]) [] s.dev d)) ∧
    (s.writable → Gives (.unquiesce r) s (fun d =>
      d.quiesced r = false ∧ d.is (R.NOC.STS.QUIESCED r) = false ∧
        (∀ e ∈ s.dev.noc.waiting, nextHop e.1 e.2 = some r.val → (e.1, r.val, e.2) ∈ d.noc.transit) ∧
        d.noc.waiting = s.dev.noc.waiting.filter (fun e => nextHop e.1 e.2 != some r.val) ∧
        (r = 0 → d.noc.bridge = [] ∧ ∀ p ∈ s.dev.noc.bridge, (0, 0, s.dev.seal 0 p) ∈ d.noc.transit) ∧
        (∀ e ∈ s.dev.noc.locals, e.1 = r.val → (r.val, r.val, s.dev.seal r e.2) ∈ d.noc.transit) ∧
        (r ≠ 0 → d.noc.bridge = s.dev.noc.bridge) ∧
        Keeps (oneOf [R.NOC.CTL.QUIESCE r, R.NOC.STS.QUIESCED r]) [.noc] s.dev d))) ∧
  (∀ (k : Fin 32) (s : State), s.live →
    (s.writable → s.dev.mayGate k = true → s.dev.domSt k = .on →
      Gives (.gateRequest k true) s (fun d => d.domSt k = .entering ∧ d.get (pwrGate k) = 1 ∧ (∀ j, j ≠ k.val → d.domSt j = s.dev.domSt j) ∧
        Keeps (oneOf [pwrGate k]) [.dom] s.dev d)) ∧
    (s.writable → s.dev.mayGate k = false →
      Gives (.gateRequest k true) s (fun d => d.get (pwrGate k) = 0 ∧ d.get (pwrRej k) = 1 ∧ Keeps (oneOf [pwrGate k, pwrRej k]) [] s.dev d)) ∧
    (s.writable → s.dev.domSt k = .gated →
      Gives (.gateRequest k false) s (fun d => d.domSt k = .waking ∧ d.get (pwrGate k) = 0 ∧ (∀ j, j ≠ k.val → d.domSt j = s.dev.domSt j) ∧
        Keeps (oneOf [pwrGate k, pwrGated k]) [.dom] s.dev d)) ∧
    (s.dev.domSt k = .entering →
      Gives (.domainGated k) s (fun d => d.domSt k = .gated ∧ d.get (pwrGated k) = 1 ∧ (∀ j, j ≠ k.val → d.domSt j = s.dev.domSt j) ∧
        Keeps (oneOf [pwrGated k]) [.dom] s.dev d)) ∧
    (s.dev.domSt k = .waking →
      Gives (.domainOn k) s (fun d => d.domSt k = .on ∧ d.get (pwrGate k) = 0 ∧ d.get (pwrGated k) = 0 ∧
        d.noc = { s.dev.noc with held := s.dev.noc.held.filter (fun e => e.1 != k.val), delivered := s.dev.noc.delivered ++ (s.dev.noc.held.filter (fun e => e.1 == k.val)).map (·.2) } ∧
        (∀ j, j ≠ k.val → d.domSt j = s.dev.domSt j) ∧ Keeps (oneOf [pwrGate k, pwrGated k]) [.dom, .noc] s.dev d)) ∧
    (s.dev.domSt k = .waking → s.dev.settled → (∀ e ∈ s.dev.noc.held, e.1 = k.val → e.2.isReq = false) → k.val < 16 →
      Gives (.wakeFail k) s (fun d => d.domSt k = .gated ∧ d.get (pwrGated k) = 1 ∧ d.has (.noc (domRouter k)) 4 ∧
        d.noc = { s.dev.noc with held := s.dev.noc.held.filter (fun e => e.1 != k.val) } ∧
        (∀ j, j ≠ k.val → d.domSt j = s.dev.domSt j) ∧
        Keeps (oneOf (pwrGated k :: (Sts.noc (domRouter k)).fields 4)) [.dom, .noc] s.dev d)))

/-- R35. -/
def Obligations.LocalEnChangesOnlyWhileQuiesced : Prop :=
  ∀ (r : Fin 36) (w : Word) (s : State), s.live → s.writable → bits w.toNat 2 2 ≠ s.dev.get (R.NOC.CTL.LOCAL_EN r) →
    Gives (.localEnChange r w) s (fun d =>
      (s.dev.is (R.NOC.STS.QUIESCED r) = false → d.get (R.NOC.CTL.LOCAL_EN r) = s.dev.get (R.NOC.CTL.LOCAL_EN r) ∧ d.has (.noc r) 7) ∧
      (s.dev.is (R.NOC.STS.QUIESCED r) = true → d.get (R.NOC.CTL.LOCAL_EN r) = bits w.toNat 2 2) ∧
      d.get (R.NOC.CTL.QUIESCE r) = bits w.toNat 0 1 ∧ d.get (R.NOC.CTL.E2E_GEN r) = bits w.toNat 1 1 ∧
      d.get (R.NOC.CTL.EVT_MASK r) = bits w.toNat 16 7 ∧ d.get (R.NOC.CTL.CE_THRESH r) = bits w.toNat 24 8 ∧
      Keeps (oneOf ([R.NOC.CTL.QUIESCE r, R.NOC.CTL.E2E_GEN r, R.NOC.CTL.LOCAL_EN r, R.NOC.CTL.EVT_MASK r, R.NOC.CTL.CE_THRESH r, R.NOC.STS.QUIESCED r] ++
        (Sts.noc r).fields 7)) [.noc] s.dev d)

/-- R17, R18, R378. -/
def Obligations.ClocksAndRootPll : Prop :=
  ∀ (s : State), s.sound →
    (s.dev.clk.refclk = true →
      Gives .refclkLost s (fun d => d.clk.refclk = false ∧ d.has .ctp 0 ∧ (∀ p, p < 64 → d.get (R.PU.LNKSTS.SYMLOCK p) = 0) ∧
        (s.dev.clk.locked = true → d.clk.holdover = true) ∧ (s.dev.clk.locked = true → s.dev.clk.holdover = false → d.has .ctp 1) ∧
        Keeps (fun f => within 0x200 0x204 f ∨ ∃ p, p < 64 ∧ f = R.PU.LNKSTS.SYMLOCK p) [.clk, .port] s.dev d)) ∧
    (∀ (e : Fin 4 → Int), s.dev.clk.locked = true →
      Gives (.clockMonitorWindow (e 0) (e 1) (e 2) (e 3)) s (fun d => d.clk = { s.dev.clk with refclk := true } ∧
        (∀ k : Fin 4, d.get (R.FREQERR.PPM k) = signed 16 (e k) ∧ (e k < -1000 ∨ 1000 < e k → d.has .ctp (2 + k.val)) ∧
          (-1000 ≤ e k → e k ≤ 1000 → s.dev.is (Sts.ctp.bit (2 + k.val)) = false → d.is (Sts.ctp.bit (2 + k.val)) = false)) ∧
        Keeps (fun f => within 0x200 0x204 f ∨ ∃ k, k < 4 ∧ f = R.FREQERR.PPM k) [.clk] s.dev d)) ∧
    (s.dev.pins.perstN = true → s.dev.clk.locked = false → s.dev.clk.pllFail = false → s.dev.clk.aon = true →
      Gives .rootPllLock s (fun d => d.clk.locked = true ∧ d.clk.onMclk = true ∧ d.has .ctp 6 ∧ (s.dev.clk.coreLow = [] → d.heldReset = false) ∧
        Keeps (oneOf (Sts.ctp.fields 6)) [.clk] s.dev d)) ∧
    (s.dev.pins.perstN = true → s.dev.clk.locked = false → s.dev.clk.pllFail = false →
      Gives .pllLockTimeout s (fun d => d.heldReset = true ∧ d.errNLow = true ∧ d.get R.TOP.RSTCAUSE.PLL = 1 ∧
        Keeps (oneOf [R.TOP.RSTCAUSE.PLL]) [.clk] s.dev d))

/-- R370, R383 to R385, R396. -/
def Obligations.RailsTemperatureAndMode : Prop :=
  ∀ (s : State), s.sound →
    (∀ (r : Fin 7) (mv : Nat),
      (mv < (railRange r).1 ∨ (railRange r).2 < mv →
        Gives (.railFault r mv) s (fun d => d.has .ctp (9 + r.val) ∧ r.val ∈ d.clk.railsOut ∧ Keeps (oneOf (Sts.ctp.fields (9 + r.val))) [.clk, .out] s.dev d)) ∧
      ((railRange r).1 ≤ mv → mv ≤ (railRange r).2 →
        Gives (.railFault r mv) s (fun d => r.val ∉ d.clk.railsOut ∧ Keeps (oneOf []) [.clk] s.dev d))) ∧
    (∀ (temps : List Int), s.live → temps.length = 20 →
      Gives (.thermalSample temps) s (fun d =>
        (∀ i (h : i < temps.length), d.get (R.TEMP.C i) = signed 8 (temps[i]'h)) ∧
        d.get R.TOP.THRSTS.HIGH = signed 8 (hottest temps).1 ∧ d.get R.TOP.THRSTS.SENSOR = (hottest temps).2 % 32 ∧
        (s.dev.saving = false → (s.dev.get R.TOP.THRCTL.THROTTLE_C : Int) ≤ (hottest temps).1 →
          d.get R.TOP.THRSTS.ENGAGED = 1 ∧ (s.dev.is R.TOP.THRSTS.ENGAGED = false → d.has .ctp 7)) ∧
        (s.dev.saving = false → (hottest temps).1 ≤ (s.dev.get R.TOP.THRCTL.THROTTLE_C : Int) - 5 → d.get R.TOP.THRSTS.ENGAGED = 0) ∧
        (112 ≤ (hottest temps).1 → d.has .ctp 8) ∧
        Keeps (fun f => within 0x200 0x204 f ∨ (∃ i, i < 20 ∧ f = R.TEMP.C i) ∨
          oneOf [R.TOP.THRSTS.HIGH, R.TOP.THRSTS.SENSOR, R.TOP.THRSTS.ENGAGED, R.TOP.THRSTS.COUNT] f) [] s.dev d)) ∧
    (∀ (m : Fin 4), s.live → s.writable →
      let ok := (s.dev.get R.TOP.DSTATE.MODE = 1 ∧ m = 2) ∨ (s.dev.get R.TOP.DSTATE.MODE = 2 ∧ m = 1)
      (ok → Gives (.dstateModeWrite m) s (fun d => d.get R.TOP.DSTATE.MODE = m ∧ Keeps (oneOf [R.TOP.DSTATE.MODE]) [] s.dev d)) ∧
      (¬ok → Gives (.dstateModeWrite m) s (fun d => d.get R.TOP.DSTATE.REJ = 1 ∧ Keeps (oneOf [R.TOP.DSTATE.REJ]) [] s.dev d)))

/-- R44, R45. -/
def Obligations.LinkEnableAndDisable : Prop :=
  ∀ (p : Fin 64) (s : State), s.live → s.configurable → s.dev.committing = false →
    (s.dev.is (R.PU.LNKCTL.ENABLE p) = false → s.dev.cfgLegal p = true →
      Gives (.linkEnable p) s (fun d =>
        d.is (R.PU.LNKCTL.ENABLE p) = true ∧ (d.prt p).ex = true ∧ (d.prt p).width = s.dev.cfgUnits p ∧ d.cfgSeq = (s.dev.cfgSeq + 1) % 2 ^ 64 ∧
        d.linkSt p = (if s.dev.powerOk p = true ∧ (s.dev.prt p).held = false then (if s.dev.is (R.PU.LNKCTL.DIAG p) then 5 else 2) else 1) ∧
        (∀ q, q < 64 → q ≠ p.val → d.prt q = s.dev.prt q ∧ d.linkSt q = s.dev.linkSt q))) ∧
    (s.dev.is (R.PU.LNKCTL.ENABLE p) = false → s.dev.cfgLegal p = false →
      Gives (.linkEnable p) s (fun d => d.is (R.PU.LNKCTL.ENABLE p) = false ∧ d.has (.pu p) puREJ ∧ Keeps (oneOf (R.PU.LNKCTL.ENABLE p :: (Sts.pu p).fields puREJ ++ wakeFields (p / 4))) [.dom] s.dev d)) ∧
    (s.dev.is (R.PU.LNKCTL.ENABLE p) = true →
      Gives (.linkDisable p) s (fun d =>
        d.is (R.PU.LNKCTL.ENABLE p) = false ∧ (d.prt p).ex = false ∧ d.linkSt p = 0 ∧ (d.prt p).hold = holdExpired))

/-- R39, R45, R46, R48. -/
def Obligations.TrainingReachesUpOrRefuses : Prop :=
  ∀ (p : Fin 64) (s : State), s.live → (s.dev.prt p).ex = true →
    (∀ q : Partner, s.dev.linkSt p = 2 →
      (s.dev.refused39 p q = true → Gives (.trainingComplete p q) s (fun d => d.linkSt p = 0 ∧ (d.prt p).refused = true ∧ d.has (.pu p) puTYPE)) ∧
      (s.dev.refused39 p q = false → s.dev.targetRate p q = 0 →
        Gives (.trainingComplete p q) s (fun d => d.linkSt p = 4 ∧ d.has (.pu p) puUP ∧ (d.prt p).hold = holdService ∧ (d.prt p).partner = q)) ∧
      (s.dev.refused39 p q = false → s.dev.targetRate p q ≠ 0 →
        Gives (.trainingComplete p q) s (fun d => d.linkSt p = 3 ∧ (d.prt p).partner = q ∧ (d.prt p).target = s.dev.targetRate p q ∧
          Keeps (oneOf [R.PU.LNKSTS.STATE p]) [.port, .out] s.dev d))) ∧
    (∀ n : Nat, s.dev.linkSt p = 3 →
      Gives (.rateStepComplete p n) s (fun d => d.get (R.PU.LNKSTS.RATE p) = s.dev.nextRate p % 8 ∧
        (s.dev.nextRate p = (s.dev.prt p).target → d.linkSt p = 4 ∧ d.has (.pu p) puUP) ∧
        (s.dev.nextRate p ≠ (s.dev.prt p).target → d.linkSt p = 3))) ∧
    (∀ b : Nat, s.dev.linkSt p = 3 → eqBit (s.dev.nextRate p) = some b →
      Gives (.eqFail p) s (fun d => hasBit (d.get (R.PU.EQSTS.FAILED p)) b = true ∧ d.has (.pu p) puEQ ∧ d.linkSt p = 4)) ∧
    (s.dev.linkSt p = 2 ∨ s.dev.linkSt p = 3 →
      Gives (.trainingFallback p) s (fun d => d.linkSt p = 2 ∧ d.get (R.PU.LNKSTS.RATE p) = 0 ∧ Keeps (oneOf [R.PU.LNKSTS.STATE p, R.PU.LNKSTS.RATE p]) [.out] s.dev d))

/-- R52 to R54. -/
def Obligations.LaneLossAndLinkDown : Prop :=
  ∀ (p : Fin 64) (s : State), s.live →
    ((s.dev.prt p).ex = true → s.dev.linkSt p = 4 →
      (∀ lanes c rev, s.dev.role p ≠ 3 → s.dev.role p ≠ 4 → s.dev.lostLanes p lanes ≠ [] →
        s.dev.legalWidth p (laneCount (s.dev.prt p).width - 1) (s.dev.marked p ++ s.dev.lostLanes p lanes) = some (c, rev) →
        Gives (.lockLoss p lanes) s (fun d => d.linkSt p = 4 ∧ d.get (R.PU.LNKSTS.LWIDTH p) = c % 8 ∧ d.has (.pu p) puLANE ∧ (d.prt p).recov = true ∧ d.buf = s.dev.buf)) ∧
      (∀ lanes, s.dev.lostLanes p lanes = [] → Gives (.lockLoss p lanes) s (fun d => Keeps (oneOf []) [] s.dev d)) ∧
      (∀ lanes, s.dev.lostLanes p lanes ≠ [] →
        s.dev.legalWidth p (laneCount (s.dev.prt p).width - 1) (s.dev.marked p ++ s.dev.lostLanes p lanes) = none →
        Gives (.lockLoss p lanes) s (fun d => d.has (.pu p) puDOWN ∧ d.get (R.PU.ERRSTS.DOWN_CAUSE p) = 1 ∧
          d.get (R.PU.LNKSTS.LNKDN_CNT p) = min (s.dev.get (R.PU.LNKSTS.LNKDN_CNT p) + 1) 255 ∧ d.linkSt p ≠ 4)) ∧
      Gives (.recoveryToDetect p) s (fun d => d.has (.pu p) puDOWN ∧ d.get (R.PU.ERRSTS.DOWN_CAUSE p) = 2 ∧
        d.get (R.PU.LNKSTS.LNKDN_CNT p) = min (s.dev.get (R.PU.LNKSTS.LNKDN_CNT p) + 1) 255 ∧ d.linkSt p ≠ 4) ∧
      (s.writable → Gives (.retrain p) s (fun d => d.get (R.PU.LNKCTL.RETRAIN p) = 1 ∧ (d.prt p).recov = true ∧ d.linkSt p = 4 ∧
        Keeps (oneOf (R.PU.LNKCTL.RETRAIN p :: wakeFields (p / 4))) [.port, .out, .dom] s.dev d)) ∧
      Gives (.recoveryExit p) s (fun d => d.get (R.PU.LNKCTL.RETRAIN p) = 0 ∧ (d.prt p).recov = false ∧
        Keeps (oneOf [R.PU.LNKCTL.RETRAIN p, R.PU.LNKSTS.PM p, R.PU.LNKSTS.LWIDTH p]) [.port, .out] s.dev d)) ∧
    (∀ (lane : Fin 4) (lock : Bool),
      Gives (.symbolLockChange p lane lock) s (fun d =>
        (∀ i : Fin 4, hasBit (d.get (R.PU.LNKSTS.SYMLOCK p)) i = if i = lane then lock else hasBit (s.dev.get (R.PU.LNKSTS.SYMLOCK p)) i) ∧
        (∀ q, s.dev.portOf p = some q → (d.prt q).ex = true → ∀ i, i < laneCount (d.prt q).width → (Tbl.get? (d.prt q).unlockAt i).isSome = d.laneTimed q i) ∧
        Keeps (oneOf [R.PU.LNKSTS.SYMLOCK p]) [.port] s.dev d))

/-- R49 to R51. -/
def Obligations.LinkPowerStates : Prop :=
  ∀ (p : Fin 64) (s : State), s.live →
    (s.dev.isHost p = true → s.dev.isUp p = true → s.dev.is (R.PU.PMCTL.L1_EN p) = true → s.dev.get (R.PU.LNKSTS.PM p) < 2 →
      Gives (.l1IdleTimeout p) s (fun d => d.get (R.PU.LNKSTS.PM p) = (if s.dev.is (R.PU.PMCTL.DORMANT_EN p) then 3 else 2) ∧ d.mayTransmit p = false ∧
        Keeps (oneOf [R.PU.LNKSTS.PM p]) [.port, .out] s.dev d)) ∧
    (s.dev.isMem p = true → s.dev.isUp p = true → s.dev.is (R.PU.PMCTL.L1_EN p) = true →
      Gives (.partnerPmRequest p .l1) s (fun d => d.get (R.PU.LNKSTS.PM p) = (if s.dev.is (R.PU.PMCTL.DORMANT_EN p) then 3 else 2) ∧
        Keeps (oneOf [R.PU.LNKSTS.PM p]) [.port, .out] s.dev d)) ∧
    (∀ w, s.dev.isHost p = true ∨ s.dev.isMem p = true → s.dev.isUp p = true → 2 ≤ s.dev.get (R.PU.LNKSTS.FLIT p) → 1 ≤ w → w ≤ 5 → w - 1 < (s.dev.prt p).neg →
      Gives (.partnerPmRequest p (.l0p w)) s (fun d => d.get (R.PU.LNKSTS.PM p) = 1 ∧ d.get (R.PU.LNKSTS.LWIDTH p) = w - 1 ∧
        Keeps (oneOf [R.PU.LNKSTS.PM p, R.PU.LNKSTS.LWIDTH p]) [.port, .out] s.dev d)) ∧
    (∀ w : Fin 8, s.configurable → s.dev.committing = false → s.dev.get (R.PU.PMCTL.L0P_WIDTH p) ≠ w.val →
      Gives (.l0pWidthChange p w) s (fun d => d.get (R.PU.PMCTL.L0P_WIDTH p) = w ∧ d.cfgSeq = (s.dev.cfgSeq + 1) % 2 ^ 64 ∧ d.buf = s.dev.buf ∧
        ∀ q, { d.prt q with unlockAt := [] } = { s.dev.prt q with unlockAt := [] })) ∧
    (s.dev.isUp p = true → s.dev.get (R.PU.LNKSTS.PM p) ≠ 0 →
      Gives (.linkPmExit p) s (fun d => d.get (R.PU.LNKSTS.PM p) = 0 ∧ d.get (R.PU.LNKSTS.LWIDTH p) = (s.dev.prt p).neg % 8 ∧
        Keeps (oneOf [R.PU.LNKSTS.PM p, R.PU.LNKSTS.LWIDTH p]) [.port, .out] s.dev d))

/-- R56 to R58. -/
def Obligations.IdeKeysAndIntegrity : Prop :=
  ∀ (p : Fin 64) (s : State), s.live → s.dev.isUp p = true → s.dev.isHost p = true ∨ s.dev.isMem p = true →
    (s.dev.is (R.PU.IDECTL.CM_EN p) = true →
      Gives (.ideKeyProgram p false true) s (fun d => d.is (R.PU.IDESTS.CM_SEC p) = true ∧ d.is (R.PU.IDESTS.IO_SEC p) = s.dev.is (R.PU.IDESTS.IO_SEC p) ∧
        d.is (R.PU.LNKSTS.IDE_ACT p) = s.dev.is (R.PU.IDESTS.IO_SEC p)) ∧
      Gives (.ideKeyProgram p false false) s (fun d => d.has (.pu p) puKEY ∧ Keeps (oneOf ((Sts.pu p).fields puKEY)) [] s.dev d)) ∧
    (s.dev.is (R.PU.IDECTL.IO_EN p) = true →
      Gives (.ideKeyProgram p true true) s (fun d => d.is (R.PU.IDESTS.IO_SEC p) = true ∧ d.is (R.PU.IDESTS.CM_SEC p) = s.dev.is (R.PU.IDESTS.CM_SEC p) ∧
        d.is (R.PU.LNKSTS.IDE_ACT p) = s.dev.is (R.PU.IDESTS.CM_SEC p)) ∧
      Gives (.ideKeyProgram p true false) s (fun d => d.has (.pu p) puKEY ∧ Keeps (oneOf ((Sts.pu p).fields puKEY)) [] s.dev d)) ∧
    (∀ (link : Bool) (fwd : List Nat), s.dev.is (R.PU.IDECTL.CONTAIN p) = true →
      Gives (.ideIntegrityFail p link fwd) s (fun d => d.is (R.PU.IDESTS.CM_SEC p) = false ∧ d.is (R.PU.IDESTS.IO_SEC p) = false ∧
        d.is (R.PU.LNKSTS.IDE_ACT p) = false ∧ (d.prt p).cmSets = 0 ∧ (d.prt p).ioSets = 0 ∧ d.has (.pu p) puIDE ∧
        d.has (.pu p) puDOWN ∧ d.get (R.PU.ERRSTS.DOWN_CAUSE p) = 4 ∧ d.linkSt p ≠ 4))

/-- R59, R60. -/
def Obligations.PortDiagnostics : Prop :=
  ∀ (p : Fin 64) (s : State), s.live →
    (s.writable → s.dev.is (R.PU.PRBSCTL.RUN p) = false →
      (s.dev.get (R.PU.PRBSCTL.RATE p) = 6 → xepStand p = false →
        Gives (.prbsRun p) s (fun d => d.has (.pu p) puREJ ∧ Keeps (oneOf ((Sts.pu p).fields puREJ ++ wakeFields (p / 4))) [.dom] s.dev d)) ∧
      (s.dev.get (R.PU.PRBSCTL.RATE p) ≠ 6 ∨ xepStand p = true →
        Gives (.prbsRun p) s (fun d => d.get (R.PU.PRBSCTL.RUN p) = 1 ∧ d.get (R.PU.PRBSCTL.LOCKED p) = 0 ∧
          d.get (R.PU.PRBSCNT01.CNT_LO p) = 0 ∧ d.get (R.PU.PRBSCNT01.CNT_HI p) = 0 ∧ d.get (R.PU.PRBSCNT23.CNT_LO p) = 0 ∧ d.get (R.PU.PRBSCNT23.CNT_HI p) = 0 ∧
          Keeps (oneOf ([R.PU.PRBSCTL.RUN p, R.PU.PRBSCTL.LOCKED p, R.PU.PRBSCNT01.CNT_LO p, R.PU.PRBSCNT01.CNT_HI p, R.PU.PRBSCNT23.CNT_LO p, R.PU.PRBSCNT23.CNT_HI p] ++ wakeFields (p / 4)))
            [.out, .dom] s.dev d))) ∧
    (∀ (lane : Fin 4) (n : Nat) q, s.dev.is (R.PU.PRBSCTL.RUN p) = true → s.dev.portOf p = some q → s.dev.linkSt q = 5 →
      Gives (.prbsCheckerLock p ⟨lane, n⟩) s (fun d => hasBit (d.get (R.PU.PRBSCTL.LOCKED p)) lane = true ∧ d.get (prbsCnt p lane) = min (s.dev.get (prbsCnt p lane) + n) 65535 ∧
        Keeps (oneOf [R.PU.PRBSCTL.LOCKED p, prbsCnt p lane]) [] s.dev d)) ∧
    (∀ lane : Fin 4, s.writable → s.dev.is (R.PU.EYECTL.START p) = false →
      Gives (.eyeScanStart p lane) s (fun d => d.get (R.PU.EYECTL.START p) = 1 ∧ d.get (R.PU.EYECTL.LANE p) = lane ∧ d.get (R.PU.EYERES.VALID p) = 0 ∧
        (d.prt p).scan = some lane.val ∧
        Keeps (oneOf ([R.PU.EYECTL.LANE p, R.PU.EYECTL.START p, R.PU.EYERES.VALID p, R.PU.EYERES.ABORT p] ++ wakeFields (p / 4))) [.port, .dom] s.dev d)) ∧
    (∀ l r u w : Nat, s.dev.is (R.PU.EYECTL.START p) = true →
      Gives (.eyeScanComplete p l r u w) s (fun d => d.get (R.PU.EYERES.LEFT p) = l % 64 ∧ d.get (R.PU.EYERES.RIGHT p) = r % 64 ∧
        d.get (R.PU.EYERES.UP p) = u % 64 ∧ d.get (R.PU.EYERES.DOWN p) = w % 64 ∧ d.get (R.PU.EYERES.VALID p) = 1 ∧ d.get (R.PU.EYECTL.START p) = 0 ∧
        Keeps (oneOf [R.PU.EYERES.LEFT p, R.PU.EYERES.RIGHT p, R.PU.EYERES.UP p, R.PU.EYERES.DOWN p, R.PU.EYERES.VALID p, R.PU.EYECTL.START p]) [.port] s.dev d)) ∧
    (∀ lane : Fin 4, s.dev.is (R.PU.EYECTL.START p) = true → (s.dev.prt p).scan = some lane.val →
      Gives (.marginingRequest p lane) s (fun d => d.get (R.PU.EYERES.ABORT p) = 1 ∧ d.get (R.PU.EYECTL.START p) = 0 ∧ (d.prt p).scan = none ∧
        Keeps (oneOf [R.PU.EYERES.ABORT p, R.PU.EYECTL.START p]) [.port] s.dev d))

/-- R74, R76, R78. -/
def Obligations.UnitsAreCheckedAndWritten : Prop :=
  ∀ (pu : Fin 64) (u : RxUnit) (p : Nat) (s : State), s.live → s.dev.settled →
    (s.dev.portOf pu = some p → s.dev.isUp p = true → s.dev.isHost p = true ∨ s.dev.isMem p = true → s.dev.ideOk p = true →
      (u.good = false → Gives (.unitReceive pu u) s (fun d =>
        d.get (R.PU.CRCCNT.CNT pu) = min (s.dev.get (R.PU.CRCCNT.CNT pu) + 1) 65535 ∧ d.buf = s.dev.buf ∧ d.port = s.dev.port)) ∧
      (u.good = true → u.isNext (s.dev.prt pu).seq = false → Gives (.unitReceive pu u) s (fun d => Keeps (oneOf []) [] s.dev d)) ∧
      (u.good = true → u.isNext (s.dev.prt pu).seq = true → u.carries = false → Gives (.unitReceive pu u) s (fun d =>
        (d.prt pu).seq = some (u.seq, u.half) ∧ d.buf.msgs = s.dev.buf.msgs ∧ d.buf.cells = s.dev.buf.cells ∧ Keeps (oneOf []) [.port, .buf] s.dev d)) ∧
      (u.good = true → u.isNext (s.dev.prt pu).seq = true → u.carries = true → (s.dev.buf.startFlit pu u).cellFor pu u.fmt.words u.bank = none →
        Gives (.unitReceive pu u) s (fun d => d.has (.buf (cpOf pu)) 2 ∧ Keeps (oneOf ((Sts.buf (cpOf pu)).fields 2)) [] s.dev d)) ∧
      (∀ m cell b, u.good = true → u.isNext (s.dev.prt pu).seq = true → u.carries = true → s.dev.role p = 2 → u.heads = [m] → u.completes = [] →
        m.dataIn = false → m.kind = .ioRead ∨ m.kind = .ioWrite ∨ m.kind = .ioCpl ∨ m.kind = .ioCplData → s.dev.lost m.egress = false →
        (s.dev.buf.startFlit pu u).cellFor pu u.fmt.words u.bank = some (cell, b) →
        Gives (.unitReceive pu u) s (fun d => (d.prt pu).seq = some (u.seq, u.half) ∧ d.buf.nextId = s.dev.buf.nextId + 1 ∧
          ∃ n ∈ d.buf.msgs, n.id = s.dev.buf.nextId ∧ n.src = .io p ∧ n.pu = pu ∧ n.cells = [cell] ∧ n.kind = m.kind ∧ n.bytes = m.bytes ∧ n.egress = m.egress ∧
            n.sysPu = some pu.val))) ∧
    (∀ l rest, (s.dev.prt pu).saf = l :: rest →
      Gives (.safRelease pu) s (fun d => (d.prt pu).saf = rest ∧
        d.buf.msgs = s.dev.buf.msgs.map (fun m => if m.pu = pu.val ∧ l.contains m.arr = true then { m with unrel := m.unrel - 1 } else m) ∧ Keeps (oneOf []) [.port, .buf] s.dev d))

/-- R70, R71, R73, R214, R295. -/
def Obligations.CreditsAndReservations : Prop :=
  ∀ (p : Fin 64) (k : CreditKind) (s : State), s.live →
    (s.dev.isHost p = true → s.dev.isUp p = true → s.dev.ideOk p = true → k.granted (s.dev.get R.PRS.STATE.SEQ) = true →
      let g := (s.dev.prt p).grant
      (s.dev.is R.PAIR.SYNCSTS.JOINER = false ∨ (k ≠ .memReq ∧ k ≠ .memData) → s.dev.mayGrant p ((g.add k).cells - g.cells) s.dev.slicesOf = true →
        Gives (.creditGrant p k) s (fun d => (d.prt p).grant = g.add k ∧ d.out = s.dev.out ++ [⟨.host p, .credit, [k.code]⟩] ∧ Keeps (oneOf []) [.port, .out] s.dev d)) ∧
      (s.dev.is R.PAIR.SYNCSTS.JOINER = true → k = .memReq ∨ k = .memData → Gives (.creditGrant p k) s (fun d => Keeps (oneOf []) [] s.dev d)) ∧
      (s.dev.mayGrant p ((g.add k).cells - g.cells) s.dev.slicesOf = false →
        Gives (.creditGrant p k) s (fun d => d.port = s.dev.port ∧ d.out = s.dev.out ∧ d.buf = s.dev.buf))) ∧
    (s.dev.isMem p = true → s.dev.isUp p = true → s.dev.ideOk p = true → k.isIo = true →
      (s.dev.reserveFull p = false → Gives (.creditGrant p k) s (fun d => d.out = s.dev.out ++ [⟨.mem p, .credit, [k.code]⟩] ∧ Keeps (oneOf []) [.out] s.dev d)) ∧
      (s.dev.reserveFull p = true → Gives (.creditGrant p k) s (fun d => Keeps (oneOf []) [] s.dev d))) ∧
    (∀ sl : Fin 512, (s.dev.sl sl).st = slFree → s.dev.buf.chg sl = 0 →
      Gives (.reservationReturn sl) s (fun d => Tbl.get d.buf.resv 0 sl = 0 ∧ (∀ j, j ≠ sl.val → Tbl.get d.buf.resv 0 j = Tbl.get s.dev.buf.resv 0 j) ∧
        d.buf.msgs = s.dev.buf.msgs ∧ d.buf.charge = s.dev.buf.charge ∧ Keeps (oneOf []) [.buf] s.dev d))

/-- R169, R149. -/
def Obligations.EgressSelectsScpFirst : Prop :=
  ∀ (p : Fin 64) (s : State), s.live →
    (∀ e, s.dev.mayTransmit p = false → Gives (.egressSelect p e) s (fun d => Keeps (oneOf []) [] s.dev d)) ∧
    (∀ m, s.dev.mayTransmit p = true → s.dev.buf.msgs.find? (fun m => m.cls == .scp && s.dev.eligible p m) = some m →
      (s.dev.isXep p = false → s.dev.tagged p m = false → s.dev.stale m = false → m.readErr .none = .none →
        Gives (.egressSelect p .none) s (fun d =>
          (∃ l, d.out = s.dev.out ++ ⟨s.dev.egressChan p, s.dev.wireOp m, [m.kind.code, m.tag, bit m.poison] ++ (if m.args.isEmpty then [m.addr, m.bytes, m.ask] else m.args)⟩ :: l) ∧
          ∀ x ∈ d.buf.msgs, x.id = m.id → x.hdrLeft = true)) ∧
      (s.dev.stale m = true → ∀ e, Gives (.egressSelect p e) s (fun d => d.out = s.dev.out ∧ ∀ x ∈ d.buf.msgs, x.id ≠ m.id))) ∧
    (∀ e, s.dev.mayTransmit p = true → s.dev.buf.msgs.find? (fun m => m.cls == .scp && s.dev.eligible p m) = none → s.dev.saving = false →
      s.dev.get (R.SCH.PSHP.RATE p) ≠ 0 → (s.dev.portLevel p).level < 0 →
      Gives (.egressSelect p e) s (fun d => d.get (R.CP.SHPWAIT.VALUE (cpOf p)) = min (s.dev.get (R.CP.SHPWAIT.VALUE (cpOf p)) + 1) (2 ^ 32 - 1) ∧
        Keeps (oneOf [R.CP.SHPWAIT.VALUE (cpOf p)]) [] s.dev d))

/-- R85, R86, R110. -/
def Obligations.HoldExpiryAndResponses : Prop :=
  ∀ (p : Fin 64) (s : State), s.live →
    ((s.dev.prt p).hold = holdHold →
      (s.dev.role p ≠ 4 → Gives (.holdExpire p) s (fun d => (d.prt p).hold = holdExpired ∧
        d.get (R.PU.EPOCH.EPOCH p) = (s.dev.get (R.PU.EPOCH.EPOCH p) + 1) % 256 ∧ d.get (R.PU.EPOCH.HOLD_ACT p) = 0 ∧ d.has (.buf (cpOf p)) 4)) ∧
      (s.dev.role p = 4 → Gives (.holdExpire p) s (fun d => Keeps (oneOf []) [] s.dev d))) ∧
    (∀ tag k x b, s.dev.isUp p = true → s.dev.isMem p = true ∨ s.dev.isXep p = true → s.dev.ideOk p = true → s.dev.settled →
      s.dev.arrival (fun m => m.kind == k && m.tag == tag && s.dev.portOf m.pu == some p.val) = none → s.dev.buf.room (cellsFor (if k == .data || k == .ioCplData then 80 else 16)) = true →
      ((∀ o ∈ (s.dev.prt p).outs, o.idx ≠ tag % 4096) ∨ tag / 4096 % 16 ≠ s.dev.get (R.PU.EPOCH.EPOCH p) % 16 →
        Gives (.memResponse p tag k x b) s (fun d => d.get (R.PU.EPOCH.LATE_CNT p) = min (s.dev.get (R.PU.EPOCH.LATE_CNT p) + 1) 1023 ∧
          d.has (.buf (cpOf p)) 5 ∧ d.port = s.dev.port ∧ d.buf = s.dev.buf)) ∧
      ((∃ o ∈ (s.dev.prt p).outs, o.idx = tag % 4096) → tag / 4096 % 16 = s.dev.get (R.PU.EPOCH.EPOCH p) % 16 →
        Gives (.memResponse p tag k x b) s (fun d => ∀ o ∈ (d.prt p).outs, o.idx ≠ tag % 4096)) ∧
      (∀ (o : OutReq) (h : Fin 64), tag / 4096 % 16 = s.dev.get (R.PU.EPOCH.EPOCH p) % 16 → (s.dev.prt p).outs.find? (fun o => o.idx == tag % 4096) = some o → o.msg.kind = .memRead →
        o.msg.home = false → o.msg.src = .host h → s.dev.stale o.msg = false → s.dev.broughtBy o.msg.asReq = none → s.dev.lost h = false →
        Gives (.memResponse p tag k x b) s (fun d => d.queued h (fun m => m.op = .memData ∧ m.args = [o.msg.tag, x] ∧ m.poison = b ∧ m.slice = o.msg.slice))))

/-- R138, R214, R268. -/
def Obligations.HostIoRequestsAreAnswered : Prop :=
  ∀ (p : Fin 64) (pasid : Option Nat) (s : State), s.live → s.dev.isHost p = true → s.dev.isUp p = true →
    (s.dev.ideOk p = true → s.dev.settled → s.dev.lost p = false → (∀ m ∈ s.dev.buf.msgs, m.stage ≠ 3) → s.dev.buf.room 1 = true →
      let queued := fun (op : Op) (d : Dev) => ∃ n ∈ d.buf.msgs, n.egress = p ∧ n.op = op ∧ n.args = [s.dev.buf.nextId] ∧ n.cls = .scp
      (s.dev.get R.PRS.STATE.SEQ = 0 → Gives (.cxlioRequest p pasid .cfg) s (queued .ioCplCrs)) ∧
      (s.dev.get R.PRS.STATE.SEQ = 1 → Gives (.cxlioRequest p pasid .cfg) s (queued .ioCpl)) ∧
      (s.dev.get R.PRS.STATE.SEQ = 2 ∨ s.dev.get R.PRS.STATE.SEQ = 3 →
        Gives (.cxlioRequest p pasid .cfg) s (queued .ioCplCa) ∧ ∀ a n, Gives (.cxlioRequest p pasid (.memRd a n)) s (queued .ioCplCa)) ∧
      (4 ≤ s.dev.get R.PRS.STATE.SEQ → ∀ req, s.dev.buf.room (cellsFor req.bytes) = true → Gives (.cxlioRequest p pasid req) s (fun d => Keeps (oneOf []) [] s.dev d))) ∧
    Gives (.ptmRequest p) s (fun d => d.out = s.dev.out ++ [⟨.host p, .ptmRsp, [s.dev.ft]⟩] ∧ Keeps (oneOf []) [.out] s.dev d)

/-- R166, R171, R173. -/
def Obligations.PolicersAndShaperWrites : Prop :=
  ∀ (s : State), s.live →
    (∀ (sl : Fin 512) (c : Instr) (m : Msg), c = .policerAdmit sl ∨ c = .policerRetry sl → s.dev.settled →
      s.dev.buf.msgs.find? (fun m => m.stage == 0 && m.slice == some sl.val) = some m → s.dev.stale m = false →
      ((s.dev.policeTry sl m.cost).2 = true → s.dev.needsDir m = false → m.kind ≠ .memInv → s.dev.lost m.egress = false →
        Gives c s (fun d => d.buf.msgs = s.dev.buf.msgs.filter (fun x => x.id != m.id) ++ [{ m with stage := 1, since := s.dev.time.cclk }] ∧
          d.port = s.dev.port ∧ d.out = s.dev.out)) ∧
      ((s.dev.policeTry sl m.cost).2 = false → Gives c s (fun d => d.buf = s.dev.buf ∧ Keeps (oneOf []) [.sched] s.dev d))) ∧
    (s.configurable → s.dev.committing = false →
      (∀ (p : Fin 64) (c : Fin 4) (e : ClassE), Tbl.get s.dev.sched.written (clsDef c) (4 * p.val + c.val) = e → unpackClass (packClass e) = e →
        Gives (.classEntryCommit p c) s (fun d => d.clsE p c = e)) ∧
      (∀ (p : Fin 64) (v : Word), (s.dev.prt p).ex = true →
        Gives (.portShaperWrite p true v) s (fun d => d.get (R.SCH.PBURST.BURST p) = bits v.toNat 0 24 ∧ d.get (R.SCH.PSHP.RATE p) = s.dev.get (R.SCH.PSHP.RATE p)) ∧
        Gives (.portShaperWrite p false v) s (fun d => d.get (R.SCH.PSHP.RATE p) = bits v.toNat 0 20 ∧ d.get (R.SCH.PSHP.CLS_MODE p) = bits v.toNat 20 1 ∧
          d.get (R.SCH.PBURST.BURST p) = s.dev.get (R.SCH.PBURST.BURST p))))

/-- R176, R177. -/
def Obligations.GateListsEnableAndSwap : Prop :=
  (∀ base cycle t : Nat, 0 < cycle → t ≤ swapTime base cycle t ∧ (∃ n, swapTime base cycle t = base + n * cycle) ∧
    ∀ n, t ≤ base + n * cycle → swapTime base cycle t ≤ base + n * cycle) ∧
  ∀ (p : Fin 64) (s : State), s.live → (s.dev.prt p).ex = true →
    (s.configurable → s.dev.committing = false → s.dev.is (R.SCH.GCTL.EN p) = false →
      ((s.dev.gcl (s.dev.operBank p)).legal = true →
        Gives (.gateListEnable p) s (fun d => d.get (R.SCH.GCTL.EN p) = 1 ∧ d.cfgSeq = (s.dev.cfgSeq + 1) % 2 ^ 64 ∧ d.gcls = s.dev.gcls)) ∧
      ((s.dev.gcl (s.dev.operBank p)).legal = false →
        Gives (.gateListEnable p) s (fun d => d.has (.sch (cpOf p)) 0 ∧ Keeps (oneOf ((Sts.sch (cpOf p)).fields 0)) [] s.dev d))) ∧
    (s.configurable → s.dev.is (R.SCH.GCTL.SWAP p) = false →
      let other := s.dev.gcl (2 * p.val + (1 - s.dev.get (R.SCH.GCTL.OPER p)))
      (other.legal = true → s.dev.is (R.SCH.GCTL.EN p) = true →
        Gives (.gateListSwap p) s (fun d => d.get (R.SCH.GCTL.SWAP p) = 1 ∧
          Tbl.get? d.sched.swap p = some (swapTime (s.dev.gcl (s.dev.operBank p)).base (s.dev.gcl (s.dev.operBank p)).cycle (s.dev.ft + 100)) ∧
          Keeps (oneOf [R.SCH.GCTL.SWAP p]) [.sched] s.dev d)) ∧
      (other.legal = false →
        Gives (.gateListSwap p) s (fun d => d.has (.sch (cpOf p)) 0 ∧ Keeps (oneOf ((Sts.sch (cpOf p)).fields 0)) [] s.dev d))) ∧
    (s.dev.is (R.SCH.GCTL.SWAP p) = true → s.dev.ft < Tbl.get s.dev.sched.swap 0 p → Gives (.bankSwap p) s (fun d => Keeps (oneOf []) [] s.dev d)) ∧
    (s.dev.is (R.SCH.GCTL.SWAP p) = true → Tbl.get s.dev.sched.swap 0 p ≤ s.dev.ft → s.dev.inPair = false →
      Gives (.bankSwap p) s (fun d => d.get (R.SCH.GCTL.OPER p) = (1 - s.dev.get (R.SCH.GCTL.OPER p)) % 2 ∧ d.get (R.SCH.GCTL.SWAP p) = 0 ∧
        d.get (R.CP.GCLCNT.VALUE (cpOf p)) = (s.dev.get (R.CP.GCLCNT.VALUE (cpOf p)) + 1) % 2 ^ 32 ∧ d.cfgSeq = (s.dev.cfgSeq + 1) % 2 ^ 64))

/-- R97, R119, R149. -/
def Obligations.PrivateMemoryRequests : Prop :=
  ∀ (q : DirReq) (p : Fin 64) (s : State), s.live → s.dev.settled → q.src = .host p → s.dev.reaches q.pool → s.dev.winOf (q.pool / 2 ^ 30) = none →
    s.dev.lost p = false →
    let sl := ((s.dev.brought q).sliceOf).getD 0
    (s.dev.admits q → s.dev.lost (s.dev.memPort sl q.pool) = false →
      (∀ c : Instr, c = .rds q ∨ c = .rda q ∨ c = .ncr q →
        Gives c s (fun d => d.queued (s.dev.memPort sl q.pool) (fun m => m.kind = .memRead ∧ m.addr = s.dev.reqAddr q.pool ∧ m.src = .host p ∧ m.tag = q.tag ∧ m.home = false) ∧
          Keeps (oneOf []) [.buf, .ctrvals, .dirs] s.dev d)) ∧
      Gives (.inv q) s (fun d => d.queued p (fun m => m.op = .cmpM ∧ m.args = [q.tag]) ∧ Keeps (oneOf []) [.buf, .ctrvals, .dirs] s.dev d) ∧
      (∀ c : Instr, c = .wb q ∨ c = .ncw q →
        Gives c s (fun d => d.queued p (fun m => m.op = .cmp ∧ m.args = [q.tag]) ∧ Keeps (oneOf []) [.buf, .ctrvals, .dirs] s.dev d ∧
          (s.dev.fresh → d.queued (s.dev.memPort sl q.pool) (fun m => m.kind = .memWrite ∧ m.args = [s.dev.reqAddr q.pool, q.data, q.be] ∧ m.poison = q.poison)))) ∧
      ((s.dev.ext (q.pool / 2 ^ 30)).atomOk = true →
        Gives (.atomicop q) s (fun d => d.queued (s.dev.memPort sl q.pool) (fun m => m.kind = .atomic ∧ m.args = [s.dev.reqAddr q.pool, q.op.width, q.arg, q.cmp] ∧ m.tag = q.tag) ∧
          Keeps (oneOf []) [.buf, .ctrvals, .dirs] s.dev d)) ∧
      ((s.dev.ext (q.pool / 2 ^ 30)).atomOk = false → s.dev.lineFree q.pool → ((s.dev.dirAt q.pool).trks.filter (fun t => t.bt == .atom)).length < 64 → s.dev.lost (s.dev.memPort sl (q.pool / 64 * 64)) = false →
        Gives (.atomicop q) s (fun d => (∃ t, (d.dirAt q.pool).trk (q.pool / 64) = some t ∧ t.bt = .atom ∧ t.memWait = true ∧ t.req.op = q.op ∧ t.req.arg = q.arg ∧ t.req.cmp = q.cmp) ∧
          d.queued (s.dev.memPort sl (q.pool / 64 * 64)) (fun m => m.kind = .memRead ∧ m.home = true)))) ∧
    ((s.dev.brought q).sliceOf.any (fun x => s.dev.gen x != (s.dev.brought q).gen) = true → ∀ c : Instr, c = .rds q ∨ c = .rda q ∨ c = .ncr q ∨ c = .inv q ∨ c = .ncw q ∨ c = .atomicop q →
      Gives c s (fun d => d.buf = (s.dev.dropReq (s.dev.brought q)).buf ∧ d.dirs = s.dev.dirs ∧ d.get R.TEN.GDISC.VALUE = (s.dev.get R.TEN.GDISC.VALUE + 1) % 2 ^ 32))

/-- R104. -/
def Obligations.CoherentReadsAndSnoops : Prop :=
  ∀ (q : DirReq) (p : Fin 64) (w : Nat) (c : CWinE) (s : State), s.live → s.dev.settled → q.src = .host p → s.dev.reaches q.pool → s.dev.admits q → s.dev.lineFree q.pool →
    s.dev.inWindow p q.pool w c → s.dev.paired = false →
    let line := q.pool / 64
    let ds := dsOf line
    let mem := s.dev.memPort ((s.dev.brought q).sliceOf.getD 0) (line * 64)
    let e := (s.dev.dirAt q.pool).find (lineSet line) (tagOf line)
    let busy := fun (d : Dev) (f : Tracker → Prop) => ∃ t, (d.dirAt q.pool).trk line = some t ∧ t.req.src = .host p ∧ t.req.tag = q.tag ∧ f t
    let reads := fun (d : Dev) => d.queued mem (fun m => m.kind = .memRead ∧ m.addr = s.dev.reqAddr (line * 64))
    let snoops := fun (d : Dev) (o : Nat) (op : Op) => d.queued o (fun m => m.kind = .snoop ∧ m.op = op ∧ m.args = [ds * 256 + (s.dev.dirAt q.pool).fresh, line * 64])
    s.dev.lost mem = false →
    (∀ way i, e = none → (s.dev.dirAt q.pool).freeOne (lineSet line) = some way → i = .rds q ∨ i = .rda q →
      Gives i s (fun d => busy d (fun t => t.bt = .mem ∧ t.memWait = true ∧ t.way = way) ∧ (d.entry q.pool way).st = .b ∧ reads d)) ∧
    (e = none → Gives (.ncr q) s (fun d => busy d (fun t => t.bt = .mem ∧ t.memWait = true ∧ t.way = 16) ∧ reads d)) ∧
    (∀ way x o, e = some (way, x) → x.st = .e ∨ x.st = .m → x.ac = false → x.owner = o → o ≠ p.val → o < 64 → s.dev.lost o = false → (s.dev.dirAt q.pool).fresh < 256 →
      Gives (.rds q) s (fun d => busy d (fun t => t.bt = .own ∧ t.waits = [o] ∧ t.bitag = some (s.dev.dirAt q.pool).fresh) ∧ (d.entry q.pool way).st = .b ∧ snoops d o .bisnpData) ∧
      Gives (.ncr q) s (fun d => busy d (fun t => t.bt = .cur ∧ t.waits = [o] ∧ t.bitag = some (s.dev.dirAt q.pool).fresh) ∧ (d.entry q.pool way).st = .b ∧ snoops d o .bisnpCur)) ∧
    (∀ way x i, e = some (way, x) → x.ac = false → x.holders (some p.val) ≠ [] → (∀ o ∈ x.holders (some p.val), s.dev.lost o = false) → (s.dev.dirAt q.pool).fresh < 256 →
      i = .rda q ∨ i = .inv q →
      Gives i s (fun d => busy d (fun t => t.bt = .inv ∧ t.waits = x.holders (some p.val)) ∧ (d.entry q.pool way).st = .b ∧ ∀ o ∈ x.holders (some p.val), snoops d o .bisnpInv))

/-- R104, R105. -/
def Obligations.CoherentGrantsAndWrites : Prop :=
  ∀ (q : DirReq) (p : Fin 64) (w : Nat) (c : CWinE) (s : State), s.live → s.dev.settled → q.src = .host p → s.dev.reaches q.pool → s.dev.admits q → s.dev.lineFree q.pool →
    s.dev.inWindow p q.pool w c → s.dev.lost p = false → s.dev.lost (s.dev.memPort ((s.dev.brought q).sliceOf.getD 0) q.pool) = false →
    let line := q.pool / 64
    let e := (s.dev.dirAt q.pool).find (lineSet line) (tagOf line)
    let done := fun (d : Dev) (op : Op) => d.queued p (fun m => m.op = op ∧ m.args = [q.tag])
    let writes := fun (d : Dev) => s.dev.fresh → d.queued (s.dev.memPort ((s.dev.brought q).sliceOf.getD 0) q.pool) (fun m => m.kind = .memWrite ∧ m.args = [s.dev.reqAddr q.pool, q.data, q.be])
    (∀ way x, e = some (way, x) → x.ac = false → x.holders (some p.val) = [] →
      Gives (.inv q) s (fun d => done d .cmpM ∧ (d.entry q.pool way).st = .m ∧ (d.entry q.pool way).owner = p ∧ (d.entry q.pool way).sharers = 2 ^ p.val ∧
        (d.dirAt q.pool).trk line = none) ∧
      Gives (.ncw q) s (fun d => done d .cmp ∧ writes d ∧ (d.entry q.pool way).st = .i)) ∧
    (e = none → Gives (.ncw q) s (fun d => done d .cmp ∧ writes d)) ∧
    (∀ way x, e = some (way, x) → x.lists { q with cls := .wb } = true → x.st ≠ .b → q.mv = .i → clrB x.sharers p = 0 →
      Gives (.wb q) s (fun d => done d .cmp ∧ writes d ∧ (d.entry q.pool way).st = .i)) ∧
    (e = none → Gives (.wb q) s (fun d => d.has (.ds (dsOf line)) 6 ∧
      d.get (R.DS.LATECNT.STRAY_CNT (dsOf line)) = min (s.dev.get (R.DS.LATECNT.STRAY_CNT (dsOf line)) + 1) 65535 ∧ done d .cmp ∧ writes d))

/-- R115, R117, R120. -/
def Obligations.BusyLinesParkAndAtomicsRun : Prop :=
  ∀ (q : DirReq) (p : Fin 64) (w : Nat) (c : CWinE) (s : State), s.live → s.dev.settled → q.src = .host p → s.dev.reaches q.pool → s.dev.admits q → s.dev.inWindow p q.pool w c →
    let line := q.pool / 64
    let x := s.dev.dirAt q.pool
    let shared := (x.park.filter (fun k => k.shared && !k.rcl)).length
    let reserved := (x.park.filter (fun k => !k.shared && !k.rcl && k.key == p.val)).length
    (∀ t i, x.trk line = some t → p.val ∉ t.waits →
      (i = .rds q ∨ i = .rda q ∨ i = .inv q ∨ i = .ncr q ∨ i = .ncw q ∨ i = .atomicop q) →
      Gives i s (fun d => ∃ k : Park, k.req.src = .host p ∧ k.req.pool = q.pool ∧ k.req.tag = q.tag ∧ k.req.age = s.dev.time.cclk ∧ k.req.ord = x.nextOrd ∧ k.why = .line ∧ k.key = p ∧ k.rcl = false ∧
        d.buf = s.dev.buf ∧
        (shared < 256 → k.shared = true ∧ (d.dirAt q.pool).park = parkIn x.park k ∧ (d.dirAt q.pool).retd = x.retd) ∧
        (256 ≤ shared → reserved < 2 → k.shared = false ∧ (d.dirAt q.pool).park = parkIn x.park k ∧ (d.dirAt q.pool).retd = x.retd) ∧
        (256 ≤ shared → 2 ≤ reserved → (d.dirAt q.pool).park = x.park ∧ (d.dirAt q.pool).retd = x.retd ++ [k]))) ∧
    (s.dev.lineFree q.pool → x.find (lineSet line) (tagOf line) = none → c.predEn = false →
      (x.trks.filter (fun t => t.bt == .atom)).length < 64 → s.dev.lost (s.dev.memPort ((s.dev.brought q).sliceOf.getD 0) (line * 64)) = false →
      Gives (.atomicop q) s (fun d => (∃ t, (d.dirAt q.pool).trk line = some t ∧ t.bt = .atom ∧ t.memWait = true ∧ t.req.op = q.op ∧ t.req.arg = q.arg ∧ t.req.tag = q.tag) ∧
        d.queued (s.dev.memPort ((s.dev.brought q).sliceOf.getD 0) (line * 64)) (fun m => m.kind = .memRead ∧ m.addr = s.dev.reqAddr (line * 64))))

/-- R102, R110 to R112. -/
def Obligations.SnoopAnswersAndTimeouts : Prop :=
  ∀ (p : Fin 64) (s : State), s.live → s.dev.settled → s.dev.mirrorPort = none → s.dev.ideOk p = true →
    (∀ bitag rsp, let ds := bitag / 256 % 16
      let came := s.dev.taken (s.dev.arrival (fun m => m.kind == .snpRsp && s.dev.portOf m.pu == some p.val && m.tag == bitag))
      (∀ t, (s.dev.dir ds).trks.find? (fun t => t.bitag == some (bitag % 256) && t.waits.contains p.val) = some t →
        (t.waits.erase p ≠ [] → Gives (.birsp p bitag rsp) s (fun d => ∃ t', (d.dir ds).trk t.line = some t' ∧ t'.waits = t.waits.erase p ∧ t'.req = t.req ∧ d.buf = came.buf)) ∧
        (∀ q : Fin 64, t.waits = [p.val] → t.bt = .inv → t.req.cls = .inv → t.req.src = .host q → t.memWait = false → t.bcast = false → t.ue = false → s.dev.reqStale t.req = false → s.dev.lost q = false →
          (∀ x ∈ (s.dev.dir ds).trks, x.line ≠ t.line → x.bitag ≠ none ∨ x.waits = []) →
          Gives (.birsp p bitag rsp) s (fun d => d.queued q (fun m => m.op = .cmpM ∧ m.args = [t.req.tag]) ∧ (d.dir ds).trk t.line = none))) ∧
      ((∀ t ∈ (s.dev.dir ds).trks, t.bitag ≠ some (bitag % 256) ∨ p.val ∉ t.waits) → (∀ b ∈ (s.dev.dir ds).back, b.1 ≠ bitag % 256) →
        Gives (.birsp p bitag rsp) s (fun d => d.has (.ds ds) 5 ∧ d.get (R.DS.LATECNT.LATE_CNT ds) = min (s.dev.get (R.DS.LATECNT.LATE_CNT ds) + 1) 65535 ∧ d.buf = came.buf ∧
          Keeps (oneOf (R.DS.LATECNT.LATE_CNT ds :: (Sts.ds ds).fields 5)) [.buf] s.dev d))) ∧
    (∀ pool data be poison t, (s.dev.dirAt pool).trk (pool / 64) = some t → p.val ∈ t.waits → s.dev.lost p = false → s.dev.lost (s.dev.memPort 0 pool) = false →
      Gives (.snoopData p pool ⟨data, be⟩ poison) s (fun d => d.queued p (fun m => m.op = .cmp) ∧
        (s.dev.fresh → d.queued (s.dev.memPort 0 pool) (fun m => m.kind = .memWrite ∧ m.cls = .scp ∧ m.slice = none ∧ m.args = [s.dev.reqAddr pool, data, be] ∧ m.poison = poison)) ∧
        ∃ t', (d.dirAt pool).trk (pool / 64) = some t' ∧ t'.ownData = some (data, be, poison) ∧ t'.waits = t.waits)) ∧
    (∀ pool, s.dev.lost p = false → Gives (.biconflict p pool) s (fun d =>
      ∃ m, d.buf.msgs = (s.dev.taken (s.dev.arrival (fun m => m.kind == .biConflict && s.dev.portOf m.pu == some p.val))).buf.msgs ++ [m] ∧ m.egress = p.val ∧ m.op = .biConflictAck ∧ m.args = [pool / 64 * 64])) ∧
    (∀ pool t g, (s.dev.dirAt pool).trk (pool / 64) = some t → p.val ∈ t.waits → t.waits.erase p ≠ [] → t.owner ≠ some p.val → t.bitag = some g → t.expired = false →
      Gives (.rspTmo pool (.bi p)) s (fun d => d.has (.ds (dsOf (pool / 64))) 3 ∧ (g, [p.val], s.dev.time.cclk) ∈ (d.dirAt pool).back ∧
        ∃ t', (d.dirAt pool).trk (pool / 64) = some t' ∧ t'.waits = t.waits.erase p ∧ t'.expired = true)) ∧
    (∀ pool t, (s.dev.dirAt pool).trk (pool / 64) = some t → t.memWait = true → t.waits ≠ [] →
      Gives (.rspTmo pool .mem) s (fun d => d.has (.ds (dsOf (pool / 64))) 3 ∧ d.buf = s.dev.buf ∧
        ∃ t', (d.dirAt pool).trk (pool / 64) = some t' ∧ t'.memWait = false ∧ t'.memData = some (0, true))) ∧
    (∀ (ds : Fin 16) g, (s.dev.dir ds).back.any (fun b => b.1 == g) = true → g < 256 → (∀ t ∈ (s.dev.dir ds).trks, t.bitag ≠ some g ∧ (t.bitag ≠ none ∨ t.waits = [])) →
      Gives (.bitagReturn ds g) s (fun d => (d.dir ds).freed = (s.dev.dir ds).freed ++ [g] ∧ (∀ b ∈ (d.dir ds).back, b.1 ≠ g) ∧ Keeps (oneOf []) [.dirs] s.dev d))

/-- R116, R117, R122. -/
def Obligations.RetriesAndPredictorReset : Prop :=
  ∀ (ds : Fin 16) (s : State), s.live →
    (∀ (k : Park) (p : Fin 64) w c, s.dev.settled → k.req.src = .host p → k.req.cls = .ncr → k.rcl = false → k.req.ord ≠ 0 → dsOf (k.req.pool / 64) = ds → k.why = .line → s.dev.reaches k.req.pool →
      s.dev.reqStale k.req = false → s.dev.inWindow p k.req.pool w c → (s.dev.dirAt k.req.pool).trk (k.req.pool / 64) = none → (s.dev.dirAt k.req.pool).inUse < 128 →
      (s.dev.dirAt k.req.pool).find (lineSet (k.req.pool / 64)) (tagOf (k.req.pool / 64)) = none → s.dev.lost (s.dev.memPort (k.req.sliceOf.getD 0) (k.req.pool / 64 * 64)) = false →
      let goes := fun (d : Dev) => (∃ t, (d.dirAt k.req.pool).trk (k.req.pool / 64) = some t ∧ t.bt = .mem ∧ t.memWait = true ∧ t.req.src = .host p ∧ t.req.age = k.req.age) ∧
        d.queued (s.dev.memPort (k.req.sliceOf.getD 0) (k.req.pool / 64 * 64)) (fun m => m.kind = .memRead)
      ((s.dev.dir ds).park = [k] → Gives (.parkRetry ds) s (fun d => (d.dir ds).park = [] ∧ goes d)) ∧
      ((s.dev.dir ds).retd = [k] → (s.dev.dir ds).park = [] → Gives (.returnedRequestPresent ds k.key) s (fun d => (d.dir ds).retd = [] ∧ goes d))) ∧
    (s.dev.settled → (∀ k ∈ (s.dev.dir ds).park, k.why = .line ∧ (s.dev.dir ds).trk (k.req.pool / 64) ≠ none) →
      Gives (.parkRetry ds) s (fun d => Keeps (oneOf []) [] s.dev d)) ∧
    (s.writable → Gives (.predClr ds) s (fun d => (∀ i, Tbl.get (d.dir ds).pred 1 i = 1) ∧ (∀ j, j ≠ ds.val → d.dir j = s.dev.dir j) ∧ Keeps (oneOf []) [.dirs] s.dev d))

/-- R94, R125. -/
def Obligations.RecallsAndWindowChanges : Prop :=
  ∀ (s : State), s.live →
    (∀ (ds : Fin 16) (mode : Fin 4) (win : Fin 256) (port : Fin 64), s.writable → s.dev.settled →
      (mode = 3 ∨ (s.dev.dir ds).rcl.isSome = true →
        Gives (.recallStart ds mode win port) s (fun d => d.has (.ds ds) 8 ∧ Keeps (oneOf ((Sts.ds ds).fields 8)) [] s.dev d)) ∧
      (mode ≠ 3 → (s.dev.dir ds).rcl = none → (s.dev.dir ds).ents = [] →
        Gives (.recallStart ds mode win port) s (fun d => d.get (R.DS.RCLCTL.START ds) = 1 ∧ d.get (R.DS.RCLCTL.MODE ds) = mode ∧ d.get (R.DS.RCLCTL.WIN ds) = win ∧
          d.get (R.DS.RCLCTL.PORT ds) = port ∧
          (∃ r, (d.dir ds).rcl = some r ∧ r.mode = mode ∧ r.win = win ∧ r.port = port ∧ r.who = 0 ∧ r.lines = 0 ∧ r.since = s.dev.time.cclk ∧ ((s.dev.dir ds).rclFlight < 64 → r.pos = 16384)) ∧
          Keeps (oneOf [R.DS.RCLCTL.START ds, R.DS.RCLCTL.MODE ds, R.DS.RCLCTL.WIN ds, R.DS.RCLCTL.PORT ds]) [.dirs] s.dev d))) ∧
    (∀ (ds : Fin 16) (r : Recall), s.dev.settled → (s.dev.dir ds).rcl = some r → r.pos = 16384 → (∀ e ∈ (s.dev.dir ds).ents, e.1 < 16384) →
      ((s.dev.dir ds).rclFlight = 0 → (s.dev.dir ds).rclQ = [] → r.who = 0 →
        Gives (.recallComplete ds) s (fun d => (d.dir ds).rcl = none ∧ d.has (.ds ds) 9 ∧ d.get (R.DS.RCLCTL.START ds) = 0 ∧ d.get (R.DS.RCLSTS.LINES ds) = r.lines % 2 ^ (R.DS.RCLSTS.LINES ds).w ∧
          d.slices = s.dev.slices ∧ d.buf = s.dev.buf)) ∧
      ((s.dev.dir ds).rclFlight ≠ 0 → Gives (.recallComplete ds) s (fun d => (d.dir ds).rcl.isSome = true ∧ Keeps (oneOf []) [.dirs] s.dev d))) ∧
    (∀ (w : Fin 256) g, s.dev.settled → Tbl.get? s.dev.winchg w = some g →
      let o := s.dev.cwin w
      (g.kind = 1 → (∀ ds, ds < 16 → s.dev.domSt (16 + ds) = .on) → Gives (.windowChangeComplete w) s (fun d => d.cwin w = g.new ∧ Tbl.get? d.winchg w = none)) ∧
      (g.kind = 2 → s.dev.recalling (rclWin w) = false → (s.dev.flushWin o).winWritten o = true → Gives (.windowChangeComplete w) s (fun d => d.cwin w = g.new ∧ Tbl.get? d.winchg w = none)) ∧
      (g.kind = 3 → s.dev.recalling (rclWin w) = false → (o.acacheEn = false ∨ g.new.acacheEn = true ∨ (s.dev.flushWin o).winWritten o = true) →
        Gives (.windowChangeComplete w) s (fun d => (d.cwin w).elig = g.new.elig ∧ (d.cwin w).acacheEn = (o.acacheEn && g.new.acacheEn) ∧ (d.cwin w).en = o.en ∧ Tbl.get? d.winchg w = none)) ∧
      (g.kind = 3 → s.dev.recalling (rclWin w) = true → o.acacheEn = false → Gives (.windowChangeComplete w) s (fun d => Keeps (oneOf []) [] s.dev d)))

/-- R333, R338, R341. -/
def Obligations.RingCommands : Prop :=
  ∀ (p : Fin 8) (c : PyrCmd) (s : State), s.live → s.dev.settled →
    (s.dev.admitted p 0x00 c → s.dev.allows p c 0 → Gives (.nop c) s (fun d => d.completed p c {} ∧ Keeps (oneOf [R.SEC.CMDCNT.VALUE, R.PAIR.MIRTX.VALUE]) [.mgmt, .out, .xep] s.dev d)) ∧
    (s.dev.admitted p 0x01 c → s.dev.allows p c 0 →
      Gives (.featSet c) s (fun d => (d.ring p).feat = some (c.par 16 16 &&& 0xFF) ∧ d.completed p c { result := c.par 16 16 &&& 0xFF } ∧
        Keeps (oneOf [R.SEC.CMDCNT.VALUE, R.PAIR.MIRTX.VALUE]) [.mgmt, .out, .xep] s.dev d)) ∧
    (s.dev.admitted p 0x02 c → s.dev.allows p c 0 →
      Gives (.eventConfig c) s (fun d => d.completed p c {} ∧ (d.ring p).evEn = c.parBit 25 0 ∧ (d.ring p).evBase = c.par 16 8 ∧ (d.ring p).evSize = c.par 24 1 ∧
        (d.ring p).evSub = c.par 32 72 ∧ (d.ring p).evPi = 0 ∧ (d.ring p).evPhase = true ∧ Keeps (oneOf [R.SEC.CMDCNT.VALUE, R.PAIR.MIRTX.VALUE]) [.mgmt, .out, .xep] s.dev d)) ∧
    (s.dev.admitted p 0x03 c → s.dev.allows p c 0 →
      Gives (.lcChallenge c) s (fun d => ∃ n, (d.ring p).nonce = some n ∧ n < 2 ^ 128 ∧ d.completed p c { result := n } ∧
        d.get R.SEC.LCNONCE0.VALUE = n % 2 ^ 32 ∧ d.get R.SEC.LCNONCE1.VALUE = n / 2 ^ 32 % 2 ^ 32 ∧ d.get R.SEC.LCNONCE2.VALUE = n / 2 ^ 64 % 2 ^ 32 ∧ d.get R.SEC.LCNONCE3.VALUE = n / 2 ^ 96 % 2 ^ 32 ∧
        Keeps (oneOf [R.SEC.CMDCNT.VALUE, R.PAIR.MIRTX.VALUE, R.SEC.LCNONCE0.VALUE, R.SEC.LCNONCE1.VALUE, R.SEC.LCNONCE2.VALUE, R.SEC.LCNONCE3.VALUE]) [.mgmt, .out, .xep, .freeCtr] s.dev d))

/-- R134, R136. -/
def Obligations.SliceCommandsBegin : Prop :=
  ∀ (p : Fin 8) (c : PyrCmd) (s : State), s.live → s.dev.settled → s.dev.allows p c 0 →
    (s.dev.admitted p 0x10 c → (s.dev.sl c.target).st = slFree →
      Gives (.sliceBind c) s (fun d => (d.sl c.target).st = slBound ∧ (d.sl c.target).port = c.par 16 1 ∧ (d.sl c.target).gen = (s.dev.sl c.target).gen ∧
        (d.sl c.target).pasidEn = c.parBit 17 0 ∧ (d.sl c.target).ioDef = c.parBit 17 1 ∧ (d.sl c.target).defRd = c.parBit 17 2 ∧ (d.sl c.target).defWr = c.parBit 17 3 ∧
        (d.sl c.target).defAtom = c.parBit 17 4 ∧ (∀ k w, (k, w) ∈ bindGiven c → (d.sl c.target).wins.getD k {} = w) ∧
        Tbl.get d.buf.resv 0 c.target = (if s.dev.holdsResv c.target then Tbl.get s.dev.buf.resv 0 c.target else 256) ∧ d.completed p c {} ∧ s.dev.changedOnce d)) ∧
    (s.dev.admitted p 0x11 c →
      Gives (.sliceUnbind c) s (fun d => (d.sl c.target).st = slDrain ∧ (d.sl c.target).pend = (if c.parBit 16 0 then 1 else 2) ∧ d.running p c ∧ s.dev.changedOnce d)) ∧
    (s.dev.admitted p 0x12 c →
      Gives (.sliceRebind c) s (fun d => (d.sl c.target).st = slDrain ∧ (d.sl c.target).pend = 4 ∧ (d.sl c.target).pPort = c.par 16 1 ∧ d.running p c ∧ s.dev.changedOnce d ∧
        ∀ m ∈ d.buf.msgs, m.slice = some c.target → m.cls ≠ .sc0 ∧ m.cls ≠ .sc1)) ∧
    (s.dev.admitted p 0x13 c →
      Gives (.sliceReset c) s (fun d => (d.sl c.target).st = slDrain ∧ (d.sl c.target).pend = 3 ∧ d.running p c ∧ s.dev.changedOnce d))

/-- R94, R141, R144, R157, R168, R181, R182. -/
def Obligations.TableCommands : Prop :=
  ∀ (p : Fin 8) (c : PyrCmd) (s : State), s.live → s.dev.settled → s.dev.allows p c 0 →
    let ok := fun (d : Dev) => d.completed p c {} ∧ s.dev.changedOnce d
    (s.dev.admitted p 0x14 c → Gives (.ruleSet c) s (fun d => (∀ k, k < 8 → Tbl.get d.rules {} (8 * c.target + k) = ruleOf c k) ∧
      (∀ j, j / 8 ≠ c.target → Tbl.get d.rules {} j = Tbl.get s.dev.rules {} j) ∧ ok d ∧ Keeps (oneOf cmdRegs) [.rules, .mgmt, .prs, .out, .xep] s.dev d)) ∧
    (s.dev.admitted p 0x15 c → (s.dev.ext c.target).st ≠ 3 → Gives (.extentDefine c) s (fun d =>
      d.ext c.target = { extOf c with st := (s.dev.ext c.target).st, cat := (s.dev.ext c.target).cat, mapcnt := (s.dev.ext c.target).mapcnt } ∧
      (∀ j, j ≠ c.target → d.ext j = s.dev.ext j) ∧ ok d ∧ Keeps (oneOf cmdRegs) [.extents, .mgmt, .prs, .out, .xep] s.dev d)) ∧
    (s.dev.admitted p 0x16 c → Gives (.sliceQos c) s (fun d => Tbl.get d.polices {} c.target = policeOf c ∧
      (∀ j, j ≠ c.target → Tbl.get d.polices {} j = Tbl.get s.dev.polices {} j) ∧ ok d ∧ Keeps (oneOf cmdRegs) [.polices, .sched, .mgmt, .prs, .out, .xep] s.dev d)) ∧
    (s.dev.admitted p 0x17 c → Gives (.dlogConfig c) s (fun d => (Tbl.get d.dlogs {} c.target).base = c.par 16 8 ∧ (Tbl.get d.dlogs {} c.target).size = c.par 24 1 ∧
      (d.sl c.target).dlogEn = c.parBit 25 0 ∧ ok d ∧ Keeps (oneOf cmdRegs) [.dlogs, .dfilt, .slices, .mgmt, .prs, .out, .xep] s.dev d)) ∧
    (s.dev.admitted p 0x18 c →
      ((s.dev.cwin c.target).en = false → (winNew c).en = true → (∀ ds, ds < 16 → s.dev.domSt (16 + ds) = .on) → s.dev.winBusy c.target = false →
        Gives (.windowSet c) s (fun d => d.cwin c.target = winNew c ∧ (∀ j, j ≠ c.target → d.cwin j = s.dev.cwin j) ∧ ok d ∧
          Keeps (oneOf cmdRegs) [.cwins, .mgmt, .prs, .out, .xep] s.dev d)) ∧
      ((s.dev.cwin c.target).en = true → (winNew c).en = false →
        Gives (.windowSet c) s (fun d => d.disabling c.target = true ∧ (d.cwin c.target).en = true ∧ d.running p c))) ∧
    (s.dev.admitted p 0x19 c → Gives (.sqAssign c) s (fun d => d.sqOwner (1024 + c.target) = c.par 16 1 ∧
      (∀ j, j < 16 → j ≠ c.target → d.sqOwner (1024 + j) = s.dev.sqOwner (1024 + j)) ∧ ok d ∧
      Keeps (oneOf ([R.DMV.SQOWN0.OWN, R.DMV.SQOWN1.OWN] ++ cmdRegs)) [.mgmt, .prs, .out, .xep] s.dev d)) ∧
    (s.dev.admitted p 0x1A c → Gives (.queueQos c) s (fun d => (d.qe c.target).weight = c.par 16 1 ∧ (d.qe c.target).burst = c.par 17 1 ∧
      (∀ j, j ≠ c.target → d.qe j = s.dev.qe j) ∧ ok d ∧ Keeps (oneOf cmdRegs) [.queues, .mgmt, .prs, .out, .xep] s.dev d))

/-- R209, R274, R287, R313, R314. -/
def Obligations.PowerAndPairCommands : Prop :=
  ∀ (p : Fin 8) (c : PyrCmd) (s : State), s.live → s.dev.settled →
    let ok := fun (d : Dev) => d.completed p c {} ∧ s.dev.changedOnce d
    (s.dev.admitted p 0x20 c → s.dev.allows p c 0 → Gives (.slotOn c) s (fun d => d.is (R.SLT.CTL.EN c.target) = true ∧ d.slotSt c.target = 1 ∧ d.get (R.SLT.STS.TRIES c.target) = 0 ∧ ok d ∧
      Keeps (oneOf ([R.SLT.CTL.EN c.target, R.SLT.STS.TRIES c.target, R.SLT.STS.STATE c.target] ++ cmdRegs)) [.mgmt, .prs, .out, .xep] s.dev d)) ∧
    (s.dev.admitted p 0x21 c → s.dev.allows p c 0 → Gives (.slotOff c) s (fun d => d.is (R.SLT.CTL.EN c.target) = false ∧ d.slotSt c.target = 7 ∧ d.is (R.SLT.STS.PG c.target) = false ∧
      d.running p c ∧ s.dev.changedOnce d)) ∧
    (s.dev.admitted p 0x22 c → s.dev.allows p c 0 →
      (c.parBit 16 0 = true → Gives (.persistArm c) s (fun d => d.is R.PRS.CTL.ARMED = true ∧ d.is R.PRS.CTL.PAIR_SAVE = c.parBit 16 1 ∧ d.get R.PRS.CTL.GPF_WAIT_US = c.par 18 2 % 2 ^ 13 ∧
        d.get R.PRS.HOMEA.EXT = (armHome c false).1 ∧ d.get R.PRS.HOMEB.EXT = (armHome c true).1 ∧ d.get R.PRS.HOMEA.SLOT = (armHome c false).2 ∧ d.get R.PRS.HOMEB.SLOT = (armHome c true).2 ∧
        d.is R.PRS.HOMEA.VALID = true ∧ d.is R.PRS.HOMEB.VALID = true ∧ (d.ext (armHome c false).1).cat = true ∧ (d.ext (armHome c true).1).cat = true ∧ ok d)) ∧
      (c.parBit 16 0 = false → Gives (.persistArm c) s (fun d => d.is R.PRS.CTL.ARMED = false ∧ d.is R.PRS.HOMEA.VALID = false ∧ d.is R.PRS.HOMEB.VALID = false ∧ ok d))) ∧
    (s.dev.admitted p 0x28 c → s.dev.allows p c 0 → Gives (.pairConfig c) s (fun d => d.is R.PAIR.CTL.EN = c.parBit 16 0 ∧ d.is R.PAIR.CTL.FENCE_EN = c.parBit 16 1 ∧
      d.get R.PAIR.FENCE_EXT.EXT = (fenceOf c).1 ∧ d.get R.PAIR.FENCE_OFS.OFS = (fenceOf c).2 ∧ ok d ∧
      (s.dev.is R.PAIR.CTL.EN = false → c.parBit 16 0 = true → d.pst = psSeek ∧ d.pair.solo = true) ∧ (s.dev.is R.PAIR.CTL.EN = true → c.parBit 16 0 = false → d.pst = psOff) ∧
      Keeps (oneOf ([R.PAIR.CTL.EN, R.PAIR.CTL.FENCE_EN, R.PAIR.FENCE_EXT.EXT, R.PAIR.FENCE_OFS.OFS, R.PAIR.STATE.PSTATE] ++ cmdRegs)) [.pair, .mgmt, .prs, .out, .xep] s.dev d)) ∧
    (s.dev.admitted p 0x29 c →
      (s.dev.inPair = true → Gives (.roleChange c) s (fun d => d.commit.queue = [.cmd p c 0] ∧ Keeps (oneOf []) [.commit] s.dev d)) ∧
      (s.dev.committing = false → Gives (.roleChange c) s (fun d => d.completed p c { status := stConflict, code := 0x60 + s.dev.pst } ∧ d.get R.PAIR.STATE.ROLE = s.dev.get R.PAIR.STATE.ROLE)))

/-- R56, R159, R333, R337, R347. -/
def Obligations.KeyAndFirmwareCommands : Prop :=
  ∀ (p : Fin 8) (c : PyrCmd) (s : State), s.live → s.dev.settled → s.dev.committing = false →
    (s.dev.admitted p 0x30 c → s.dev.allows p c (s.dev.newKey p c) → Gives (.keyInstall c none) s (fun d => (d.keyOf c.target).key = some (s.dev.newKey p c - 1) ∧
      (c.target ≠ 0 → (d.keyOf c.target).rights = c.par 56 1) ∧ d.has .sec 11 ∧ d.completed p c {} ∧ s.dev.changedOnce d ∧
      Keeps (oneOf (Sts.sec.bit 11 :: cmdRegs)) [.mgmt, .prs, .out, .xep] s.dev d)) ∧
    (s.dev.admitted p 0x30 c → c.target < 8 → s.dev.newKey p c = 0 → Gives (.keyInstall c none) s (fun d => d.completed p c { status := stBadParam } ∧ d.has .sec 6 ∧
      (∀ q, (d.keyOf q).key = (s.dev.keyOf q).key) ∧ (d.keyOf p).cnt = c.cnt)) ∧
    (s.dev.mgmt.down = false → s.dev.mgmt.dead = false → (s.dev.keyOf 0).key = none → c.opcode = 0x30 → c.target = 0 → ∀ k, Gives (.keyInstall c (some k)) s (fun d =>
      (d.keyOf 0).key = some (k % 2 ^ 256) ∧ d.has .sec 11 ∧ s.dev.changedOnce d ∧ Keeps (oneOf (cmdRegs ++ Sts.sec.fields 11)) [.mgmt, .prs, .out, .xep] s.dev d)) ∧
    (∀ k, (s.dev.keyOf 0).key ≠ none → Gives (.keyInstall c (some k)) s (fun d => Keeps (oneOf []) [] s.dev d)) ∧
    (s.dev.admitted p 0x31 c →
      (s.dev.allows p c 1 → Gives (.memIde c true) s (fun d => (s.dev.is (R.PU.IDECTL.CM_EN c.target) = true → d.is (R.PU.IDESTS.CM_SEC c.target) = true) ∧
        (s.dev.is (R.PU.IDECTL.IO_EN c.target) = true → d.is (R.PU.IDESTS.IO_SEC c.target) = true) ∧ d.completed p c {} ∧ d.cfgSeq = s.dev.cfgSeq)) ∧
      (s.dev.allows p c 0 → Gives (.memIde c false) s (fun d => d.has (.pu c.target) puKEY ∧ d.completed p c { status := stRemote } ∧ d.port = s.dev.port))) ∧
    (∀ n, s.dev.admitted p 0x32 c → (s.dev.ring p).nonce = some n → s.dev.cmdConflict p c = none →
      (∀ erased, c.sub = 0 → Gives (.lcAuth c true erased) s (fun d => d.is R.SEC.LCSTS.DBG_EN = true ∧ d.has .lc 1 ∧ (d.ring p).nonce = none ∧ d.completed p c {} ∧
        d.get R.SEC.LCSTS.STATE = s.dev.get R.SEC.LCSTS.STATE)) ∧
      (∀ erased, c.sub = 1 ∨ c.sub = 2 → Gives (.lcAuth c true erased) s (fun d => d.get R.SEC.LCSTS.STATE = c.sub ∧ d.has .lc 0 ∧ (d.ring p).nonce = none ∧ d.completed p c {})) ∧
      (c.sub = 3 → Gives (.lcAuth c true true) s (fun d => d.get R.SEC.LCSTS.STATE = 3 ∧ (∀ q, (d.keyOf q).key = none) ∧ d.is R.SEC.LCSTS.KEYS_ERASED = true ∧ d.completed p c {}) ∧
        Gives (.lcAuth c true false) s (fun d => d.get R.SEC.LCSTS.STATE = s.dev.get R.SEC.LCSTS.STATE ∧ (∀ q, (d.keyOf q).key = none) ∧ d.completed p c { status := stInternal })) ∧
      (∀ erased, Gives (.lcAuth c false erased) s (fun d => d.completed p c { status := stAuth } ∧ d.get R.SEC.LCSTS.STATE = s.dev.get R.SEC.LCSTS.STATE ∧ (d.ring p).nonce = none))) ∧
    (s.dev.admitted p 0x38 c → s.dev.allows p c 0 →
      (∀ v, s.dev.get R.TOP.SECVER.VER ≤ v % 2 ^ 16 → Gives (.fwStage c (some v)) s (fun d => d.mgmt.prog = s.dev.mgmt.prog ++ [v % 2 ^ 16] ∧ d.running p c ∧ d.nor = { s.dev.nor with staged := false } ∧
        d.out = s.dev.out ++ [⟨.prinMem p, .imgRead, [c.par 16 8, c.par 24 4]⟩, ⟨.nor, .norProgram, [bit (!s.dev.nor.fwBank)]⟩])) ∧
      (∀ img, (∀ v, img = some v → v % 2 ^ 16 < s.dev.get R.TOP.SECVER.VER) → Gives (.fwStage c img) s (fun d => d.completed p c { status := stImage } ∧ d.mgmt.prog = s.dev.mgmt.prog ∧ d.has .cur 1 ∧
        d.nor = s.dev.nor))) ∧
    (∀ v rest, s.dev.mgmt.prog = v :: rest →
      Gives (.fwProgramComplete true) s (fun d => d.mgmt.prog = rest ∧ d.get R.SEC.FWVER.STAGED = v % 2 ^ 16 ∧ d.nor.staged = true ∧ d.nor.ver (!s.dev.nor.fwBank) = v ∧ d.has .cur 6) ∧
      Gives (.fwProgramComplete false) s (fun d => d.mgmt.prog = rest ∧ d.get R.SEC.FWVER.STAGED = 0 ∧ d.has .cur 5 ∧ d.nor = s.dev.nor)) ∧
    (s.dev.admitted p 0x39 c → s.dev.allows p c 0 → Gives (.fwActivate c) s (fun d => d.nor.fwBank = !s.dev.nor.fwBank ∧ d.nor.staged = false ∧ d.has .cur 7 ∧
      d.completed p c { result := s.dev.nor.ver (!s.dev.nor.fwBank) } ∧ d.cfgSeq = s.dev.cfgSeq ∧ Keeps (oneOf (Sts.cur.bit 7 :: cmdRegs)) [.nor, .mgmt, .out, .xep] s.dev d))

/-- R330, R214. -/
def Obligations.RefusedCommands : Prop :=
  ∀ (p : Fin 8) (c : PyrCmd) (s : State) (op : Nat) (i : Instr), s.live → s.dev.settled →
    ((op, i) ∈ [(0x00, .nop c), (0x01, .featSet c), (0x02, .eventConfig c), (0x03, .lcChallenge c), (0x10, .sliceBind c), (0x11, .sliceUnbind c), (0x12, .sliceRebind c),
      (0x13, .sliceReset c), (0x14, .ruleSet c), (0x15, .extentDefine c), (0x16, .sliceQos c), (0x17, .dlogConfig c), (0x18, .windowSet c), (0x19, .sqAssign c), (0x1A, .queueQos c),
      (0x20, .slotOn c), (0x21, .slotOff c), (0x22, .persistArm c), (0x28, .pairConfig c), (0x29, .roleChange c), (0x30, .keyInstall c none), (0x39, .fwActivate c)] ∨
      (∃ ok, (op, i) = (0x31, .memIde c ok)) ∨ (∃ a b, (op, i) = (0x32, .lcAuth c a b)) ∨ (∃ v, (op, i) = (0x38, .fwStage c v))) →
    let base := [R.SEC.CMDCNT.VALUE, R.PAIR.MIRTX.VALUE]
    let secFault := fun (b : Nat) => base ++ Sts.sec.fields b ++ [R.SEC.STS.PRIN]
    let cont := c.opcode = op ∧ c.headerOk p = true ∧ s.dev.featureOk p c = true
    let auth := c.crit = true → ∃ k, (s.dev.keyOf p).key = some k ∧ c.tag k = c.mac
    (s.dev.posed p c →
      (¬cont → Gives i s (fun d => d.completed p c { status := stBadCmd } ∧ d.mgmt.keys = s.dev.mgmt.keys ∧ Keeps (oneOf base) [.mgmt, .out, .xep] s.dev d)) ∧
      (cont → ¬auth → Gives i s (fun d => d.completed p c { status := stAuth } ∧ d.has .sec 0 ∧ d.get R.SEC.AUTHCNT.AUTH = min (s.dev.get R.SEC.AUTHCNT.AUTH + 1) 65535 ∧
        d.mgmt.keys = s.dev.mgmt.keys ∧ Keeps (oneOf (R.SEC.AUTHCNT.AUTH :: secFault 0)) [.mgmt, .out, .xep] s.dev d)) ∧
      (cont → auth → c.crit = true → c.cnt ≠ ((s.dev.keyOf p).cnt + 1) % 2 ^ 64 → Gives i s (fun d => d.completed p c { status := stStale } ∧ d.has .sec 1 ∧
        d.get R.SEC.AUTHCNT.STALE = min (s.dev.get R.SEC.AUTHCNT.STALE + 1) 65535 ∧ d.mgmt.keys = s.dev.mgmt.keys ∧
        Keeps (oneOf (R.SEC.AUTHCNT.STALE :: secFault 1)) [.mgmt, .out, .xep] s.dev d)) ∧
      (cont → auth → (c.crit = true → c.cnt = ((s.dev.keyOf p).cnt + 1) % 2 ^ 64) → s.dev.permitted p c = false → s.dev.committing = false →
        Gives i s (fun d => d.completed p c { status := stPerm } ∧ d.has .sec 2 ∧ (d.keyOf p).cnt = (if c.crit then c.cnt else (s.dev.keyOf p).cnt) ∧
          Keeps (oneOf (secFault 2)) [.mgmt, .out, .xep] s.dev d))) ∧
    (s.dev.mgmt.cur = some (p.val, c.slot) → s.dev.mgmt.down = false → s.dev.mgmt.dead = false → s.dev.commit.mapCmd = none → s.dev.commit.queue = [] → s.dev.commit.change = none →
      3 ≤ s.dev.get R.PRS.STATE.SEQ → Gives i s (fun d => d.mgmt.cur = none ∧ d.out = s.dev.out ∧ Keeps (oneOf []) [.mgmt] s.dev d))

/-- R332, R347, R348, R399. That a halted Curator waits for a restart is the model's reading. -/
def Obligations.CuratorRestarts : Prop :=
  ∀ s : State, s.live →
    (s.dev.mgmt.dead = false →
      Gives .curatorRestart s (fun d => d.mgmt.down = true ∧ d.mgmt.cur = none ∧ d.mgmt.recs = s.dev.mgmt.recs ∧ (∀ p c x, Change.cmd p c x ∉ d.commit.queue) ∧
        Keeps (oneOf []) [.mgmt, .commit] s.dev d) ∧
      Gives .watchdogTimeout s (fun d => d.mgmt.down = true ∧ d.mgmt.cur = none ∧ d.mgmt.recs = s.dev.mgmt.recs ∧ (∀ p c x, Change.cmd p c x ∉ d.commit.queue) ∧ d.has .cur 2 ∧
        Keeps (oneOf (Sts.cur.fields 2)) [.mgmt, .commit] s.dev d)) ∧
    (s.writable →
      (s.dev.is R.SEC.LCSTS.DBG_EN = true → Gives .haltReq s (fun d => d.mgmt = { s.dev.mgmt with down := true } ∧ d.has .dbg 1 ∧ Keeps (oneOf (Sts.dbg.fields 1)) [.mgmt] s.dev d)) ∧
      (s.dev.is R.SEC.LCSTS.DBG_EN = false → Gives .haltReq s (fun d => Keeps (oneOf []) [] s.dev d))) ∧
    (s.dev.mgmt.down = true → Gives .curatorRestartComplete s (fun d => d.mgmt.down = false ∧ d.mgmt.cur = none ∧ d.mgmt.recs = [] ∧ (∀ p, (d.ring p).fetch = (d.ring p).head) ∧
      (∀ r ∈ s.dev.mgmt.recs, d.completed r.prin r.cmd (if r.done then { status := r.status, code := r.code, result := r.result } else { status := 10, result := 1 })) ∧
      d.get R.SEC.CURSTS.BANK = (if s.dev.nor.fwBank then 1 else 0) ∧ d.get R.SEC.FWVER.ACTIVE = (if s.dev.nor.fwBank then s.dev.nor.ver1 else s.dev.nor.ver0) % 2 ^ 16 ∧
      d.port = s.dev.port ∧ d.buf = s.dev.buf ∧ d.dirs = s.dev.dirs ∧ d.slices = s.dev.slices ∧ d.slot = s.dev.slot ∧ d.skid.accs = s.dev.skid.accs ∧ d.mgmt.keys = s.dev.mgmt.keys))

/-- R324, R325, R327. -/
def Obligations.RingsFetchAndAttach : Prop :=
  ∀ (p : Fin 8) (s : State), s.live →
    (∀ tail, (s.configurable → Gives (.commandDoorbell p tail) s (fun d => d.get (R.PRIN.DB.TAIL p) = tail % 2 ^ 16 ∧ Keeps (oneOf [R.PRIN.DB.TAIL p]) [] s.dev d)) ∧
      (s.dev.saving = true → Gives (.commandDoorbell p tail) s (fun d => Keeps (oneOf []) [] s.dev d))) ∧
    (s.dev.mgmt.down = false → s.dev.mgmt.dead = false → s.dev.mgmt.cur = none → s.dev.inService = true → ∀ k, k < 8 →
      let q := (s.dev.mgmt.rr + 1 + k) % 8
      s.dev.posted q = true → (∀ j, j < k → s.dev.posted ((s.dev.mgmt.rr + 1 + j) % 8) = false) →
      Gives .commandFetch s (fun d => d.mgmt.cur = some (q, (s.dev.ring q).fetch) ∧ d.mgmt.rr = q ∧ (d.ring q).fetch = ((s.dev.ring q).fetch + 1) % 2 ^ s.dev.get (R.PRIN.RCTL.SIZE q) ∧
        d.out = s.dev.out ++ [⟨.prinMem q, .ringRead, [s.dev.get (R.PRIN.CRBL.VALUE q) + 2 ^ 32 * s.dev.get (R.PRIN.CRBH.VALUE q) + 128 * (s.dev.ring q).fetch]⟩] ∧
        Keeps (oneOf []) [.mgmt, .out, .xep] s.dev d)) ∧
    (s.writable → s.dev.is (R.PRIN.RCTL.EN p) = false →
      (s.dev.attachStatus p = 0 → Gives (.attach p) s (fun d => d.is (R.PRIN.RCTL.EN p) = true ∧ d.get (R.PRIN.ARES.STATUS p) = 0 ∧ d.is (R.PRIN.ARES.VALID p) = true ∧
        d.get (R.PRIN.ARES.SEQ p) = (s.dev.get (R.PRIN.ARES.SEQ p) + 1) % 16 ∧ d.get (R.PRIN.ARES.HEAD p) = (d.ring p).fetch % 2 ^ 16 ∧
        (d.ring p).attached = true ∧ (d.ring p).feat = none ∧ ((∀ r ∈ s.dev.mgmt.recs, r.prin = p → r.done = true) → (d.ring p).fetch = (d.ring p).head) ∧ d.inService = true ∧
        ∀ r ∈ s.dev.mgmt.recs, r.done = true → r.prin = p → d.completed p r.cmd { status := r.status, code := r.code, result := r.result })) ∧
      (s.dev.attachStatus p ≠ 0 → Gives (.attach p) s (fun d => d.get (R.PRIN.ARES.STATUS p) = s.dev.attachStatus p ∧ d.is (R.PRIN.ARES.VALID p) = true ∧ d.has .sec 4 ∧
        d.get (R.PRIN.ARES.SEQ p) = (s.dev.get (R.PRIN.ARES.SEQ p) + 1) % 16 ∧ d.is (R.PRIN.RCTL.EN p) = false ∧
        ((s.dev.get (R.PRIN.CRBL.VALUE p) % 4096 ≠ 0 ∨ s.dev.get (R.PRIN.CPBL.VALUE p) % 4096 ≠ 0) ↔ d.get (R.PRIN.ARES.STATUS p) = 1) ∧
        Keeps (oneOf ([R.PRIN.ARES.STATUS p, R.PRIN.ARES.VALID p, R.PRIN.ARES.SEQ p, R.PRIN.ARES.HEAD p, R.SEC.STS.PRIN] ++ Sts.sec.fields 4)) [] s.dev d))) ∧
    (s.writable → s.dev.is (R.PRIN.RCTL.EN p) = true → Gives (.detach p) s (fun d => d.is (R.PRIN.RCTL.EN p) = false ∧ d.ring p = { s.dev.ring p with attached := false } ∧
      (s.dev.commit.change = none → ∀ k, d.mgmt.cur ≠ some (p.val, k)) ∧ (∀ c x, Change.cmd p c x ∉ d.commit.queue) ∧ d.mgmt.recs = s.dev.mgmt.recs ∧
      Keeps (oneOf [R.PRIN.RCTL.EN p]) [.mgmt, .commit] s.dev d))

/-- R341, R342. -/
def Obligations.EventsAreDelivered : Prop :=
  ∀ (p : Fin 8) (s : State), s.live →
    let r := s.dev.ring p
    let full := (r.evPi + 1) % 2 ^ r.evSize = s.dev.get (R.PRIN.DB.EVCI p) % 2 ^ r.evSize
    let entry := fun (lvl kind n : Nat) => (⟨.prinMem p, .eventEntry, (r.evBase + 16 * r.evPi) :: leBytes (packEvent r.evPhase kind lvl n s.dev.ft) 16⟩ : Emit)
    (∀ w, r.attached = true → r.evEn = true → r.feat = some w → w / 2 % 2 = 1 →
      (∀ n, n < 576 → r.evSub = 2 ^ n → r.evSq = [] →
        (s.dev.active n ≠ r.evLast.contains n → ¬full → Gives (.eventDeliver p) s (fun d => entry (if s.dev.active n then 1 else 0) 0 n ∈ d.out ∧
          (d.ring p).evPi = (r.evPi + 1) % 2 ^ r.evSize ∧ (d.ring p).evLast.contains n = s.dev.active n ∧ Keeps (oneOf []) [.mgmt, .out, .xep] s.dev d)) ∧
        (s.dev.active n ≠ r.evLast.contains n → full → Gives (.eventDeliver p) s (fun d => d.has .sec 5 ∧ Keeps (oneOf (R.SEC.STS.PRIN :: Sts.sec.fields 5)) [] s.dev d)) ∧
        (s.dev.active n = r.evLast.contains n → Gives (.eventDeliver p) s (fun d => Keeps (oneOf []) [] s.dev d))) ∧
      (∀ k, r.evSub = 0 → r.evSq = [k] → ¬full → Gives (.eventDeliver p) s (fun d => entry 1 1 k ∈ d.out ∧ (d.ring p).evSq = [] ∧
        (d.ring p).evPi = (r.evPi + 1) % 2 ^ r.evSize ∧ Keeps (oneOf []) [.mgmt, .out, .xep] s.dev d))) ∧
    ((r.attached = false ∨ r.evEn = false ∨ r.feat = none) → Gives (.eventDeliver p) s (fun d => Keeps (oneOf []) [] s.dev d)) ∧
    (s.configurable → ∀ e, Gives (.evciWrite p e) s (fun d => d.get (R.PRIN.DB.EVCI p) = e % 2 ^ 16 ∧
      Keeps (oneOf (R.PRIN.DB.EVCI p :: R.SEC.STS.PRIN :: Sts.sec.fields 5)) [.mgmt, .out, .xep] s.dev d))

/-- R343, R344, R399. -/
def Obligations.ManagementRequests : Prop :=
  ∀ s : State, s.live →
    let up := s.dev.mgmt.down = false ∧ s.dev.mgmt.dead = false
    (up → ∀ via op, (∀ q, via = .mailbox q → s.dev.isHost q = true ∧ s.dev.isUp q = true) →
      (op ∈ [.identify, .physPortState, .vcsInfo, .ldInfo, .tunnel] → Gives (.fmApiRequest via op) s (fun d => d.get R.SEC.FMCNT.VALUE = (s.dev.get R.SEC.FMCNT.VALUE + 1) % 2 ^ 32 ∧
        d.out = s.dev.out ++ [⟨via.chan, .fmRsp, op.code :: s.dev.fmCovers via⟩] ∧ Keeps (oneOf [R.SEC.FMCNT.VALUE]) [.out] s.dev d)) ∧
      (op ∉ [.identify, .physPortState, .vcsInfo, .ldInfo, .tunnel] → Gives (.fmApiRequest via op) s (fun d => d.out = s.dev.out ++ [⟨via.chan, .fmUnsupported, [5]⟩] ∧
        Keeps (oneOf []) [.out] s.dev d))) ∧
    (up → ∀ fn proto, (fn = 64 ∨ (fn < 64 ∧ s.dev.isHost fn = true ∧ s.dev.isUp fn = true)) →
      Gives (.doeRequest fn proto none) s (fun d => d.out = s.dev.out ++ [⟨if fn = 64 then .mgmt else .host fn, .doeRsp, [fn, proto.code]⟩] ∧ Keeps (oneOf []) [.out] s.dev d)) ∧
    (up → ∀ k, (s.dev.keyOf 0).key = none → s.dev.committing = false → Gives (.doeRequest 64 .securedCma (some k)) s (fun d => (d.keyOf 0).key = some (k % 2 ^ 256) ∧ d.has .sec 11 ∧
      s.dev.changedOnce d ∧ Keeps (oneOf (cmdRegs ++ Sts.sec.fields 11)) [.mgmt, .prs, .out, .xep] s.dev d)) ∧
    (∀ off, (∀ k, offDomain (off / 4 * 4) = some k → s.dev.domSt k = .on) →
      (∀ v, s.dev.readWord (off / 4 * 4) = some v → Gives (.sidebandAccess (.regRead off)) s (fun d => d.out = s.dev.out ++ [⟨.sideband, .sbData, [off / 4 * 4, v]⟩] ∧ Keeps (oneOf []) [.out] s.dev d)) ∧
      (s.dev.readWord (off / 4 * 4) = none → Gives (.sidebandAccess (.regRead off)) s (fun d => d.out = s.dev.out ++ [⟨.sideband, .sbData, [off / 4 * 4]⟩] ∧ Keeps (oneOf []) [.out] s.dev d))) ∧
    (∀ off v, Gives (.sidebandAccess (.regWrite off v)) s (fun d => Keeps (oneOf []) [] s.dev d)) ∧
    (up → Gives (.sidebandAccess .spdm) s (fun d => d.out = s.dev.out ++ [⟨.sideband, .spdm, []⟩] ∧ Keeps (oneOf []) [.out] s.dev d)) ∧
    Gives .tapResetExit s (fun d => d.has .lc 3 ∧ Keeps (oneOf (Sts.lc.fields 3)) [.out] s.dev d) ∧
    Gives .boundaryScanLoad s (fun d => d.is R.SEC.BSCANSTS.ACTIVE = true ∧ d.has .dbg 2 ∧ Keeps (oneOf (R.SEC.BSCANSTS.ACTIVE :: Sts.dbg.fields 2)) [] s.dev d)

/-- R134, R150, R151. -/
def Obligations.SliceStateMachine : Prop :=
  ∀ (sl : Fin 512) (x : Fin 65536) (s : State), s.live → s.dev.settled →
    let e := s.dev.sl sl
    let others := fun (d : Dev) => ∀ t, t ≠ sl.val → d.sl t = s.dev.sl t
    (e.st = slDrain → ∀ c : Instr, ((c = .sliceDrainComplete sl ∧ s.dev.outstanding sl = false) ∨ c = .drainTimeout sl) →
      ((∀ x ∈ s.dev.cwins, x.2.en = true → ∀ w ∈ e.wins, w.en = true → meets w.ext w.num x.2.first x.2.num = false) →
        Gives c s (fun d => d.sl sl = { e with st := slAdvance } ∧ others d ∧ Keeps (oneOf []) [.slices] s.dev d)) ∧
      ((∃ x ∈ s.dev.cwins, x.2.en = true ∧ ∃ w ∈ e.wins, w.en = true ∧ meets w.ext w.num x.2.first x.2.num = true) → (∀ ds, ds < 16 → (s.dev.dir ds).ents = []) →
        Gives c s (fun d => d.sl sl = { e with st := slRecall } ∧ others d ∧ d.recalling (rclSlice sl) = true ∧ d.buf = s.dev.buf))) ∧
    (e.st = slAdvance → s.dev.wbPending sl = false →
      let vec := fun (d : Dev) (port : Nat) => let i := 2048 * port + 4 * sl.val + 3
        let v := Tbl.get s.dev.msix {} i
        (v.mask = true → (Tbl.get d.msix {} i).pend = true) ∧
          (v.mask = false → s.dev.lost port = false → d.queued port (fun m => m.op = .msix ∧ m.slice = some sl.val ∧ m.args = v.addr :: 0 :: leBytes v.data 4))
      let adv := fun (o : Nat) (P : Dev → Prop) => Gives (.generationAdvance sl) s (fun d => (d.sl sl).gen = (e.gen + 1) % 256 ∧ others d ∧ P d ∧
        ∀ r, s.dev.mgmt.recs.find? (fun r => r.names [o] sl) = some r → s.dev.mgmt.down = false → s.dev.inCommit r.prin r.cmd = false → d.completed r.prin r.cmd {})
      (e.pend = 1 → adv 0x11 (fun d => d.sl sl = { gen := (e.gen + 1) % 256, port := e.port, gdisc := e.gdisc } ∧ (∀ k, k < 8 → Tbl.get d.rules {} (8 * sl + k) = {}) ∧
        Tbl.get d.polices {} sl = {} ∧ ∀ x, (d.ext x).mapcnt = (s.dev.ext x).mapcnt - e.exts.count x)) ∧
      (e.pend = 2 → e.pWin < 4 → adv 0x11 (fun d => (d.sl sl).st = slBound ∧ (d.sl sl).port = e.port ∧ (∀ k, k < 4 → (d.sl sl).wins.getD k {} =
        (if k = e.pWin then { e.wins.getD k {} with en := false } else e.wins.getD k {})) ∧ d.rules = s.dev.rules ∧ d.queues = s.dev.queues)) ∧
      (e.pend = 3 → adv 0x13 (fun d => (d.sl sl).st = slBound ∧ (d.sl sl).port = e.port ∧ (d.sl sl).wins = e.wins ∧ (d.sl sl).dlogEn = false ∧
        (∀ q, q < 1024 → q / 2 = sl.val → d.qe q = {}) ∧ (∀ q, q < 1024 → q / 2 ≠ sl.val → d.qe q = s.dev.qe q) ∧ (∀ k, k < 16 → Tbl.get d.ctrvals 0 (2080 + 16 * sl + k) = 0) ∧
        vec d e.port ∧ d.rules = s.dev.rules)) ∧
      (e.pend = 4 → adv 0x12 (fun d => (d.sl sl).st = slBound ∧ (d.sl sl).port = e.pPort ∧ (d.sl sl).pasidEn = e.pPasidEn ∧ (d.sl sl).pasid = e.pPasid ∧ (d.sl sl).dlogEn = false ∧
        (d.sl sl).wins.map (fun w => w.base) = [e.pBase0, e.pBase1, e.pBase2, e.pBase3] ∧ (d.sl sl).wins.map (fun w => (w.en, w.ext, w.num)) = e.wins.map (fun w => (w.en, w.ext, w.num)) ∧
        vec d e.pPort ∧ d.rules = s.dev.rules ∧ d.queues = s.dev.queues))) ∧
    (e.st = slAdvance → s.dev.wbPending sl = true → Gives (.generationAdvance sl) s (fun d => Keeps (oneOf []) [] s.dev d)) ∧
    (∀ a st, s.dev.act (1024 + x.val % 4) (scrubSlot x) = some a → a.status = some st → (s.dev.ext x).st = 2 →
      (st = 0 → Gives (.scrubComplete x true) s (fun d => d.ext x = { s.dev.ext x with st := 0 } ∧ (∀ j, j ≠ x.val → d.ext j = s.dev.ext j) ∧
        s.dev.changedOnce d ∧ Keeps (oneOf cmdRegs) [.extents, .skid, .prs] s.dev d)) ∧
      (∀ ok, ok ≠ (st == 0) → Gives (.scrubComplete x ok) s (fun d => Keeps (oneOf []) [] s.dev d)) ∧
      (st ≠ 0 → Gives (.scrubComplete x false) s (fun d => d.ext x = { s.dev.ext x with st := 3 } ∧ (∀ j, j ≠ x.val → d.ext j = s.dev.ext j) ∧ d.get R.TEN.LASTBAD.EXT = x.val ∧ d.is R.TEN.LASTBAD.VALID = true ∧
        d.has .dmv 8 ∧ s.dev.changedOnce d ∧ Keeps (oneOf ([R.TEN.LASTBAD.EXT, R.TEN.LASTBAD.VALID] ++ cmdRegs ++ Sts.dmv.fields 8)) [.extents, .skid, .prs] s.dev d))) ∧
    ((∀ a, s.dev.act (1024 + x.val % 4) (scrubSlot x) = some a → a.status = none) → ∀ ok, Gives (.scrubComplete x ok) s (fun d => Keeps (oneOf []) [] s.dev d))

/-- R147, R156, R157, R183. -/
def Obligations.DoorbellPagesAndRecords : Prop :=
  ∀ s : State, s.live →
    (s.writable → ∀ chk : Fin 18,
      let o := if chk.val < 16 then 0x180040 + 0x1000 * chk.val else if chk.val = 16 then 0x70010 else 0x70020
      Gives (.vioClear chk) s (fun d => d.is (.mk3 o 0 1 0) = false ∧ d.is (.mk3 o 1 1 0) = false ∧ d.get (.mk3 o 16 16 0) = 0 ∧
        Keeps (oneOf [.mk3 o 0 1 0, .mk3 o 1 1 0, .mk3 o 16 16 0]) [] s.dev d)) ∧
    (∀ (p : Fin 64) (sl : Fin 512),
      let e := s.dev.sl sl
      let o := 0x180040 + 0x1000 * (p.val / 4)
      let page := fun (c : Instr) => c = .fltClr p sl ∨ ∃ v, c = .dlogCiWrite p sl v
      let refused := fun (c : Instr) (off : Nat) =>
        (s.dev.is (.mk3 o 0 1 0) = false → Gives c s (fun d => d.is (.mk3 o 0 1 0) = true ∧ d.get (.mk3 (o + 4) 0 32 0) = 0x1000 * sl.val + off ∧ d.get (.mk3 (o + 8) 0 20 0) = 0 ∧
          d.get (.mk3 (o + 12) 0 9 0) = 0 ∧ d.get (.mk3 (o + 12) 9 6 0) = p.val ∧ d.get (.mk3 (o + 12) 15 3 0) = 1 ∧ d.get (.mk3 (o + 12) 18 3 0) = 5 ∧ d.is (.mk3 (o + 12) 26 1 0) = true ∧
          Keeps (within o (o + 16)) [] s.dev d)) ∧
        (s.dev.is (.mk3 o 0 1 0) = true → Gives c s (fun d => d.is (.mk3 o 1 1 0) = true ∧ d.get (.mk3 o 16 16 0) = min (s.dev.get (.mk3 o 16 16 0) + 1) 65535 ∧
          Keeps (oneOf [.mk3 o 1 1 0, .mk3 o 16 16 0]) [] s.dev d))
      (s.dev.takesIo p = false → ∀ c, page c → Gives c s (fun d => Keeps (oneOf []) [] s.dev d)) ∧
      (s.dev.takesIo p = true →
        (e.st = slBound → e.port = p.val → s.dev.forwards = false →
          (∀ v, Gives (.dlogCiWrite p sl v) s (fun d => Tbl.get d.dlogs {} sl = { Tbl.get s.dev.dlogs {} sl with ci := v % 2 ^ 16 % 2 ^ (Tbl.get s.dev.dlogs {} sl).size } ∧
            (∀ j, j ≠ sl.val → Tbl.get d.dlogs {} j = Tbl.get s.dev.dlogs {} j) ∧ Keeps (oneOf []) [.dlogs] s.dev d)) ∧
          Gives (.fltClr p sl) s (fun d => (∀ k, k / 256 = sl.val → Tbl.get d.dfilt 0 k = 0) ∧ (∀ k, k / 256 ≠ sl.val → Tbl.get d.dfilt 0 k = Tbl.get s.dev.dfilt 0 k) ∧
            Keeps (oneOf []) [.dfilt] s.dev d)) ∧
        (e.port = p.val → e.st = slDrain ∨ e.st = slRecall ∨ e.st = slAdvance → ∀ c, page c → Gives c s (fun d => Keeps (oneOf []) [] s.dev d)) ∧
        ((e.st = slFree ∨ e.port ≠ p.val) → (∀ v, refused (.dlogCiWrite p sl v) 0x200) ∧ refused (.fltClr p sl) 0x204)))

/-- R138, R145, R146, R147, R158, R399. The slice and port a refusal with no slice is recorded with are the model's choice (log entry 174). -/
def Obligations.DebugAccesses : Prop :=
  ∀ s : State, s.live → s.dev.settled →
    let D := s.dev
    let en := D.is R.SEC.LCSTS.DBG_EN
    let sl := D.get R.SEC.DAPCTL.SLICE
    let errRegs := R.SEC.DAPERRCNT.VALUE :: Sts.dbg.fields 0
    let pvRegs := [Fld.mk3 pvDbg 0 1 0, .mk3 pvDbg 1 1 0, .mk3 pvDbg 16 16 0, .mk3 (pvDbg + 4) 0 32 0, .mk3 (pvDbg + 8) 0 20 0, .mk3 (pvDbg + 12) 0 9 0, .mk3 (pvDbg + 12) 9 6 0, .mk3 (pvDbg + 12) 15 3 0, .mk3 (pvDbg + 12) 18 3 0,
      .mk3 (pvDbg + 12) 21 3 0, .mk3 (pvDbg + 12) 24 1 0, .mk3 (pvDbg + 12) 25 1 0, .mk3 (pvDbg + 12) 26 1 0]
    let adrRegs := [R.SEC.DAPADDRL.VALUE, R.SEC.DAPADDRH.VALUE]
    let error := fun (d : Dev) (addr : Nat) => d.has .dbg 0 ∧ d.get R.SEC.DAPERRCNT.VALUE = min (D.get R.SEC.DAPERRCNT.VALUE + 1) (2 ^ R.SEC.DAPERRCNT.VALUE.w - 1) ∧ d.out = D.out ++ [⟨.debug, .dbgErr, [addr]⟩]
    let recorded := fun (d : Dev) (slice kind addr : Nat) => d.is (.mk3 pvDbg 0 1 0) = true ∧
      (D.is (.mk3 pvDbg 0 1 0) = false → d.get (.mk3 (pvDbg + 4) 0 32 0) = addr % 2 ^ 32 ∧ d.get (.mk3 (pvDbg + 8) 0 20 0) = addr / 2 ^ 32 % 2 ^ 20 ∧ d.get (.mk3 (pvDbg + 12) 0 9 0) = slice % 2 ^ 9 ∧
        d.get (.mk3 (pvDbg + 12) 9 6 0) = (D.sl slice).port % 2 ^ 6 ∧ d.get (.mk3 (pvDbg + 12) 15 3 0) = 3 ∧ d.get (.mk3 (pvDbg + 12) 18 3 0) = kind ∧ d.get (.mk3 pvDbg 16 16 0) = D.get (.mk3 pvDbg 16 16 0)) ∧
      (D.is (.mk3 pvDbg 0 1 0) = true → d.is (.mk3 pvDbg 1 1 0) = true ∧ d.get (.mk3 pvDbg 16 16 0) = min (D.get (.mk3 pvDbg 16 16 0) + 1) (2 ^ 16 - 1) ∧ ∀ f ∈ pvRegs.drop 3, d.get f = D.get f)
    let addressed := fun (d : Dev) (addr : Nat) => d.get R.SEC.DAPADDRL.VALUE = addr % 2 ^ 32 ∧ d.get R.SEC.DAPADDRH.VALUE = addr / 2 ^ 32 % 2 ^ R.SEC.DAPADDRH.VALUE.w
    let served := fun (d : Dev) => d.get R.SEC.DAPCNT.VALUE = (D.get R.SEC.DAPCNT.VALUE + 1) % 2 ^ R.SEC.DAPCNT.VALUE.w
    (∀ a what, (a = .keyStore ∧ what = 0) ∨ (a = .curatorMem ∧ what = 1) ∨ (∃ e, a = .cat e ∧ (D.ext e).cat = true ∧ what = e * 2 ^ 30) →
      (en = true → D.get R.SEC.LCSTS.STATE = 3 → Gives (.debugAccess a) s (fun d => served d ∧ d.out = D.out ++ [⟨.debug, .dbgData, [what]⟩] ∧ Keeps (oneOf [R.SEC.DAPCNT.VALUE]) [.out] D d)) ∧
      (en = false ∨ D.get R.SEC.LCSTS.STATE ≠ 3 → Gives (.debugAccess a) s (fun d => error d what ∧ recorded d sl 4 what ∧ Keeps (oneOf (errRegs ++ pvRegs)) [.out] D d))) ∧
    (∀ wr addr v, (D.sl sl).st ≠ slFree →
      (∀ pool, D.checkPart sl addr 3 (if wr then 2 else 1) = .ok pool →
        (en = false → Gives (.debugAccess (.pool wr addr v)) s (fun d => error d addr ∧ addressed d addr ∧ Keeps (oneOf (adrRegs ++ errRegs)) [.out] D d)) ∧
        (en = true → D.reaches pool → D.winOf (pool / 2 ^ 30) = none → D.lost (D.memPort sl pool) = false →
          let b := pool % 64 / 4 * 4
          (wr = false → Gives (.debugAccess (.pool wr addr v)) s (fun d => addressed d addr ∧ d.get R.SEC.DAPDATA.VALUE = v % 2 ^ 32 ∧ served d ∧
            d.queued (D.memPort sl pool) (fun m => m.kind = .memRead ∧ m.addr = D.reqAddr pool) ∧ Keeps (oneOf (R.SEC.DAPDATA.VALUE :: R.SEC.DAPCNT.VALUE :: adrRegs)) [.buf, .ctrvals, .dirs, .out] D d)) ∧
          (wr = true → Gives (.debugAccess (.pool wr addr v)) s (fun d => addressed d addr ∧ served d ∧
            d.queued (D.memPort sl pool) (fun m => m.kind = .memWrite ∧ m.args = [D.reqAddr pool, v % 2 ^ 32 * 2 ^ (8 * b), 15 * 2 ^ b]) ∧ Keeps (oneOf (R.SEC.DAPCNT.VALUE :: adrRegs)) [.buf, .ctrvals, .dirs, .out] D d)))) ∧
      (∀ y, D.checkPart sl addr 3 (if wr then 2 else 1) = .error y → y.quiet = false → en = true ∨ y.kind = 4 → y.kind ≠ 5 →
        Gives (.debugAccess (.pool wr addr v)) s (fun d => error d addr ∧ addressed d addr ∧ recorded d sl y.kind addr ∧ Keeps (oneOf (adrRegs ++ errRegs ++ pvRegs)) [.out] D d))) ∧
    (∀ wr addr v, (D.sl sl).st = slFree → en = true → Gives (.debugAccess (.pool wr addr v)) s (fun d => error d addr ∧ addressed d addr ∧ recorded d 0 5 addr ∧ Keeps (oneOf (adrRegs ++ errRegs ++ pvRegs)) [.out] D d))

/-- R309, R310, R311, R316, R318. What the slot's record keeps of the row it took (log entry 177) is left free. -/
def Obligations.SlotBringUp : Prop :=
  ∀ (n : Fin 32) (lv : SlotLevels) (s : State), s.live → s.dev.rowNow n = none →
    let st := s.dev.slotSt n
    let r := s.dev.slt n
    let gate := fun (d : Dev) (k : Nat) => d.out = s.dev.out ++ [⟨.pins, .gateDrive, [n.val, k]⟩]
    let others := fun (d : Dev) => ∀ k, k ≠ n.val → d.slt k = s.dev.slt k
    let holds := fun (d : Dev) (x : SlotRt) => d.slt n = { x with row := (d.slt n).row } ∧ others d
    let pgRegs := [R.SLT.STS.STATE n, R.SLT.STS.PG n] ++ (Sts.slt n).fields 8
    let pg := fun (d : Dev) => d.slotSt n = 4 ∧ d.is (R.SLT.STS.PG n) = true ∧ d.has (.slt n) 8 ∧ ⟨.pins, .pin, [n.val, 1]⟩ ∈ d.out ∧ (d.slt n).pgDue = false ∧ others d
    (s.dev.saving = false →
      (st = 1 → r.vinOk = true → Gives (.insertionDelayExpire n) s (fun d => d.slotSt n = 2 ∧ gate d 2 ∧ Keeps (oneOf [R.SLT.STS.STATE n]) [.out] s.dev d)) ∧
      (st = 2 → Gives (.voutReached n lv) s (fun d => d.slotSt n = 3 ∧ gate d 3 ∧ holds d { r with vin := lv.vin, vout := lv.vout, iout := lv.iout, pgDue := false } ∧
        Keeps (oneOf [R.SLT.STS.STATE n]) [.slot, .out] s.dev d)) ∧
      (st = 3 → r.timer = true → Gives (.pgDelayExpire n) s (fun d => d.slt n = { r with pgDue := true } ∧ others d ∧ Keeps (oneOf []) [.slot] s.dev d)) ∧
      (st = 3 → ∀ c : Instr, ((c = .pgDelayExpire n ∧ r.timer = false) ∨ (c = .faultTimerIdle n ∧ r.pgDue = true)) →
        (s.dev.slotPort n = none → Gives c s (fun d => pg d ∧ Keeps (oneOf pgRegs) [.slot, .out] s.dev d)) ∧
        (∀ p, s.dev.slotPort n = some p → s.dev.linkSt p = 1 → (s.dev.prt p).held = false → s.dev.is (R.PU.LNKCTL.DIAG p) = false →
          Gives c s (fun d => pg d ∧ d.linkSt p = 2 ∧ Keeps (oneOf ([R.PU.LNKSTS.STATE p, R.PU.LNKSTS.RATE p] ++ pgRegs)) [.slot, .out] s.dev d))) ∧
      (st = 4 → Gives (.onOneSecond n) s (fun d => d.get (R.SLT.STS.TRIES n) = 0 ∧ holds d r ∧ Keeps (oneOf [R.SLT.STS.TRIES n]) [.slot] s.dev d)) ∧
      (st = 5 → r.vinOk = true → Gives (.retryDlyExpire n) s (fun d => d.slotSt n = 2 ∧ gate d 2 ∧ Keeps (oneOf [R.SLT.STS.STATE n]) [.out] s.dev d)) ∧
      (st = 5 → r.vinOk = false → Gives (.retryDlyExpire n) s (fun d => d.slotSt n = 1 ∧ Keeps (oneOf [R.SLT.STS.STATE n]) [] s.dev d))) ∧
    (s.dev.saving = true → ∀ c ∈ [Instr.insertionDelayExpire n, .voutReached n lv, .pgDelayExpire n, .onOneSecond n, .retryDlyExpire n], Gives c s (fun d => Keeps (oneOf []) [] s.dev d)) ∧
    ((st ≠ 3 ∨ r.pgDue = false) → Gives (.faultTimerIdle n) s (fun d => d.slt n = { r with timer := false } ∧ others d ∧ Keeps (oneOf []) [.slot] s.dev d)) ∧
    (2 ≤ st → st ≤ 4 → Gives (.faultTimerStart n) s (fun d => d.slt n = { r with timer := true } ∧ others d ∧ Keeps (oneOf []) [.slot] s.dev d)) ∧
    (∀ met, Gives (.supplyWindowChange n met lv) s (fun d => d.slt n = { r with vin := lv.vin, vout := lv.vout, iout := lv.iout, vinOk := met } ∧ others d ∧ Keeps (oneOf []) [.slot] s.dev d)) ∧
    (st = 7 →
      (s.dev.mgmt.recs.find? (fun x => x.names [0x21] n) = none → Gives (.downLeadExpire n) s (fun d => d.slotSt n = 0 ∧ d.get (R.SLT.STS.TRIES n) = 0 ∧ gate d 0 ∧
        Keeps (oneOf [R.SLT.STS.STATE n, R.SLT.STS.TRIES n]) [.out] s.dev d)) ∧
      (∀ x, s.dev.mgmt.recs.find? (fun x => x.names [0x21] n) = some x → s.dev.mgmt.down = false → s.dev.inCommit x.prin x.cmd = false →
        Gives (.downLeadExpire n) s (fun d => d.slotSt n = 0 ∧ d.get (R.SLT.STS.TRIES n) = 0 ∧ d.completed x.prin x.cmd {})))

/-- R9, R310, R316. -/
def Obligations.SlotTripsAndLosses : Prop :=
  ∀ (n : Fin 32) (s : State), s.live → (s.dev.rowNow n = none →
    let st := s.dev.slotSt n
    let r := s.dev.slt n
    let tries := s.dev.get (R.SLT.STS.TRIES n)
    let S := Sts.slt n
    let stopped := fun (d : Dev) => (d.slt n).timer = false ∧ (d.slt n).pgDue = false ∧ ∀ k, k ≠ n.val → d.slt k = s.dev.slt k
    let tripped := fun (d : Dev) (b : Nat) => d.has S b ∧ stopped d ∧ d.is (R.SLT.STS.PG n) = false ∧
      (if tries < s.dev.get (R.SLT.CTL.RETRIES n) then d.slotSt n = 5 ∧ d.get (R.SLT.STS.TRIES n) = tries + 1 else d.slotSt n = 6 ∧ d.has S 3 ∧ d.get (R.SLT.STS.TRIES n) = tries)
    (∀ (c : Instr) (b : Nat), ((c = .fastTrip n ∧ b = 0 ∧ 2 ≤ st ∧ st ≤ 4) ∨ (c = .faultTimeExpire n ∧ b = 1 ∧ 2 ≤ st ∧ st ≤ 4 ∧ r.timer = true) ∨ (c = .rampTmo n ∧ b = 2 ∧ st = 2)) →
      (s.dev.is (R.SLT.STS.PG n) = false → Gives c s (fun d => tripped d b ∧ (b ≠ 0 → ⟨.pins, .gateDrive, [n.val, 1]⟩ ∈ d.out) ∧
        Keeps (oneOf ([R.SLT.STS.STATE n, R.SLT.STS.TRIES n] ++ S.fields b ++ S.fields 3)) [.slot, .out] s.dev d)) ∧
      (∀ p, s.dev.is (R.SLT.STS.PG n) = true → s.dev.slotPort n = some p → s.dev.linkSt p = 4 → s.dev.role p = 2 → (s.dev.prt p).hold = 0 → s.dev.get (R.PU.EPOCH.HOLD_US p) ≠ 0 → s.dev.saving = false →
        Gives c s (fun d => tripped d b ∧ d.has S 9 ∧ d.linkSt p = 1 ∧ d.get (R.PU.ERRSTS.DOWN_CAUSE p) = 3 ∧ d.is (R.PU.EPOCH.HOLD_ACT p) = true))) ∧
    (st < 2 ∨ 4 < st → Gives (.fastTrip n) s (fun d => Keeps (oneOf []) [] s.dev d)) ∧
    (∀ ovr, 2 ≤ st → st ≤ 4 → s.dev.is (R.SLT.STS.PG n) = false → ∀ t, exec (.supplyWindowLost n ovr) s = .next t → Gives (.fastTrip n) t (fun d => tripped d 0 ∧ ∀ b, b = 4 ∨ b = 5 → (d.has S b ↔ s.dev.has S b))) ∧
    (∀ ovr, 2 ≤ st → st ≤ 4 → s.dev.is (R.SLT.STS.PG n) = false → Gives (.supplyWindowLost n ovr) s (fun d => d.slotSt n = 1 ∧ d.has S (if ovr then 5 else 4) ∧ stopped d ∧ (d.slt n).vinOk = false ∧
      d.out = s.dev.out ++ [⟨.pins, .gateDrive, [n.val, 1]⟩] ∧ Keeps (oneOf (R.SLT.STS.STATE n :: S.fields (if ovr then 5 else 4))) [.slot, .out] s.dev d)) ∧
    (2 ≤ st → st ≤ 4 → s.dev.is (R.SLT.STS.PG n) = true → s.dev.slotPort n = none → Gives (.voutLost n) s (fun d => d.slotSt n = 1 ∧ d.has S 4 ∧ d.has S 9 ∧ d.is (R.SLT.STS.PG n) = false ∧ stopped d ∧
      ⟨.pins, .pin, [n.val, 0]⟩ ∈ d.out ∧ Keeps (oneOf ([R.SLT.STS.STATE n, R.SLT.STS.PG n] ++ S.fields 4 ++ S.fields 9)) [.slot, .out] s.dev d)) ∧
    (∀ lv, st = 4 → lv.iout < 100 →
      (s.dev.is (R.SLT.CTL.AUTO_OFF n) = false ∨ s.dev.saving = true → Gives (.noload n lv) s (fun d => d.slotSt n = 4 ∧ d.has S 6 ∧ (d.slt n).iout = lv.iout ∧
        Keeps (oneOf (S.fields 6)) [.slot] s.dev d)) ∧
      (s.dev.is (R.SLT.CTL.AUTO_OFF n) = true → s.dev.saving = false → s.dev.is (R.SLT.STS.PG n) = true → s.dev.slotPort n = none → Gives (.noload n lv) s (fun d => d.slotSt n = 7 ∧ d.has S 6 ∧ d.has S 9 ∧
        d.is (R.SLT.STS.PG n) = false ∧ stopped d ∧ Keeps (oneOf ([R.SLT.STS.STATE n, R.SLT.STS.PG n] ++ S.fields 6 ++ S.fields 9)) [.slot, .out] s.dev d)))) ∧
  (∀ x, s.dev.rowNow n = some x → x.rank = 0 → 2 ≤ x.sts.headD 0 → x.sts.headD 0 ≤ 4 → s.dev.slotSt n = 7 → Gives (.fastTrip n) s (fun d => d.has (.slt n) 0 ∧ Keeps (oneOf ((Sts.slt n).fields 0)) [] s.dev d))

/-- R26, R30, R31, R402. -/
def Obligations.PacketsReadAndWriteRegisters : Prop :=
  ∀ (pkt : Packet) (s : State), s.live → s.dev.settled →
    let answered := fun (d : Dev) (typ err : Nat) (data : List Nat) =>
      let wait := s.dev.quiesced pkt.dst = true ∧ pkt.dstPort ≠ 2
      let e := pkt.answer typ err data
      d.noc = { s.dev.noc with delivered := s.dev.noc.delivered.erase pkt, transit := if wait then s.dev.noc.transit else s.dev.noc.transit ++ [(pkt.dst, pkt.dst, e)], locals := if wait then s.dev.noc.locals ++ [(pkt.dst, e)] else s.dev.noc.locals }
    (∀ c : Instr, ((c = .cfgRd pkt ∧ pkt.typ = 0) ∨ (c = .tblRd pkt ∧ pkt.typ = 2)) →
      (s.dev.serves pkt = true → pkt.dwcnt = 1 → ∀ v, s.dev.readWord (pkt.addr / 4 * 4) = some v → Gives c s (fun d => answered d 4 0 [v % 2 ^ 32] ∧ Keeps (oneOf []) [.noc] s.dev d)) ∧
      (s.dev.serves pkt = false → Gives c s (fun d => answered d 4 4 [] ∧ Keeps (oneOf []) [.noc] s.dev d))) ∧
    (∀ c : Instr, ((c = .cfgWr pkt ∧ pkt.typ = 1) ∨ (c = .tblWr pkt ∧ pkt.typ = 3)) →
      (pkt.poison = true → Gives c s (fun d => answered d 5 5 [] ∧ Keeps (oneOf []) [.noc] s.dev d)) ∧
      (pkt.poison = false → pkt.e2e = true → pkt.crc ≠ pkt.crc32 → Gives c s (fun d => answered d 5 3 [] ∧ d.has (.noc pkt.dst) bCRC ∧ Keeps (oneOf ((Sts.noc pkt.dst).fields bCRC)) [.noc] s.dev d)) ∧
      (pkt.poison = false → pkt.e2e = false → s.dev.serves pkt = false → Gives c s (fun d => answered d 5 4 [] ∧ Keeps (oneOf []) [.noc] s.dev d))) ∧
    (pkt.poison = false → pkt.e2e = false → pkt.dwcnt = 1 → s.dev.committing = false → s.configurable → ∀ w, w < 2 ^ 32 → pkt.data = [w + 15 * 2 ^ 32] →
      (∀ n : Fin 32, pkt.typ = 1 → pkt.addr = 0x9000C + 0x100 * n.val → pkt.dst = 35 → pkt.dstPort = 1 →
        Gives (.cfgWr pkt) s (fun d => answered d 5 0 [] ∧ d.get (R.SLT.MASK.MASK n) = w % 2 ^ 10 ∧ Keeps (oneOf [R.SLT.MASK.MASK n]) [.noc] s.dev d)) ∧
      (∀ (k : Fin 512) (j : Fin 2), pkt.typ = 3 → pkt.addr = 0x1072000 + 16 * k.val + 4 * j.val → pkt.dst = 35 → pkt.dstPort = 0 →
        let e := Tbl.get s.dev.sdumps {} k
        let a := if j.val = 0 then e.addr / 2 ^ 32 % 2 ^ 32 * 2 ^ 32 + w else e.addr % 2 ^ 32 + 2 ^ 32 * w
        Gives (.tblWr pkt) s (fun d => answered d 5 0 [] ∧ Tbl.get d.sdumps {} k = { addr := a, en := e.en } ∧ (∀ i, i ≠ k.val → Tbl.get d.sdumps {} i = Tbl.get s.dev.sdumps {} i) ∧
          (e.addr ≠ a → s.dev.changedOnce d) ∧ (e.addr = a → d.cfgSeq = s.dev.cfgSeq) ∧ Keeps (oneOf cmdRegs) [.noc, .sdumps, .prs] s.dev d)))

/-- R6, R214, R221, R390. -/
def Obligations.RegisterWrites : Prop :=
  ∀ (s : State) (v : Word) (be : Nat), s.live → s.dev.settled → s.dev.committing = false → (∀ k, s.dev.domSt k = .on) →
    (s.writable →
      (∀ n : Fin 32, Gives (.registerWrite (0x9000C + 0x100 * n.val) v 15) s (fun d => d.get (R.SLT.MASK.MASK n) = v.toNat % 2 ^ 10 ∧ Keeps (oneOf [R.SLT.MASK.MASK n]) [] s.dev d)) ∧
      (∀ n : Fin 32, Gives (.registerWrite (0x9000C + 0x100 * n.val) v 1) s (fun d =>
        d.get (R.SLT.MASK.MASK n) = s.dev.get (R.SLT.MASK.MASK n) % 2 ^ 10 / 256 * 256 + v.toNat % 256 ∧ Keeps (oneOf [R.SLT.MASK.MASK n]) [] s.dev d)) ∧
      Gives (.registerWrite 0x10014 v be) s (fun d => Keeps (oneOf []) [] s.dev d)) ∧
    (s.configurable → Gives (.registerWrite 0x1000C v 15) s (fun d => d.get R.SEC.CTL.SEC_THRESH = v.toNat % 256 ∧ d.get R.SEC.CTL.CUR_THRESH = v.toNat / 256 % 256 ∧
      (v.toNat % 2 ^ 16 ≠ s.dev.get R.SEC.CTL.SEC_THRESH + 256 * s.dev.get R.SEC.CTL.CUR_THRESH → s.dev.changedOnce d) ∧
      Keeps (oneOf ([R.SEC.CTL.SEC_THRESH, R.SEC.CTL.CUR_THRESH] ++ cmdRegs)) [.prs] s.dev d)) ∧
    (s.dev.saving = true → Gives (.registerWrite 0x1000C v be) s (fun d => Keeps (oneOf []) [] s.dev d)) ∧
    (∀ off, (s.dev.readWord (off / 4 * 4) = none ∨ 7 ≤ s.dev.get R.PRS.STATE.SEQ ∨ be % 16 = 0) → Gives (.registerWrite off v be) s (fun d => Keeps (oneOf []) [] s.dev d))

/-- R297, R298, R301. -/
def Obligations.FaultBitsAndInjection : Prop :=
  ∀ s : State, s.live → s.writable →
    (∀ (off : Nat) (S : Sts) (m : Word), stsAt off = some S →
      Gives (.faultBitClear off m 0) s (fun d =>
        (∀ b, (b ∈ S.faults.map (·.1) ∨ b ∈ S.marked ∨ b = S.ovf) → (d.has S b ↔ s.dev.has S b ∧ hasBit m.toNat b = false)) ∧
        ((∀ e ∈ S.faults, ¬d.has S e.1) → d.get S.firstF = 0) ∧ ((∃ e ∈ S.faults, d.has S e.1) → d.get S.firstF = s.dev.get S.firstF) ∧ Keeps (oneOf (S.firstF :: (List.range 32).map S.bit)) [] s.dev d) ∧
      (∀ still : Word, Gives (.faultBitClear off m still) s (fun d =>
        (∀ b, (b ∈ S.faults.map (·.1) ∨ b ∈ S.marked) → (d.has S b ↔ s.dev.has S b ∧ (hasBit m.toNat b = false ∨ hasBit still.toNat b = true))) ∧ Keeps (oneOf (S.firstF :: (List.range 32).map S.bit)) [] s.dev d))) ∧
    (∀ c : Fin 4,
      let chk := s.dev.get (R.INJ.CTL.CHK c)
      let inst := s.dev.get (R.INJ.TGT.INST c)
      let part := s.dev.get (R.INJ.TGT.PART c)
      let n := s.dev.get (R.INJ.CNT.N c)
      ((s.dev.injCh c).armed = false → injLegal chk inst (s.dev.get (R.INJ.CTL.MODE c)) part n = true →
        Gives (.injectArm c) s (fun d => d.injCh c = { armed := true, chk := chk, inst := inst, part := part, double := s.dev.is (R.INJ.CTL.DOUBLE c), left := n, done := (s.dev.injCh c).done } ∧
          Keeps (oneOf []) [] s.dev d)) ∧
      ((s.dev.injCh c).armed = false → injLegal chk inst (s.dev.get (R.INJ.CTL.MODE c)) part n = false →
        Gives (.injectArm c) s (fun d => d.is R.FLT.STS.INJ_REJ = true ∧ (d.injCh c).armed = false ∧ Keeps (oneOf [R.FLT.STS.INJ_REJ]) [] s.dev d)) ∧
      ((s.dev.injCh c).armed = true → Gives (.injectStop c) s (fun d => (d.injCh c).armed = false ∧ (d.injCh c).left = 0 ∧ (d.injCh c).done = true ∧ Keeps (oneOf []) [] s.dev d)))

/-- R184, R185, R187, R188, R189, R191. -/
def Obligations.SkidderQueues : Prop :=
  ∀ (q : Fin 1040) (s : State), s.live → s.dev.settled → s.dev.inPair = false →
    let e := s.dev.qe q
    let r := s.dev.qr q
    let ents := 2 ^ e.size
    let D := s.dev.skid
    let own := fun (d : Dev) => ∀ k, k ≠ q.val → d.qe k = s.dev.qe k ∧ d.qr k = s.dev.qr k
    let fit := (if q.val < 1024 then (s.dev.sl (q.val / 2)).st = slBound ∧ (s.dev.sl (q.val / 2)).pasidEn = true else s.dev.sqOwner q < 8) ∧
      6 ≤ e.size ∧ e.size ≤ 16 ∧ e.ring % 4096 = 0 ∧ e.cpl % 4096 = 0 ∧ e.hwb % 64 = 0
    let idle := fun (c : Instr) => Gives c s (fun d => Keeps (oneOf []) [] s.dev d)
    (e.st = 0 → fit → Gives (.queueEnable q) s (fun d => d.qe q = { e with st := 1, en := true, fphase := r.hphase } ∧ (d.qr q).fetch = e.head ∧ (d.qr q).fetched = [] ∧ own d ∧
      Keeps (oneOf []) [.queues, .skid] s.dev d)) ∧
    (e.st = 0 → ¬fit → Gives (.queueEnable q) s (fun d => d.qe q = { e with en := false, rej := true } ∧ own d ∧ Keeps (oneOf []) [.queues] s.dev d)) ∧
    (e.st = 1 ∨ e.st = 3 → idle (.queueEnable q)) ∧
    (e.st = 2 → Gives (.queueEnable q) s (fun d => d.qe q = { e with en := true } ∧ own d ∧ Keeps (oneOf []) [.queues] s.dev d)) ∧
    (e.st = 1 → Gives (.queueDisable q) s (fun d => d.qe q = { e with st := 2, en := false } ∧ d.qr q = { r with stop := 1, reading := 0 } ∧ own d ∧
      (∀ a ∈ d.skid.acts, a.q = q.val → a.status = none → a.stopped = true ∧ a.aborted = true) ∧ Keeps (oneOf []) [.queues, .skid] s.dev d)) ∧
    (e.st = 2 → Gives (.queueDisable q) s (fun d => d.qe q = { e with en := false } ∧ d.qr q = { r with dis := true } ∧ own d ∧ Keeps (oneOf []) [.queues, .skid] s.dev d)) ∧
    (e.st = 3 → Gives (.queueDisable q) s (fun d => d.qe q = { e with st := 0, en := false, abort := false } ∧ own d ∧ Keeps (oneOf []) [.queues] s.dev d)) ∧
    (e.st = 1 → Gives (.queueAbort q) s (fun d => d.qe q = { e with st := 2, abort := true } ∧ d.qr q = { r with stop := 2, reading := 0 } ∧ own d ∧
      (∀ a ∈ d.skid.acts, a.q = q.val → a.status = none → a.stopped = true ∧ a.aborted = true) ∧ Keeps (oneOf []) [.queues, .skid] s.dev d)) ∧
    (e.st = 2 → Gives (.queueAbort q) s (fun d => d.qe q = { e with abort := true } ∧ own d ∧ Keeps (oneOf []) [.queues] s.dev d)) ∧
    (e.st = 0 ∨ e.st = 3 → idle (.queueAbort q)) ∧
    (e.st = 3 → Gives (.queueResume q) s (fun d => d.qe q = { e with st := 1, fphase := r.hphase } ∧ (d.qr q).fetch = e.head ∧ own d ∧ Keeps (oneOf []) [.queues, .skid] s.dev d)) ∧
    (e.st ≠ 3 → idle (.queueResume q)) ∧
    (∀ v, Gives (.tailWrite q v) s (fun d => d.qe q = { e with tail := v % 2 ^ 16 } ∧ own d ∧ Keeps (oneOf []) [.queues] s.dev d)) ∧
    (∀ n, n = min (min ((e.tail % ents + ents - r.fetch) % ents) (ents - r.fetch)) (min 8 (16 - s.dev.heldDescs q)) →
      let reads := e.st = 1 ∧ r.reading = 0 ∧ 0 < n ∧ s.dev.saving = false ∧ s.dev.admitAcc q (accCells (64 * n) true false) = true
      let addr := e.ring + 64 * r.fetch
      (¬reads → idle (.descriptorFetch q)) ∧
      (reads → Gives (.descriptorFetch q) s (fun d => d.qr q = { r with reading := n } ∧ own d ∧
        d.skid.accs = D.accs ++ [{ id := D.nextId, q := q, slot := r.fetch, kind := .ring, n := 64 * n, src := addr, gen := s.dev.qGen q, cells := accCells (64 * n) true false }] ∧
        (q.val < 1024 → d.queued (s.dev.sl (q.val / 2)).port (fun m => m.kind = .ioRead ∧ m.op = .ringRead ∧ m.src = .skid q ∧ m.tag = D.nextId ∧ m.cls = .sc2 ∧ m.args = [addr, s.dev.pasidOf (q.val / 2), 64 * n])) ∧
        (1024 ≤ q.val → d.out = s.dev.out ++ [⟨s.dev.queueMem q, .ringRead, [D.nextId, addr, 64 * n, 0]⟩]) ∧ Keeps (oneOf []) [.skid, .buf, .ctrvals, .out] s.dev d))) ∧
    (∀ b, e.st = 1 → D.accs.find? (fun b => b.q == q.val && b.kind == .ring && s.dev.accReady b) = some b → b.void = false →
      (∀ x : Nat, s.dev.inj = [] → b.n = 64 → s.dev.accBad b = 0 → (unpackDesc x).readsSrc = false → (unpackDesc x).readsDst = false → Gives (.fetchReturn q .ok [x] []) s (fun d =>
        (d.qr q).fetched = r.fetched ++ [{ slot := r.fetch, d := unpackDesc x, gen := b.gen, pass := (unpackDesc x).phase == e.fphase, exp := e.fphase }] ∧
        (d.qr q).fetch = (r.fetch + 1) % ents ∧ (d.qr q).reading = 0 ∧ (d.qe q).fphase = (if (r.fetch + 1) % ents = 0 then !e.fphase else e.fphase) ∧ own d ∧ Keeps (oneOf []) [.queues, .skid, .buf] s.dev d)) ∧
      (∀ res ds ue, res ≠ .ok ∨ s.dev.accBad b ≠ 0 → Gives (.fetchReturn q res ds ue) s (fun d => d.qe q = { e with st := 2, lastStatus := 15 } ∧
        d.qr q = { r with reading := 0, stop := 3, why := if r.why = 0 then 15 else r.why } ∧ d.has .dmv 2 ∧ own d ∧ Keeps (oneOf (Sts.dmv.fields 2)) [.queues, .skid, .buf] s.dev d))) ∧
    (∀ f fs b dst, r.fetched = f :: fs → (∀ g ∈ fs, g.slot ≠ f.slot) → D.accs.filter (fun b => b.q == q.val && b.slot == f.slot && b.kind == .frag dst) = [b] → b.void = false → b.off = 0 →
      s.dev.accReady b = true →
      (s.dev.inj = [] → s.dev.accBad b = 0 → ∀ es, Gives (.fragmentRead q f.slot dst .ok es false) s (fun d =>
        let frs := (if b.sPool.isSome then (List.range (b.n / 16)).map (fun i => bits b.data (128 * i) 128) else es.take (b.n / 16)).map unpackFrag
        (d.qr q).fetched = { f with srcFr := if dst then f.srcFr else some frs, dstFr := if dst then some frs else f.dstFr } :: fs ∧ own d ∧ Keeps (oneOf []) [.skid, .buf] s.dev d)) ∧
      (∀ res es, res ≠ .ok ∨ s.dev.accBad b ≠ 0 → s.dev.inj = [] → Gives (.fragmentRead q f.slot dst res es false) s (fun d =>
        (d.qr q).fetched = { f with fragErr := true, srcFr := if dst then f.srcFr else none, dstFr := if dst then none else f.dstFr } :: fs ∧ d.has .dmv 2 ∧ own d ∧
        Keeps (oneOf (Sts.dmv.fields 2)) [.skid, .buf] s.dev d))) ∧
    (e.st = 2 → (∀ b ∈ s.dev.bursts, b.q ≠ q.val) → (∀ a ∈ D.acts, a.q ≠ q.val) →
      let ended := fun (d : Dev) => (d.qr q).fetched = [] ∧ (d.qr q).fetch = e.head ∧ d.get R.DMV.DISCCNT.VALUE = min (s.dev.get R.DMV.DISCCNT.VALUE + r.fetched.length) (2 ^ R.DMV.DISCCNT.VALUE.w - 1) ∧ own d
      ((r.stop = 1 ∨ r.dis = true) → Gives (.stopComplete q) s (fun d => ended d ∧ d.qe q = { e with st := 0, en := false, abort := false, fphase := r.hphase } ∧ (r.stop = 2 → d.has .dmv 14) ∧
        Keeps (oneOf (R.DMV.DISCCNT.VALUE :: Sts.dmv.fields 14)) [.queues, .skid] s.dev d)) ∧
      (r.dis = false → r.stop = 2 ∨ r.stop = 3 → Gives (.stopComplete q) s (fun d => ended d ∧ d.qe q = { e with st := 3, abort := false, fphase := r.hphase } ∧ d.has .dmv (if q.val < 1024 then 0 else 1) ∧
        (r.stop = 2 → d.has .dmv 14) ∧ (r.why ≠ 0 → s.dev.is R.DMV.ERRQ.VALID = false → d.get R.DMV.ERRQ.QUEUE = q.val ∧ d.get R.DMV.ERRQ.STATUS = r.why % 16 ∧ d.is R.DMV.ERRQ.VALID = true) ∧
        (r.why = 0 → d.is R.DMV.ERRQ.VALID = s.dev.is R.DMV.ERRQ.VALID)))) ∧
    (∀ (t : Fin 16) (v : Word), s.configurable → s.dev.committing = false →
      let per := v.toNat % 2 ^ 20
      let owner := v.toNat / 2 ^ 20 % 2 ^ 10
      let bad := per = 0 ∨ 1000000 < per ∨ (512 < owner ∧ owner ≠ 0x3FF) ∨ (s.dev.is (R.TMR.CFG.EN t) = true ∧ (per ≠ s.dev.get (R.TMR.CFG.PERIOD t) ∨ owner ≠ s.dev.get (R.TMR.CFG.OWNER t)))
      (¬bad → Gives (.timerConfig t v) s (fun d => d.get (R.TMR.CFG.PERIOD t) = per ∧ d.get (R.TMR.CFG.OWNER t) = owner ∧ d.get (R.TMR.CFG.EN t) = v.toNat / 2 ^ 30 % 2 ∧ d.get (R.TMR.CFG.ONESHOT t) = v.toNat / 2 ^ 31 ∧
        Keeps (oneOf ([R.TMR.CFG.PERIOD t, R.TMR.CFG.OWNER t, R.TMR.CFG.EN t, R.TMR.CFG.ONESHOT t] ++ cmdRegs)) [.prs] s.dev d)) ∧
      (bad → Gives (.timerConfig t v) s (fun d => d.has .dmv 11 ∧ Keeps (oneOf (Sts.dmv.fields 11)) [] s.dev d))) ∧
    ((∃ a ∈ D.acts, 1024 ≤ a.q ∧ a.waits = true) → Gives .admStall s (fun d => d.has .dmv 9 ∧ Keeps (oneOf (Sts.dmv.fields 9)) [] s.dev d)) ∧
    ((∀ a ∈ D.acts, 1024 ≤ a.q → a.waits = false) → idle .admStall)

/-- R192, R193, R194, R195, R196, R201, R202, R203, R204. Premises name one started descriptor; the rest of the state is free. -/
def Obligations.SkidderDescriptorsAndBursts : Prop :=
  ∀ (q : Fin 1040) (s : State), s.live → s.dev.settled → s.dev.inPair = false → s.dev.saving = false →
    let e := s.dev.qe q
    let r := s.dev.qr q
    let D := s.dev.skid
    let own := if q.val < 1024 then q.val / 2 else 0
    let reachable := fun (pool : Nat) => s.dev.fresh ∧ s.dev.lost (s.dev.memPort own pool) = false
    let hostUp := q.val < 1024 → s.dev.lost (s.dev.sl (q.val / 2)).port = false
    let completed := fun (d : Dev) (c : SCpl) =>
      let h := (e.head + 1) % 2 ^ e.size
      let ok := if c.status = 0 then (e.okSeq + 1) % 2 ^ 32 else e.okSeq
      (d.qe q).head = h ∧ (d.qe q).okSeq = ok ∧ (c.status = 0 → (d.qe q).st = 1 ∧ (d.qe q).lastStatus = e.lastStatus) ∧ (c.status ≠ 0 → (d.qe q).st = 2 ∧ (d.qe q).lastStatus = c.status) ∧
        (q.val < 1024 → d.queued (s.dev.sl (q.val / 2)).port (fun m => m.op = .cplEntry ∧ m.args = (e.cpl + 32 * c.slot) :: s.dev.pasidOf (q.val / 2) :: leBytes (packSCpl c) 32) ∧
          d.queued (s.dev.sl (q.val / 2)).port (fun m => m.op = .headWb ∧ m.args = e.hwb :: s.dev.pasidOf (q.val / 2) :: leBytes (packHwb h (s.dev.qGen q) ok) 8)) ∧
        (1024 ≤ q.val → ⟨s.dev.queueMem q, .cplEntry, (e.cpl + 32 * c.slot) :: leBytes (packSCpl c) 32⟩ ∈ d.out ∧ ⟨s.dev.queueMem q, .headWb, e.hwb :: leBytes (packHwb h (s.dev.qGen q) ok) 8⟩ ∈ d.out)
    (∀ f fs, r.fetched = f :: fs → s.dev.mayStart q f = true → f.gen = s.dev.qGen q →
      (s.dev.descCheck q f = none → 0 < f.d.len →
        let begun := fun (d : Dev) => d.skid.acts = D.acts ++ [{ q := q, slot := f.slot, d := f.d, gen := f.gen, srcFr := f.srcFr.getD [], dstFr := f.dstFr.getD [] }] ∧ (d.qr q).fetched = fs
        ((∀ a ∈ D.acts, a.q = q.val → a.slot ≠ f.slot) →
          (s.dev.triggered q f.d = true → Gives (.descriptorStart q) s (fun d => begun d ∧ Keeps (oneOf []) [.skid] s.dev d)) ∧
          (∀ t : Fin 16, D.rt = [(q.val, r)] → s.dev.is (R.TMR.CFG.EN t) = true → f.d.trig = 1 → f.d.timer = t.val → Gives (.timerFire t) s (fun d => begun d ∧
            hasBit (d.get R.DMV.TMRFIRE.FIRED) t = true ∧ (s.dev.is (R.TMR.CFG.ONESHOT t) = true → d.is (R.TMR.CFG.EN t) = false) ∧ Keeps (oneOf [R.DMV.TMRFIRE.FIRED, R.TMR.CFG.EN t]) [.skid] s.dev d))) ∧
        (s.dev.triggered q f.d = false → Gives (.descriptorStart q) s (fun d => Keeps (oneOf []) [] s.dev d))) ∧
      (∀ st, (s.dev.descCheck q f = some st ∨ (s.dev.descCheck q f = none ∧ f.d.op = 0 ∧ s.dev.triggered q f.d = true ∧ st = 0)) → f.ue = false → f.slot = e.head → (∀ a ∈ D.acts, a.q ≠ q.val) →
        (∀ b ∈ D.accs, b.q ≠ q.val) → hostUp → Gives (.descriptorStart q) s (fun d => d.skid.acts = D.acts ∧ (d.qr q).fetched = fs ∧
          completed d { q := q, slot := f.slot, tag := f.d.tag, status := st, phase := f.d.phase, srcCrc := 0, residue := if st = 0 then 0 else f.d.len, failOff := 0, irq := f.d.irq, gen := f.gen }))) ∧
    (∀ a, D.acts = [a] → a.q = q.val → a.gen = s.dev.qGen q → a.status = none → a.verify = [] →
      let bytes := fun (d : Dev) => d.get R.DMV.BYTESL.VALUE + 2 ^ 32 * d.get R.DMV.BYTESH.VALUE
      let others := fun (b : SkAcc) => ∃ x ∈ D.accs, x.id ≠ b.id ∧ x.q = q.val ∧ x.slot = a.slot ∧ x.isBurst = true
      let gone := fun (b : SkAcc) (d : Dev) => d.skid.accs = D.accs.filter (fun x => x.id != b.id)
      let writing := fun (b : SkAcc) (d : Dev) => d.skid.accs = D.accs.map (fun (x : SkAcc) => if x.id = b.id then { x with kind := .write, here := false, data := 0, bad := 0 } else x)
      let written := fun (b : SkAcc) (dp v : Nat) (bad : Bool) (d : Dev) => d.queued (s.dev.memPort own dp) (fun m => m.kind = .memWrite ∧ m.src = .skid q ∧ m.tag = b.id ∧ m.args = [s.dev.reqAddr dp, v, 2 ^ b.n - 1] ∧ m.poison = bad)
      (∀ sp dp n, D.ready = [] → D.scrubs = [] → (∀ x ∈ D.rt, x.2.fetched = []) → a.stopped = false → a.d.op = 1 → a.d.srcInd = false → a.d.dstInd = false → a.d.srcSp = false → a.d.dstSp = false →
        a.off < a.d.len → s.dev.bursts.length < 64 → n = min (min (a.d.len - a.off) (4096 - (a.d.dst + a.off) % 4096)) (min (a.d.len - a.off) (4096 - (a.d.src + a.off) % 4096)) →
        s.dev.burstSide q (a.d.src + a.off) 1 = .ok sp → s.dev.burstSide q (a.d.dst + a.off) 2 = .ok dp → s.dev.admitAcc q (accCells n true true) = true → reachable sp →
        Gives .queueTurn s (fun d => d.skid.accs = D.accs ++ [{ id := D.nextId, q := q, slot := a.slot, kind := .read, off := a.off, n := n, src := a.d.src + a.off, dst := a.d.dst + a.off, sPool := some sp, dPool := some dp, gen := a.gen, cells := accCells n true true }] ∧
          d.skid.acts = [{ a with off := a.off + n, waits := false }] ∧ d.queued (s.dev.memPort own sp) (fun m => m.kind = .memRead ∧ m.src = .skid q ∧ m.tag = D.nextId ∧ m.addr = s.dev.reqAddr sp ∧ m.ask = n) ∧
          d.get R.DMV.BURSTCNT.VALUE = (s.dev.get R.DMV.BURSTCNT.VALUE + 1) % 2 ^ R.DMV.BURSTCNT.VALUE.w ∧ Keeps (oneOf [R.DMV.BURSTCNT.VALUE]) [.skid, .buf, .ctrvals, .out] s.dev d)) ∧
      (∀ b dp data, s.dev.burst b.id .read = some b → b.q = q.val → b.slot = a.slot → b.gen = a.gen → a.d.op = 1 → a.d.dstSp = false → b.dPool = some dp → reachable dp →
        (s.dev.accBad b = 0 → Gives (.burstReadData b.id data false) s (fun d => writing b d ∧ d.skid.acts = [{ a with wrote := true, top := max a.top (b.off + b.n) }] ∧
          written b dp (b.bytes data) false d ∧ Keeps (oneOf []) [.skid, .buf, .ctrvals, .out] s.dev d)) ∧
        (a.fail = none → Gives (.burstReadData b.id data true) s (fun d => writing b d ∧ d.has .dmv 5 ∧ d.skid.acts = [{ a with wrote := true, top := max a.top (b.off + b.n), stopped := true, fail := some (b.off, 7) }] ∧
          written b dp (b.bytes data) true d ∧ Keeps (oneOf (Sts.dmv.fields 5)) [.skid, .buf, .ctrvals, .out] s.dev d))) ∧
      (∀ b, s.dev.burst b.id .write = some b → b.q = q.val → b.slot = a.slot → b.gen = a.gen →
        (a.d.op ≠ 3 → a.off < a.d.len → a.stopped = false → b.bad = 0 → Gives (.burstComplete b.id true) s (fun d => gone b d ∧ d.skid.acts = [a] ∧ bytes d = (bytes s.dev + b.n) % 2 ^ 64 ∧
          Keeps (oneOf [R.DMV.BYTESL.VALUE, R.DMV.BYTESH.VALUE]) [.skid, .buf] s.dev d)) ∧
        (others b → a.fail = none → Gives (.burstComplete b.id false) s (fun d => gone b d ∧ d.skid.acts = [{ a with stopped := true, fail := some (b.off, 8) }] ∧ Keeps (oneOf []) [.skid, .buf] s.dev d))) ∧
      (∀ b, D.accs.find? (fun x => x.id == b.id && x.isBurst) = some b → b.q = q.val → b.slot = a.slot → b.gen = a.gen → a.fail = none →
        (b.kind = .write → others b → Gives (.burstTimeout b.id) s (fun d => d.has .dmv 4 ∧ gone b d ∧ d.skid.acts = [{ a with stopped := true, fail := some (b.off, 9) }] ∧
          Keeps (oneOf (Sts.dmv.fields 4)) [.skid, .buf] s.dev d)) ∧
        (∀ dp, b.kind = .read → a.d.dstSp = false → b.dPool = some dp → reachable dp → Gives (.burstTimeout b.id) s (fun d => d.has .dmv 4 ∧ writing b d ∧
          d.skid.acts = [{ a with wrote := true, top := max a.top (b.off + b.n), stopped := true, fail := some (b.off, 9) }] ∧ written b dp b.data true d ∧
          Keeps (oneOf (Sts.dmv.fields 4)) [.skid, .buf, .ctrvals, .out] s.dev d))) ∧
      (∀ b data, D.accs.find? (fun x => x.id == b.id && x.q == q.val && x.slot == a.slot && x.kind == .check && s.dev.accReady x) = some b → b.gen = a.gen →
        (a.d.op = 3 → others b → a.fail = none →
          (s.dev.accBad b = 0 → b.bytes data = 0 → Gives (.skidderReadBack q a.slot b.id true false data) s (fun d => gone b d ∧ d.skid.acts = [a] ∧ Keeps (oneOf []) [.skid, .buf] s.dev d)) ∧
          (∀ ok poison, ok = false ∨ poison = true ∨ s.dev.accBad b ≠ 0 ∨ b.bytes data ≠ 0 → Gives (.skidderReadBack q a.slot b.id ok poison data) s (fun d => gone b d ∧ d.skid.acts = [{ a with stopped := true, fail := some (b.off, 11) }] ∧ d.has .dmv 7 ∧
            Keeps (oneOf (Sts.dmv.fields 7)) [.skid, .buf] s.dev d))) ∧
        (a.d.op = 1 → a.fail = none → a.aborted = false → a.refused = [] → a.rbFail = false → a.slot = e.head → a.off = a.d.len → e.st = 1 → (∀ x ∈ D.accs, x.id ≠ b.id → ¬(x.q = q.val ∧ x.slot = a.slot)) → hostUp →
          let done := fun (st rest : Nat) => ({ q := q, slot := a.slot, tag := a.d.tag, status := st, phase := a.d.phase, srcCrc := 0, residue := 0, failOff := rest, irq := a.d.irq, gen := a.gen } : SCpl)
          (s.dev.accBad b = 0 → Gives (.skidderReadBack q a.slot b.id true false data) s (fun d => gone b d ∧ d.skid.acts = [] ∧ completed d (done 0 a.d.len))) ∧
          (∀ ok poison, ok = false ∨ poison = true ∨ s.dev.accBad b ≠ 0 → Gives (.skidderReadBack q a.slot b.id ok poison data) s (fun d => gone b d ∧ d.skid.acts = [] ∧ d.has .dmv 6 ∧ completed d (done 10 a.d.len))))))

/-- R211 to R221, R240. -/
def Obligations.SaveSequence : Prop :=
  ∀ (p : Fin 64) (s : State), s.sound →
    let D := s.dev
    let seq := D.get R.PRS.STATE.SEQ
    let us := fun (n : Nat) => min ((D.time.cclk - D.prs.since) / 2000) 0xFFFF = n
    let noLines := ∀ ds, ds < 16 → (D.dir ds).ac = [] ∧ (D.dir ds).ents = [] ∧ (D.dir ds).trks = []
    (D.pins.pfailN = true → Gives .pfailNFall s (fun d => d.pins = { D.pins with pfailN := false } ∧ d.prs = { D.prs with filt := true } ∧ Keeps (oneOf []) [.pins, .prs] D d)) ∧
    (D.pins.pfailN = false → D.prs.filt = true → D.pins.perstN = true →
      (seq = 1 → D.settled → D.is R.PAIR.CTL.EN = false → (∀ k, k < 64 → (D.prt k).hold ≠ 1) → Gives .pfailQualified s (fun d => d.get R.PRS.STATE.SEQ = 2 ∧ d.get R.TOP.DSTATE.MODE = 3 ∧
        d.get R.PRS.RESULT.CAUSE = 1 ∧ d.is R.PRS.STATE.PFAIL = true ∧ d.is R.PRS.RESULT.DONE = false ∧ d.get R.PRS.SAVETIME_L.VALUE + 2 ^ 32 * d.get R.PRS.SAVETIME_H.VALUE = D.time.ft % 2 ^ 64 ∧ d.buf = D.buf)) ∧
      (seq = 0 → D.settled → D.prs.t0.isSome = true → Gives .pfailQualified s (fun d => d.get R.PRS.STATE.SEQ = 7 ∧ d.is R.PRS.RESULT.PF_RESTORE = true ∧ d.get R.PRS.RESULT.CAUSE = 1 ∧ d.pins.persistDone = true))) ∧
    (seq = 2 → D.settled → noLines → ∀ c : Instr, c = .freezeComplete ∨ c = .p0Timeout → Gives c s (fun d => d.get R.PRS.STATE.SEQ = 3 ∧ us (d.get R.PRS.P0T.US) ∧ d.mgmt.cur = none ∧ d.commit.queue = [] ∧ d.commit.change = none ∧ d.commit.mapCmd = none ∧
      d.recalling 769 = true)) ∧
    (seq = 3 → D.settled → (∀ k, k < 64 → (D.prt k).ex = true → D.isMem k = true) → (∃ k, k < 64 ∧ D.capable k = true) → ∀ c : Instr, ((c = .persistDrainComplete ∧ D.drainDone = true) ∨ (c = .p1Timeout ∧ noLines)) →
      Gives c s (fun d => d.get R.PRS.STATE.SEQ = 4 ∧ us (d.get R.PRS.P1T.US) ∧ d.prs.gpf = ((List.range 64).filter D.capable).map (fun k => (k, 0)) ∧ (c = .p1Timeout → d.is R.PRS.RESULT.P1_LATE = true ∧ d.has .prs 1))) ∧
    (seq = 4 →
      let st := Tbl.get? D.prs.gpf p
      let moved := fun (d : Dev) (k : Nat) => d.prs = { D.prs with gpf := Tbl.put D.prs.gpf p k } ∧ Keeps (oneOf []) [.prs, .out] D d
      let miss := fun (d : Dev) => (if p.val < 32 then hasBit (d.get R.PRS.GPFMISS_L.VALUE) p else hasBit (d.get R.PRS.GPFMISS_H.VALUE) (p.val - 32)) = true ∧ d.is R.PRS.RESULT.P2_MISS = true ∧ d.has .prs 0
      (st = some 0 → (∀ m ∈ D.buf.msgs ++ (D.prt p).outs.map (·.msg), m.egress = p.val → m.kind ∉ [.memWrite, .memWb, .ioWrite]) → Gives (.gpfPortStart p) s (fun d => moved d 1 ∧ d.out = D.out ++ [⟨.mem p, .gpf1, [p.val]⟩])) ∧
      (st = some 1 → Gives (.gpfPhase1Response p true) s (fun d => moved d 2 ∧ d.out = D.out ++ [⟨.mem p, .gpf2, [p.val]⟩])) ∧
      (∀ w, st = some 2 → Tbl.get? D.prs.witness p = some w → Gives (.gpfPhase2Response p true) s (fun d => moved d 3 ∧ d.out = D.out ++ [⟨.mem p, .witnessRead, [w.addr, w.n]⟩])) ∧
      (∀ q, q ≠ p.val → (Tbl.get? D.prs.gpf q).isSome = true →
        (∀ c : Instr, ((c = .gpfPhase2Response p true ∧ st = some 2 ∧ Tbl.get? D.prs.witness p = none) ∨ (∃ w x, c = .witnessReadComplete p x true ∧ st = some 3 ∧ Tbl.get? D.prs.witness p = some w ∧
            ∀ i, i < w.n → hasBit w.be i = true → bits x (8 * i) 8 = bits w.data (8 * i) 8)) →
          Gives c s (fun d => Tbl.get? d.prs.gpf p = none ∧ d.get R.PRS.STATE.SEQ = 4 ∧ (if p.val < 32 then hasBit (d.get R.PRS.GPFOK_L.VALUE) p else hasBit (d.get R.PRS.GPFOK_H.VALUE) (p.val - 32)) = true ∧
            Keeps (oneOf [R.PRS.GPFOK_L.VALUE, R.PRS.GPFOK_H.VALUE]) [.prs] D d)) ∧
        (∀ c : Instr, ((c = .gpfPhase1Response p false ∧ st = some 1) ∨ (c = .gpfPhase2Response p false ∧ st = some 2) ∨ (∃ x, c = .witnessReadComplete p x false ∧ st = some 3) ∨
            (∃ w x i, c = .witnessReadComplete p x true ∧ st = some 3 ∧ Tbl.get? D.prs.witness p = some w ∧ i < w.n ∧ hasBit w.be i = true ∧ bits x (8 * i) 8 ≠ bits w.data (8 * i) 8)) →
          Gives c s (fun d => Tbl.get? d.prs.gpf p = none ∧ d.get R.PRS.STATE.SEQ = 4 ∧ miss d))) ∧
      (D.is R.PRS.CTL.ARMED = false → (Tbl.get? D.prs.gpf p).isSome = true → Gives .gpfWaitExpire s (fun d => d.get R.PRS.STATE.SEQ = 6 ∧ miss d ∧ d.is R.PRS.RESULT.NOT_ARMED = true ∧ us (d.get R.PRS.P2T.US) ∧ d.prs.gpf = [])) ∧
      (D.is R.PRS.CTL.ARMED = true → D.isUp (D.homePort false) = true → D.prs.gpf = [(p.val, 2)] → Tbl.get? D.prs.witness p = none → Gives (.gpfPhase2Response p true) s (fun d => d.get R.PRS.STATE.SEQ = 5 ∧ d.prs.home = 1 ∧
        d.get R.PRS.CATLEN.BYTES = 905232 ∧ (∃ i, d.prs.img = some i ∧ i.slices = D.slices ∧ i.extents = D.extents ∧ i.rules = D.rules ∧ i.cfgSeq = D.cfgSeq ∧
          d.out = D.out ++ [⟨.mem (D.homePort false), .homeWrite, [D.get R.PRS.HOMEA.EXT, D.get R.PRS.HOMEA.SLOT] ++ i.bytes⟩])))) ∧
    (seq = 5 →
      (∀ b i, D.prs.home = (if b then 3 else 1) → D.prs.img = some i → Gives (.homeWriteComplete b true) s (fun d => Tbl.get? d.prs.stored (D.homeKey b) = some i ∧ d.prs.home = (if b then 4 else 2) ∧
        d.out = D.out ++ [⟨.mem (D.homePort b), .gpf2, [D.homePort b]⟩] ∧ Keeps (oneOf []) [.prs, .out] D d)) ∧
      (D.prs.home = 3 → Gives (.homeWriteComplete true false) s (fun d => d.get R.PRS.STATE.SEQ = 6 ∧ d.prs.bad.contains 1 = true ∧ us (d.get R.PRS.P3T.US))) ∧
      (∀ i, D.prs.home = 2 → D.prs.img = some i → D.isUp (D.homePort true) = true → Gives (.homeFlushResponse false true) s (fun d => d.prs.home = 3 ∧
        d.out = D.out ++ [⟨.mem (D.homePort true), .homeWrite, [D.get R.PRS.HOMEB.EXT, D.get R.PRS.HOMEB.SLOT] ++ i.bytes⟩])) ∧
      (D.prs.home = 1 ∨ D.prs.home = 2 → D.isUp (D.homePort true) = true → Gives (.homeTimeout false) s (fun d => d.prs.home = 3 ∧ d.prs.bad.contains 0 = true)) ∧
      (D.prs.home = 4 → Gives (.homeFlushResponse true true) s (fun d => d.get R.PRS.STATE.SEQ = 6 ∧ d.prs.bad = D.prs.bad ∧ us (d.get R.PRS.P3T.US))) ∧
      (D.prs.home = 3 ∨ D.prs.home = 4 → Gives (.homeTimeout true) s (fun d => d.get R.PRS.STATE.SEQ = 6 ∧ d.prs.bad.contains 1 = true)) ∧
      Gives .p3Timeout s (fun d => d.get R.PRS.STATE.SEQ = 6 ∧ d.prs.bad.contains 1 = true ∧ (D.prs.home ≤ 2 → d.prs.bad.contains 0 = true))) ∧
    (seq = 6 → ∀ (c : Instr) (a b : Bool), (c = .p4ReadbackComplete a b ∨ (c = .p4Timeout ∧ a = false ∧ b = false)) →
      let okA := D.is R.PRS.CTL.ARMED && a && !D.prs.bad.contains 0
      let okB := D.is R.PRS.CTL.ARMED && b && !D.prs.bad.contains 1
      Gives c s (fun d => d.is R.PRS.RESULT.A_OK = okA ∧ d.is R.PRS.RESULT.B_OK = okB ∧ d.is R.PRS.RESULT.DONE = true ∧ d.pins.persistDone = true ∧ d.get R.PRS.STATE.SEQ = (if D.pins.safeLow then 8 else 7) ∧
        us (d.get R.PRS.P4T.US) ∧ (D.is R.PRS.CTL.ARMED = true → okA ≠ okB → d.has .prs 2) ∧ (D.is R.PRS.CTL.ARMED = true → okA = false → okB = false → d.has .prs 3) ∧
        ∀ k, k < 64 → (D.prt k).ex = true → d.linkSt k = 0)) ∧
    (D.heldReset = false → D.settled → ∀ off,
      (D.is R.FLT.CTL.SCAN_EN = false ∨ hasParity off = false → ∀ bad, Gives (.parityScanVisit off bad) s (fun d => Keeps (oneOf []) [] D d)) ∧
      (D.is R.FLT.CTL.SCAN_EN = true → hasParity off = true → Gives (.parityScanVisit off false) s (fun d => Keeps (oneOf [R.FLT.SCANCNT.VALUE]) [.prs] D d) ∧
        let located := fun (d : Dev) => d.pins.safeLow = true ∧ d.is R.PRS.SAFECAUSE.VALID = true ∧ (D.is R.PRS.SAFECAUSE.VALID = false → d.get R.PRS.SAFECAUSE.OFFSET = off / 4 % 2 ^ 24)
        (seq = 1 → D.is R.PAIR.CTL.EN = false → (∀ k, k < 64 → (D.prt k).hold ≠ 1) → Gives (.parityScanVisit off true) s (fun d => located d ∧ d.get R.PRS.STATE.SEQ = 2 ∧ d.get R.PRS.RESULT.CAUSE = 3)) ∧
        (seq = 0 ∨ seq = 7 → Gives (.parityScanVisit off true) s (fun d => located d ∧ d.get R.PRS.STATE.SEQ = 8))))

/-- R372, R376, R397, R233. -/
def Obligations.ResetsAndRails : Prop :=
  ∀ s : State, s.sound →
    let D := s.dev
    let mid := 2 ≤ D.get R.PRS.STATE.SEQ ∧ D.get R.PRS.STATE.SEQ ≤ 6
    let causes := [R.TOP.RSTCAUSE.POR, R.TOP.RSTCAUSE.PERST, R.TOP.RSTCAUSE.CORE_RAIL, R.TOP.RSTCAUSE.PLL, R.TOP.RSTCAUSE.COUNT, R.PRS.RESULT.DONE, R.PRS.STATE.PFAIL, R.SEC.UNLOCKCNT.VALUE, R.SEC.LCSTS.DBG_EN]
    let emptied := fun (d : Dev) => d.outside = Dev.outside {} ∧ (∀ g : Fld, isAon g.key = false → (∀ f ∈ causes, f.key ≠ g.key) → (∀ n, n < 32 → g.key ≠ (R.SLT.STS.STATE n).key) → d.get g = g.rst) ∧
      (∀ n, n < 32 → d.slotSt n = (if D.slotSt n = 0 then 0 else 7)) ∧
      d.is R.SEC.LCSTS.DBG_EN = (D.get R.SEC.LCSTS.STATE != 2)
    let keptAon := fun (d : Dev) => ∀ g : Fld, isAon g.key = true → (∀ f ∈ causes, f.key ≠ g.key) → (∀ n, n < 32 → g.key ≠ (R.SLT.STS.STATE n).key) → d.get g = D.get g
    let starts := fun (d : Dev) => d.prs.t0.isSome = true
    (D.pins.perstN = true → Gives .perstNAssert s (fun d => d.pins.perstN = false ∧ emptied d ∧ keptAon d ∧ d.is R.TOP.RSTCAUSE.PERST = true ∧ d.is R.TOP.RSTCAUSE.POR = false ∧
      (d.pins.persistDone = true ↔ mid) ∧ (mid → d.is R.PRS.RESULT.DONE = false))) ∧
    (∀ (r : Fin 4) mv, D.clk.coreLow = [] →
      (10 * mv < 9 * railNominal r → Gives (.coreRailLow r mv) s (fun d => d.clk.coreLow = [r.val] ∧ d.heldReset = true ∧ emptied d ∧ keptAon d ∧ d.is R.TOP.RSTCAUSE.CORE_RAIL = true ∧ d.pins.perstN = D.pins.perstN)) ∧
      (9 * railNominal r ≤ 10 * mv → Gives (.coreRailLow r mv) s (fun d => Keeps (oneOf []) [] D d))) ∧
    (∀ (r : Fin 4) mv, D.clk.coreLow = [r.val] → 9 * railNominal r ≤ 10 * mv → Gives (.coreRailRestored r mv) s (fun d => d.clk.coreLow = [] ∧
      (D.pins.perstN = true → D.pins.pfailN = true → D.clk.aon = true → starts d) ∧ (D.pins.perstN = false → Keeps (oneOf []) [.clk] D d))) ∧
    (D.clk.aon = true → Gives .aonPowerLoss s (fun d => d.clk.aon = false ∧ d.heldReset = true ∧ d.outside = Dev.outside {} ∧
      (∀ g : Fld, g.key ≠ R.SEC.LCSTS.STATE.key → g.key ≠ R.SEC.LCSTS.KEYS_ERASED.key → g.key ≠ R.SEC.UNLOCKCNT.VALUE.key → g.key ≠ R.SEC.LCSTS.DBG_EN.key → d.get g = g.rst) ∧ d.get R.SEC.UNLOCKCNT.VALUE = D.get R.SEC.UNLOCKCNT.VALUE % 2 ^ R.SEC.UNLOCKCNT.VALUE.w)) ∧
    (D.clk.aon = false → Gives .vddAonPowerOn s (fun d => d.clk.aon = true ∧ d.is R.TOP.RSTCAUSE.POR = true ∧ d.is R.TOP.RSTCAUSE.PERST = !D.pins.perstN ∧ d.get R.TOP.RSTCAUSE.COUNT = 1)) ∧
    (∀ (i : Fin 8) role, D.pins.perstN = false → Gives (.perstNRelease i role) s (fun d => d.pins.perstN = true ∧ d.pins.persistDone = false ∧ d.pins.devId = i.val ∧ d.pins.pairRole = role ∧ d.get R.TOP.STRAPS.DEV_ID = i.val ∧
      d.is R.TOP.STRAPS.PAIR_ROLE = role ∧ d.time = {} ∧ (D.pins.pfailN = true → D.clk.coreLow = [] → D.clk.aon = true → starts d) ∧
      Keeps (oneOf [R.TOP.STRAPS.DEV_ID, R.TOP.STRAPS.PAIR_ROLE, R.PAIR.STATE.STRAP, R.PAIR.STATE.ROLE]) [.pins, .time, .prs] D d)) ∧
    (D.pins.pfailN = false → Gives .pfailNRelease s (fun d => d.pins = { D.pins with pfailN := true } ∧ d.prs.filt = false ∧ d.is R.PRS.STATE.PFAIL = false ∧
      (D.pins.perstN = true → D.clk.coreLow = [] → D.clk.aon = true → starts d) ∧ Keeps (oneOf [R.PRS.STATE.PFAIL]) [.pins, .prs] D d))

/-- R229 to R239, R346. Premises that no port or slot changes its settings keep the loaded image's own effect apart from bring-up. -/
def Obligations.RestoreAndJournal : Prop :=
  ∀ s : State, s.live →
    let D := s.dev
    let at_ := fun (n : Nat) => D.get R.PRS.STATE.SEQ = 0 ∧ D.prs.t0.isSome = true ∧ D.prs.stage = n
    let same := fun (i : Image) => portsDiffer D.regs i.regs = [] ∧ slotsDiffer D.regs i.regs = []
    let tables := fun (d : Dev) (i : Image) => d.rules = i.rules ∧ d.polices = i.polices ∧ d.classes = i.classes ∧ d.gcls = i.gcls ∧ ∀ q, (d.qe q).st = 0
    (at_ 0 → D.mgmt.dead = false → ∀ ok0 ok1 meas,
      let act := D.nor.fwBank
      let ok := fun (b : Bool) => (if b then ok1 else ok0) && decide (D.get R.TOP.SECVER.VER ≤ (if b then D.nor.ver1 else D.nor.ver0))
      let runs := fun (d : Dev) (b : Bool) => d.get R.SEC.CURSTS.BANK = bit b ∧ d.get R.SEC.FWVER.ACTIVE = (if b then D.nor.ver1 else D.nor.ver0) % 2 ^ 16 ∧ d.prs.stage = 1 ∧ d.is R.SEC.FUSESTS.READ = true
      (ok act = true → Gives (.curatorBootComplete ok0 ok1 meas) s (fun d => runs d act)) ∧
      (ok act = false → ok (!act) = true → Gives (.curatorBootComplete ok0 ok1 meas) s (fun d => runs d (!act) ∧ d.has .cur 0)) ∧
      (ok false = false → ok true = false → Gives (.curatorBootComplete ok0 ok1 meas) s (fun d => d.mgmt.dead = true ∧ d.has .cur 5 ∧ d.prs = D.prs))) ∧
    (at_ 1 → D.settled →
      (D.nor.base = none → ∀ r good, Gives (.journalReadComplete ⟨r, good⟩) s (fun d => d.get R.PRS.RSTSTS.N_WHY = 1 ∧ d.prs.stage = 2 ∧ d.nor.jrn = none ∧ Keeps (oneOf [R.PRS.RSTSTS.N_WHY]) [.prs, .nor] D d)) ∧
      (∀ b good, D.nor.base = some b → let why := fun (r : HomeRead) => if r = .asWritten then (if b.devId = D.pins.devId then (if b.sealed then (if b.tablesOk then 0 else 5) else 4) else 3) else r.why;
        (∀ r, why r ≠ 0 → Gives (.journalReadComplete ⟨r, good⟩) s (fun d => d.get R.PRS.RSTSTS.N_WHY = why r ∧ d.prs.stage = 2 ∧ d.nor.base = some b ∧ d.nor.recs = followOn b.cfgSeq (D.nor.recs.take good) ∧
          Keeps (oneOf [R.PRS.RSTSTS.N_WHY]) [.prs, .nor] D d)) ∧
        (∀ j, why .asWritten = 0 → (D.nor.cutAt good).jrn = some j → j.regs = [] → Gives (.journalReadComplete ⟨.asWritten, good⟩) s (fun d => d.get R.PRS.RSTSTS.N_WHY = 0 ∧ d.prs.stage = 2 ∧
          d.nor.recs = followOn b.cfgSeq (D.nor.recs.take good) ∧ d.get R.PRS.JRNSEQ_L.VALUE + 2 ^ 32 * d.get R.PRS.JRNSEQ_H.VALUE = j.cfgSeq % 2 ^ 64))) ∧
      Gives .restoreStageTimeout s (fun d => d.get R.PRS.RSTSTS.N_WHY = 2 ∧ d.prs.stage = 2)) ∧
    (∀ (p : Fin 64) gpf, D.isMem p = true → D.isUp p = true → Gives (.memoryDeviceReady p gpf) s (fun d => d.prs.hold.contains p.val = true ∧ (d.prt p).partner.gpf = gpf ∧ Keeps (oneOf []) [.port, .prs] D d)) ∧
    (at_ 2 → D.buf.msgs = [] → D.is R.PAIR.CTL.EN = false → ∀ a b,
      let wa := D.homeWhy false a
      let wb := D.homeWhy true b
      (D.choose wa wb (D.get R.PRS.RSTSTS.N_WHY) = none → Gives (.homeReadComplete a b) s (fun d => d.get R.PRS.RSTSTS.A_WHY = wa % 8 ∧ d.get R.PRS.RSTSTS.B_WHY = wb % 8 ∧ d.prs.stage = 3 ∧ d.slices = D.slices ∧
        d.extents = D.extents ∧ d.mgmt = D.mgmt)) ∧
      (∀ src i, D.choose wa wb (D.get R.PRS.RSTSTS.N_WHY) = some (src, i) → same i → Gives (.homeReadComplete a b) s (fun d => d.get R.PRS.RSTSTS.SRC = src ∧ d.prs.stage = 3 ∧ tables d i ∧ d.extents = i.extents ∧
        d.get R.PRS.RSTSEQ_L.VALUE + 2 ^ 32 * d.get R.PRS.RSTSEQ_H.VALUE = i.cfgSeq % 2 ^ 64 ∧
        (src = 3 → d.has .prs 4 ∧ d.is R.PRS.RSTSTS.CNT_JUMP = true ∧ ∀ p, p < 8 → (d.keyOf p).cnt = ((Tbl.get i.keys {} p).jcnt + 2 ^ 32) % 2 ^ 64)))) ∧
    (at_ 3 → D.is R.PAIR.CTL.EN = true → D.buf.msgs = [] →
      (∀ seq img, D.mirrorPort.any D.isUp = true → seq ≤ D.cfgSeq → Gives (.pairAgreement seq img) s (fun d => d.prs = { D.prs with stage := 4 } ∧ Keeps (oneOf []) [.prs] D d)) ∧
      (∀ seq img, D.mirrorPort.any D.isUp = true → D.cfgSeq < seq → same (D.ownView img) → Gives (.pairAgreement seq img) s (fun d => d.is R.PRS.RSTSTS.PAIR_ADOPT = true ∧ d.prs.stage = 4 ∧ tables d img)) ∧
      Gives .restoreStageTimeout s (fun d => d.prs = { D.prs with stage := 4 } ∧ Keeps (oneOf []) [.prs] D d)) ∧
    (at_ 4 → D.buf.msgs = [] → D.is R.PAIR.CTL.EN = false → (∀ x ∈ D.slices, x.2.st ≤ 1) → (∀ x ∈ D.slices, ∀ e ∈ x.2.exts, D.role (D.ext e).port ≠ 3) → ∀ bound, Gives (.consistencyPass bound) s (fun d => d.prs.stage = 5 ∧
      (∀ i, D.prs.img = some i → d.get R.PRS.CLOST.COUNT = (d.slices.filter (fun x => x.2.lost)).length % 2 ^ 10 ∧ (i.source = 1 → ∀ sl, (D.sl sl).st = 1 → (d.sl sl).lost = true)) ∧
      (∀ e, (D.ext e).st = 2 → e ∈ d.skid.scrubs))) ∧
    (at_ 5 → D.buf.msgs = [] → D.prs.asked = [] → D.is R.PAIR.CTL.EN = false → Gives .resumeReady s (fun d => d.get R.PRS.STATE.SEQ = 1 ∧ d.get R.TOP.DSTATE.MODE = 1 ∧ d.has .prs 7 ∧
      d.get R.PRS.RSTTIME.MS = min 0xFFFF ((D.time.cclk - D.prs.t0.getD 0) / 2000000) ∧ (∀ p, p < 64 → D.isMem p = true → (D.prt p).hold = 0 → (d.prt p).hold = (if D.isUp p then 0 else 3)) ∧
      Keeps (oneOf ([R.PRS.STATE.SEQ, R.TOP.DSTATE.MODE, R.PRS.RSTTIME.MS] ++ Sts.prs.fields 7)) [.prs, .port] D d)) ∧
    (D.prs.chg ≠ [] → Gives .jrnLag s (fun d => d.is R.PRS.JRNSTS.LAG = true ∧ d.has .prs 6 ∧ Keeps (oneOf (R.PRS.JRNSTS.LAG :: Sts.prs.fields 6)) [] D d)) ∧
    (∀ c l, D.prs.chg = c :: l → D.nor.op = 0 → D.inService = true → D.mgmt.down = false → D.mgmt.dead = false →
      let baseline := fun (tgt : Bool) => Gives .journalAppend s (fun d => ∃ i, i.slices = D.slices ∧ i.extents = D.extents ∧ i.cfgSeq = D.cfgSeq ∧
        d.nor = { D.nor with op := 2, tgt := tgt, busy := some i, adds := none, took := D.prs.chg.length } ∧ d.is R.PRS.JRNSTS.BUSY = true ∧
        d.out = D.out ++ [⟨.nor, .jrnBaseline, (0x1000000 * (1 + bit tgt)) :: i.bytes⟩])
      (D.nor.jrn = none → baseline D.nor.bank) ∧
      (∀ j, D.nor.jrn = some j →
        let items := catDiff j c.after true
        let fits := c.seq = j.cfgSeq + 1 ∧ D.nor.fill + recordLen items ≤ 0x1000000
        (fits → Gives .journalAppend s (fun d => ∃ x : JrnRec, x.chg = c ∧ x.items = items ∧ d.nor = { D.nor with op := 1, tgt := D.nor.bank, busy := none, adds := some x, took := 1 } ∧
          d.out = D.out ++ [⟨.nor, .jrnRecord, (0x1000000 * (1 + bit D.nor.bank) + D.nor.fill) :: x.bytes⟩])) ∧
        (¬fits → baseline (!D.nor.bank)))) ∧
    (∀ r b, D.nor.op = 1 → D.nor.adds = some r → D.nor.base = some b → Gives (.norOperationComplete true) s (fun d =>
      d.nor = { D.nor with recs := D.nor.recs ++ [r], fill := D.nor.fill + recordLen r.items, op := 0, busy := none, adds := none, took := 0 } ∧ d.nor.jrn = some r.chg.after ∧ d.prs.chg = D.prs.chg.drop D.nor.took ∧
      d.get R.PRS.JRNSEQ_L.VALUE + 2 ^ 32 * d.get R.PRS.JRNSEQ_H.VALUE = r.chg.after.cfgSeq % 2 ^ 64)) ∧
    (∀ i, D.nor.op = 2 → D.nor.busy = some i → D.nor.adds = none → Gives (.norOperationComplete true) s (fun d => d.nor.jrn = some i ∧ d.nor.fill = 905232 ∧ d.nor.bank = D.nor.tgt ∧ d.prs.chg = D.prs.chg.drop D.nor.took ∧
      (D.nor.tgt = D.nor.bank → d.nor.op = 0) ∧ (D.nor.tgt ≠ D.nor.bank → d.nor.op = 3 ∧ d.nor.tgt = D.nor.bank ∧ d.out = D.out ++ [⟨.nor, .jrnErase, [0x1000000 * (1 + bit D.nor.bank), 0x1000000]⟩]))) ∧
    (D.nor.op = 1 ∨ D.nor.op = 2 → Gives (.norOperationComplete false) s (fun d => d.has .prs 5 ∧ d.nor.op = 2 ∧ d.nor.tgt = (!D.nor.tgt) ∧ (∃ i, d.nor.busy = some i ∧ i.slices = D.slices ∧ i.extents = D.extents) ∧
      d.prs.chg = D.prs.chg ∧ (D.nor.tgt = D.nor.bank → d.nor.jrn = D.nor.jrn))) ∧
    (D.nor.op = 3 → Gives (.norOperationComplete true) s (fun d => d.nor = { D.nor with op := 0 } ∧ d.prs = D.prs) ∧
      Gives (.norOperationComplete false) s (fun d => d.has .prs 5 ∧ d.nor = { D.nor with busy := none, adds := none, took := 0 } ∧ d.out = D.out ++ [⟨.nor, .jrnErase, [0x1000000 * (1 + bit D.nor.tgt), 0x1000000]⟩])) ∧
    (D.nor.op = 0 → ∀ ok, Gives (.norOperationComplete ok) s (fun d => Keeps (oneOf []) [] D d))

/-- R244 to R263. MAPREF effects that depend on a content loss of a restored image are not stated here. -/
def Obligations.XepinLinks : Prop :=
  ∀ (p : Fin 64) (s : State), s.live → s.dev.settled →
    let D := s.dev
    let X := D.xl p
    let st := stOf p
    let link := fun (d : Dev) (x : XepRt) => d.xl p = x ∧ Keeps (oneOf []) [.xep] D d
    let nakOut : List Emit := if X.nak then [] else [⟨D.xchan p, .frame, D.nakFrame p⟩]
    (D.isXep p = true → D.linkSt p = 2 ∨ D.linkSt p = 3 → ∀ rec : CapRec,
      let sent : Emit := ⟨D.xchan p, .xCap, leBytes (packCap (D.capRec p)) 8⟩
      let anew := D.updXl p (fun x => { x with gReq := 0, gRsp := 0, gShr := 0 })
      let rec2 := fun (x : XepRt) => x.nbr = some rec.devId ∧ x.seen = some rec.inst ∧ x.rxKept = true ∧ x.tries = 0 ∧ x.nak = false ∧ x.uReq = 0 ∧ x.uRsp = 0 ∧ x.uShr = 0 ∧
        x.byp = (D.is (R.PU.CFG.XBYP p) && rec.byp && !D.xcompat p)
      (D.capBad p rec = true → Gives (.capabilityExchange p rec) s (fun d => d.linkSt p = 0 ∧ d.has (.xep st) 0 ∧ d.out = D.out ++ [⟨.host p, .linkDisable, [p]⟩] ∧ d.xep = D.xep)) ∧
      (D.capBad p rec = false → X.inst.isSome = true → X.resumes rec = true →
        Gives (.capabilityExchange p rec) s (fun d => rec2 (d.xl p) ∧ (d.xl p).next = X.next ∧ (d.xl p).exp = X.exp ∧ (d.xl p).unack = ackBelow rec.rxNext X.unack ∧
          d.out = D.out ++ sent :: (ackBelow rec.rxNext X.unack).map (fun f => ⟨D.xchan p, .frame, anew.frameOf p f⟩) ∧ Keeps (oneOf []) [.xep, .out] D d)) ∧
      (D.capBad p rec = false → X.resumes rec = false → (D.prt p).hold ≠ 1 → D.role p = 3 ∨ (D.get R.PAIR.COMMIT.STATE = 0 ∧ D.skid.cplWait = []) →
        Gives (.capabilityExchange p rec) s (fun d => rec2 (d.xl p) ∧ (d.xl p).next = 0 ∧ (d.xl p).exp = 0 ∧ (d.xl p).expHalf = 0 ∧ (d.xl p).unack = [] ∧ (d.xl p).inst.isSome = true ∧
          (X.seen.isSome = true → d.has (.xep st) 1 ∧ (D.role p = 4 → d.has .pair 6)) ∧ (X.inst.isSome = true → d.out = D.out ++ [sent]) ∧
          Keeps (oneOf (R.ST.XSTS.PU st :: (Sts.xep st).fields 1 ++ Sts.pair.fields 6)) [.xep, .out, .freeCtr] D d))) ∧
    (D.isXep p = true → D.isUp p = true → (D.prt p).recov = false → X.wait = [] → ∀ (bytes : List Nat) (bank : Fin 64),
      let acked := fun (h : FHdr) (x : XepRt) => if X.unack.any (fun f => f.seq == h.ack) then { x with unack := ackThrough h.ack X.unack, tries := 0 } else x
      let took := fun (h : FHdr) (x : XepRt) (r : RxStream) => if h.ftype = 2 then { x with rspIn := r } else { x with reqIn := r }
      let walk := fun (h : FHdr) (l : List Nat) => rxWalk (h.ftype == 2) (D.role p == 4) (slotsOf l) (if h.ftype = 2 then X.rspIn else X.reqIn) D.buf.nextArr
      let bad := fun (c : Instr) (x : XepRt) => Gives c s (fun d => d.get (R.PU.CRCCNT.CNT p) = min (D.get (R.PU.CRCCNT.CNT p) + 1) 65535 ∧ d.xl p = { x with nak := true } ∧ d.out = D.out ++ nakOut ∧
        Keeps (oneOf (R.PU.CRCCNT.CNT p :: (Sts.pu p).fields 7)) [.xep, .out, .ctrvals] D d)
      let missed := fun (c : Instr) (x : XepRt) (F : List Fld) (P : Dev → Prop) => Gives c s (fun d => d.xl p = { x with nak := true } ∧ d.out = D.out ++ nakOut ∧ P d ∧ Keeps (oneOf F) [.xep, .out] D d)
      (let c0 : Instr := .frameHalfReceive p ⟨0, bytes, bank⟩
       let h := frameHdr bytes
       let x := { X with half0 := some bytes, ok0 := true }
       let free := { D.buf with opens := Tbl.erase D.buf.opens p.val }
       (check0 bytes = .bad → (D.xcompat p = true → bad c0 { x with ok0 := false }) ∧ (D.xcompat p = false → Gives c0 s (fun d => link d { x with ok0 := false }))) ∧
       (check0 bytes = .good → D.xcompat p = true → advance256 h.crReq X.tReq > X.uReq ∨ advance256 h.crRsp X.tRsp > X.uRsp ∨ advance256 h.crShr X.tShr > X.uShr →
          Gives c0 s (fun d => d.has (.xep st) 4 ∧ (d.prt p).recov = true ∧ ⟨.xep p, .linkRetrain, [p.val]⟩ ∈ d.out)) ∧
       (check0 bytes = .good → D.xcompat p = false → h.nak = false →
          (h.ftype = 0 ∨ h.ftype = 3 → Gives c0 s (fun d => link d (acked h x))) ∧
          (4 ≤ h.ftype → bad c0 (acked h x)) ∧
          (h.ftype = 1 ∨ h.ftype = 2 →
            (h.seq ≠ X.exp → missed c0 (acked h x) [R.ST.XCNT.DUP_CNT st] (fun d => d.get (R.ST.XCNT.DUP_CNT st) = min (D.get (R.ST.XCNT.DUP_CNT st) + 1) (2 ^ (R.ST.XCNT.DUP_CNT st).w - 1))) ∧
            (h.seq = X.exp → X.expHalf = 0 →
              (walk h (bytes.drop 8) = none → bad c0 (acked h x)) ∧
              (∀ r n, walk h (bytes.drop 8) = some ([], r, n) → Gives c0 s (fun d => d.xl p = took h { acked h x with nak := false, expHalf := 1 } r ∧ d.buf = free ∧ Keeps (oneOf []) [.xep, .buf] D d)) ∧
              (∀ t ts r n, walk h (bytes.drop 8) = some (t :: ts, r, n) →
                (free.cellFor p 2 bank = none → Gives c0 s (fun d => d.has (.buf (cpOf p)) 2 ∧ d.xl p = acked h x ∧ d.buf = D.buf)) ∧
                (∀ cell b, free.cellFor p 2 bank = some (cell, b) → (∀ u ∈ t :: ts, D.buf.nextArr ≤ u.arr) → (∀ m ∈ D.buf.msgs, m.arr < D.buf.nextArr ∧ m.id < D.buf.nextId) →
                  Gives c0 s (fun d => d.xl p = took h { acked h x with nak := false, expHalf := 1 } r ∧ d.buf.nextArr = n ∧
                    (∀ u ∈ t :: ts, u.place = 0 → ∃ m ∈ d.buf.msgs, m.arr = u.arr ∧ m.pu = p ∧ m.stage = 3 ∧ cell ∈ m.cells ∧ m.args.head? = some u.bits) ∧
                    Keeps (oneOf []) [.xep, .buf, .ctrvals, .port] D d))))))) ∧
      (let c1 : Instr := .frameHalfReceive p ⟨1, bytes, bank⟩
       let x := { X with half0 := none, ok0 := false }
       (X.half0 = none → Gives c1 s (fun d => link d x)) ∧
       (∀ a, X.half0 = some a →
          let h := frameHdr a
          let c := check1 a bytes
          (X.ok0 = false → (D.xcompat p = true → Gives c1 s (fun d => link d x)) ∧ (D.xcompat p = false → check0 (fecFix a bytes).1 = .bad → bad c1 x)) ∧
          (X.ok0 = true →
            (c = .bad → D.xcompat p = true ∨ check1 (fecFix a bytes).1 (fecFix a bytes).2 = .bad → bad c1 x) ∧
            (c ≠ .bad → h.ftype = 0 ∨ 3 ≤ h.ftype → Gives c1 s (fun d => link d x)) ∧
            (c = .good → h.ftype = 1 ∨ h.ftype = 2 → h.seq ≠ X.exp → missed c1 x [] (fun _ => True)) ∧
            (c = .stomped → h.ftype = 1 ∨ h.ftype = 2 → h.seq ≠ X.exp → Gives c1 s (fun d => link d x)) ∧
            (c ≠ .bad → h.ftype = 1 ∨ h.ftype = 2 → h.seq = X.exp → X.expHalf = 1 →
              (walk h bytes = none → bad c1 x) ∧
              (∀ r n, walk h bytes = some ([], r, n) → Gives c1 s (fun d =>
                d.xl p = took h (let y := { x with nak := false, exp := (X.exp + 1) % 4096, expHalf := 0 };
                  if D.xcompat p then (if h.shr then { y with gShr := (X.gShr + 1) % 256 } else if h.ftype = 2 then { y with gRsp := (X.gRsp + 1) % 256 } else { y with gReq := (X.gReq + 1) % 256 }) else y) r ∧
                (c = .good → Keeps (oneOf []) [.xep] D d) ∧
                (c = .stomped → d.has (.xep st) 3 ∧ d.get (R.ST.XCNT.STOMP_CNT st) = min (D.get (R.ST.XCNT.STOMP_CNT st) + 1) (2 ^ (R.ST.XCNT.STOMP_CNT st).w - 1) ∧
                  Keeps (oneOf (R.ST.XCNT.STOMP_CNT st :: R.ST.XSTS.PU st :: (Sts.xep st).fields 3)) [.xep] D d)))))))) ∧
    (D.isXep p = true → D.isUp p = true →
      (X.unack = [] → Gives (.replayTimeout p) s (fun d => link d { X with nak := false })) ∧
      (∀ f r, X.unack = f :: r →
        (X.tries < max 1 X.rplyMax → Gives (.replayTimeout p) s (fun d => d.xl p = { X with nak := false, tries := X.tries + 1 } ∧ d.out = D.out ++ X.unack.map (fun g => ⟨D.xchan p, .frame, D.frameOf p g⟩) ∧
          d.get (R.PU.RPLYCNT.CNT p) = min (D.get (R.PU.RPLYCNT.CNT p) + 1) (2 ^ (R.PU.RPLYCNT.CNT p).w - 1) ∧ Keeps (oneOf (R.PU.RPLYCNT.CNT p :: (Sts.pu p).fields 6)) [.xep, .out, .ctrvals] D d)) ∧
        (max 1 X.rplyMax ≤ X.tries → Gives (.replayTimeout p) s (fun d => (d.prt p).recov = true ∧ d.has (.xep st) 2 ∧ d.out = D.out ++ [⟨.xep p, .linkRetrain, [p.val]⟩])))) ∧
    (D.isXep p = true → D.isUp p = true → D.role p = 3 → ∀ m : XMsg, 1 ≤ m.op → m.op ≤ 0x11 → m.op ≠ 0x0F → D.xArrival p m = none → D.buf.room (cellsFor (D.xMsg p m).bytes) = true →
      let x := D.ext (m.addr / 2 ^ 30)
      let slice := m.sliceOf.getD 0
      let out := D.memPort slice m.addr
      let quiet := ∀ c, c < 4 → D.is (R.LD.LCTL.EN c) = false
      let refused := fun (d : Dev) (n : Nat) => d.queued (D.linkFor p slice m.addr) (fun q => q.op = .xRsp ∧ q.tag = m.tag ∧ ∃ h, q.x = some h ∧ h.status = n ∧ h.odev = m.odev ∧ h.oq = m.oq ∧ h.oidx = m.oidx)
      let onward := fun (P : Msg → Prop) => Gives (.xepinReq p m) s (fun d => d.queued out (fun q => P q ∧ q.tag = m.tag ∧ q.src = D.xSrc p m ∧ q.cls = xClass m.cls) ∧ (quiet → Keeps (oneOf []) [.buf, .ctrvals] D d))
      (D.lost (D.linkFor p slice m.addr) = false →
        (D.saving = true → (xKind m.op).asksData = true → Gives (.xepinReq p m) s (fun d => refused d 2 ∧ Keeps (oneOf []) [.buf, .ctrvals] D d)) ∧
        (D.saving = false → x.valid = false ∨ (D.role x.port = 3 ∧ 2 ≤ m.hops) → Gives (.xepinReq p m) s (fun d => (m.op ≠ 0x11 → refused d 1) ∧ d.has (.xep st) 5))) ∧
      (D.saving = false → x.valid = true → D.lost out = false →
        (D.role x.port = 3 → m.hops < 2 → onward (fun q => q.op = .xReq ∧ q.x = some { m with hops := m.hops + 1 })) ∧
        (D.role x.port = 2 → D.winOf (m.addr / 2 ^ 30) = none →
          (m.op ≤ 3 → onward (fun q => q.op = .memRd ∧ q.addr = D.dpa m.addr)) ∧
          (5 ≤ m.op → m.op ≤ 7 → onward (fun q => q.op = .memWr ∧ q.poison = m.poison ∧ q.args = [D.dpa m.addr, m.data, m.be])) ∧
          (8 ≤ m.op → m.op ≤ 0x0E → x.atomOk = true → onward (fun q => q.op = .atomicOp ∧ q.args = [D.dpa m.addr, (xAtom m.op m.data).1.width, (xAtom m.op m.data).2.1, (xAtom m.op m.data).2.2])) ∧
          (m.op = 0x10 ∨ m.op = 0x11 → onward (fun q => q.op = .ioReq ∧ q.addr = D.dpa m.addr))))) ∧
    (D.isXep p = true → D.isUp p = true → D.role p = 3 → ∀ m : XMsg, 0x80 ≤ m.op → m.op ≤ 0x85 → D.xArrival p m = none → D.buf.room (cellsFor (16 + 64 * xLines m.op m.status m.len)) = true →
      ((∀ o ∈ (D.prt p).outs, o.idx ≠ m.tag % 4096) ∨ m.tag / 4096 % 16 ≠ D.get (R.PU.EPOCH.EPOCH p) % 16 →
        Gives (.xepinRsp p m) s (fun d => d.get (R.PU.EPOCH.LATE_CNT p) = min (D.get (R.PU.EPOCH.LATE_CNT p) + 1) 1023 ∧ d.has (.buf (cpOf p)) 5 ∧ d.port = D.port ∧ d.buf = D.buf)) ∧
      (∀ o l, (D.prt p).outs = o :: l → o.idx = m.tag % 4096 → m.tag / 4096 % 16 = D.get (R.PU.EPOCH.EPOCH p) % 16 → o.msg.kind = .memWrite → o.msg.home = true → o.msg.slice = none → m.status = 0 →
        Gives (.xepinRsp p m) s (fun d => (d.prt p).outs = l.filter (fun y => y.idx != o.idx)))) ∧
    (D.isXep p = true → D.isUp p = true → D.xcompat p = false → D.role p = 3 → ∀ m : XMsg, ∀ delta : Int, ∀ n : Nat, D.xArrival p (mapMsg m delta n) = none → D.buf.room 1 = true →
      let e := m.addr / 2 ^ 30
      let x := D.ext e
      let last := Tbl.get D.xgrp.applied 0 m.odev
      let back := D.linkFor p (m.sliceOf.getD 0) m.addr
      let answer := fun (d : Dev) (k : Nat) => d.queued back (fun q => q.op = .xRsp ∧ q.tag = m.tag ∧ ∃ h, q.x = some h ∧ h.op = 0x80 ∧ h.status = k ∧ h.odev = m.odev ∧ h.oq = m.oq ∧ h.oidx = m.oidx)
      (D.lost back = false →
        (x.valid = false ∨ (D.role x.port = 3 ∧ 2 ≤ m.hops) → Gives (.mapref p m delta n) s (fun d => answer d 1 ∧ d.has (.xep st) 5 ∧ d.extents = D.extents)) ∧
        (x.valid = true → D.role x.port = 2 →
          (delta = 0 → D.prs.img = none → Gives (.mapref p m delta n) s (fun d => answer d 0 ∧ Keeps (oneOf []) [.buf, .ctrvals] D d)) ∧
          (delta ≠ 0 →
            (n ≤ last → Gives (.mapref p m delta n) s (fun d => answer d 0 ∧ Keeps (oneOf []) [.buf, .ctrvals] D d)) ∧
            (last + 1 < n → Gives (.mapref p m delta n) s (fun d => Keeps (oneOf []) [] D d)) ∧
            (n = last + 1 → x.st = 1 → 0 < (x.mapcnt : Int) + delta → Gives (.mapref p m delta n) s (fun d => answer d 0 ∧ Tbl.get d.xgrp.applied 0 m.odev = n ∧ d.ext e = { x with mapcnt := addDelta x.mapcnt delta } ∧
              Keeps (oneOf []) [.buf, .ctrvals, .extents, .xgrp] D d)) ∧
            (n = last + 1 → x.st = 0 → 0 < (x.mapcnt : Int) + delta → Gives (.mapref p m delta n) s (fun d => answer d 0 ∧ (d.ext e).st = 1 ∧ (d.ext e).mapcnt = addDelta x.mapcnt delta ∧ D.changedOnce d)) ∧
            (n = last + 1 → x.st = 1 → (x.mapcnt : Int) + delta = 0 → Gives (.mapref p m delta n) s (fun d => answer d 0 ∧ d.ext e = { x with mapcnt := 0, st := 2 } ∧ e ∈ d.skid.scrubs ∧ D.changedOnce d))))) ∧
      (x.valid = true → D.role x.port = 3 → m.hops < 2 → D.lost (D.memPort 0 m.addr) = false →
        Gives (.mapref p m delta n) s (fun d => d.queued (D.memPort 0 m.addr) (fun q => q.op = .xReq ∧ q.kind = .mapref ∧ q.x = some { mapMsg m delta n with hops := m.hops + 1 }) ∧
          ((∀ c, c < 4 → D.is (R.LD.LCTL.EN c) = false) → Keeps (oneOf []) [.buf, .ctrvals] D d)))) ∧
    (∀ m r n, D.commit.maps = m :: r → m.mseq = some n →
      (m.cmd = false → Gives .maprefTimeout s (fun d => Keeps (oneOf []) [] D d)) ∧
      (∀ k c, m.cmd = true → D.commit.mapCmd = some (k, c) → D.committing = false → Gives .maprefTimeout s (fun d => d.commit.mapCmd = none ∧ d.completed k c conflictNone ∧
        (∃ y ∈ d.commit.maps, y.ext = m.ext ∧ y.mseq = some n) ∧ (∃ y ∈ d.commit.maps, y.ext = m.ext ∧ y.delta = 2 ∧ y.cmd = false) ∧ d.slices = D.slices))) ∧
    (∀ (g : Fin 8) (b : Fin 64) q t, Tbl.get D.xgrp.buckets none (64 * g + b) = some q → (D.groupMembers g)[b.val % (D.groupMembers g).length]? = some t → q ≠ t →
      (D.xgrp.rebal = true → D.bucketIdle g b q = true → Gives (.bucketRebalance g b) s (fun d => Tbl.get d.xgrp.buckets none (64 * g + b) = some t ∧ d.out = D.out ++ [⟨.xep t, .bucketMove, [g, b, q, t]⟩] ∧ Keeps (oneOf []) [.xgrp, .out] D d)) ∧
      (D.xgrp.rebal = false ∨ D.bucketIdle g b q = false → Gives (.bucketRebalance g b) s (fun d => Keeps (oneOf []) [] D d)))

/-- R265 to R268, R272. That SYNC acts only on the parent's port with BYP in use and a known delay is the model's reading of R265 to R267. -/
def Obligations.FabricTime : Prop :=
  ∀ s : State, s.live →
    let D := s.dev
    let F := D.ftr
    let byp := fun (p kind depth id ta tb : Nat) => (⟨D.xchan p, .frame, D.bypFrame p (timeBytes kind depth id ta tb)⟩ : Emit)
    let timeRegs := [R.TOP.FTOFS.VALUE, R.TOP.FTADJ.VALUE, R.TOP.FTSTS.LOCKED, R.TOP.FTSTS.STEP_CNT, R.TOP.FTSTS.DEPTH] ++ Sts.ft.fields 2
    let stepped := fun (d : Dev) (v : Nat) => d.time.ft = v % 2 ^ 64 ∧ d.has .ft 2 ∧ d.is R.TOP.FTSTS.LOCKED = false ∧ d.get R.TOP.FTSTS.STEP_CNT = min (D.get R.TOP.FTSTS.STEP_CNT + 1) 65535 ∧
      d.ftr.once = true ∧ d.ftr.integ = 0
    let acts := fun (d : Dev) (o per : Int) => d.get R.TOP.FTOFS.VALUE = sat32 o ∧ d.ftr.miss = 0 ∧ d.ftr.seen = true ∧ Keeps (oneOf timeRegs) [.time, .ftr] D d ∧
      (F.once = false ∨ 1000 ≤ o.natAbs → stepped d (signed 64 ((D.ft : Int) - o))) ∧
      (F.once = true → o.natAbs < 1000 → d.time = D.time ∧ d.ftr.integ = s64 (F.integ + o) ∧ d.get R.TOP.FTADJ.VALUE = signed 32 (servoAdj o (s64 (F.integ + o)) per) ∧
        d.ftr.good = (if o.natAbs < 20 then F.good + 1 else 0) ∧ d.is R.TOP.FTSTS.LOCKED = (D.is R.TOP.FTSTS.LOCKED || (o.natAbs < 20 && 7 ≤ F.good)))
    let nothing := fun (c : Instr) => Gives c s (fun d => Keeps (oneOf []) [] D d)
    (∀ (p : Fin 64) (depth : Fin 16) ta trx,
      (D.parentPort ≠ some p.val ∨ D.bypUp p = false ∨ depth = 15 → nothing (.sync p depth ta trx)) ∧
      (D.parentPort = some p.val → D.bypUp p = true →
        (7 ≤ depth.val → depth.val < 15 → Gives (.sync p depth ta trx) s (fun d => d.get R.TOP.FTSTS.DEPTH = 15 ∧ d.is R.TOP.FTSTS.LOCKED = false ∧ d.has .ft 4 ∧
          Keeps (oneOf ([R.TOP.FTSTS.DEPTH, R.TOP.FTSTS.LOCKED] ++ Sts.ft.fields 4)) [] D d)) ∧
        (depth.val < 7 → F.delay = none → Gives (.sync p depth ta trx) s (fun d => d.get R.TOP.FTSTS.DEPTH = depth + 1 ∧ Keeps (oneOf [R.TOP.FTSTS.DEPTH]) [] D d)) ∧
        (∀ l, depth.val < 7 → F.delay = some l → Gives (.sync p depth ta trx) s (fun d => d.get R.TOP.FTSTS.DEPTH = depth + 1 ∧ acts d (s64 ((trx : Int) - (ta + l))) D.syncNs)))) ∧
    (∀ (p : Fin 64) id t4,
      (D.is R.TOP.FTCTL.SERVE = true → D.bypUp p = true → Gives (.dreq p id t4) s (fun d => d.out = D.out ++ [byp p 4 (D.get R.TOP.FTSTS.DEPTH) (id % 2 ^ 16) t4 D.ft] ∧ Keeps (oneOf []) [.out] D d)) ∧
      (D.is R.TOP.FTCTL.SERVE = false ∨ D.bypUp p = false → nothing (.dreq p id t4))) ∧
    (∀ (p : Fin 64) id t4 t5 t6,
      (∀ t3, F.t3 = some t3 → D.parentPort = some p.val → D.bypUp p = true → id % 2 ^ 16 = F.reqId →
        Gives (.drsp p id t4 t5 t6) s (fun d => d.ftr = { F with t3 := none, delay := some ((s64 (((t6 : Int) - t3) - ((t5 : Int) - t4))).tdiv 2) } ∧ Keeps (oneOf []) [.ftr] D d)) ∧
      (F.t3 = none ∨ D.parentPort ≠ some p.val ∨ D.bypUp p = false ∨ id % 2 ^ 16 ≠ F.reqId → nothing (.drsp p id t4 t5 t6))) ∧
    Gives .syncPeriod s (fun d =>
      let depth := if D.ftParent = 0 then 0 else D.get R.TOP.FTSTS.DEPTH
      d.get R.TOP.FTSTS.DEPTH = depth ∧ d.time = D.time ∧ (∃ l, d.out = D.out ++ l) ∧
      (D.is R.TOP.FTCTL.SERVE = true → ∀ p, p < 64 → D.bypUp p = true → byp p 2 depth 0 D.ft 0 ∈ d.out) ∧
      (∀ p, D.parentPort = some p → D.bypUp p = true → d.ftr.t3 = some D.ft ∧ d.ftr.reqId = (F.reqId + 1) % 2 ^ 16 ∧ byp p 3 (D.get R.TOP.FTSTS.DEPTH) d.ftr.reqId 0 0 ∈ d.out) ∧
      (D.ftParent = 3 → D.isHost (D.get R.TOP.FTCTL.PPORT) = true → D.isUp (D.get R.TOP.FTCTL.PPORT) = true → d.ftr.ptm = true ∧ ⟨.host (D.get R.TOP.FTCTL.PPORT), .ptmReq, [D.ft]⟩ ∈ d.out) ∧
      (D.ftParent = 1 ∨ D.ftParent = 3 → d.ftr.seen = false ∧ (F.seen = true → d.ftr.miss = F.miss ∧ d.is R.TOP.FTSTS.LOCKED = D.is R.TOP.FTSTS.LOCKED) ∧
        (F.seen = false → d.ftr.miss = min (F.miss + 1) 4) ∧ (F.seen = false → F.miss = 3 → d.has .ft 1 ∧ d.is R.TOP.FTSTS.LOCKED = false)) ∧
      Keeps (oneOf ([R.TOP.FTSTS.DEPTH, R.TOP.FTSTS.LOCKED] ++ Sts.ft.fields 1)) [.ftr, .out] D d) ∧
    (∀ master, (D.ftParent = 3 → F.ptm = true → Gives (.ptmResponse master) s (fun d => d.get R.TOP.FTSTS.DEPTH = 1 ∧ d.ftr.ptm = false ∧ acts d (s64 ((D.ft : Int) - master)) D.syncNs)) ∧
      (D.ftParent ≠ 3 ∨ F.ptm = false → nothing (.ptmResponse master))) ∧
    (D.ftParent = 2 →
      (∀ v, F.setTo = some v → Gives .tsyncInEdge s (fun d => stepped d v ∧ d.ftr.setTo = none ∧ d.ftr.miss = 0)) ∧
      (F.setTo = none → Gives .tsyncInEdge s (fun d => d.get R.TOP.FTSTS.DEPTH = 1 ∧ acts d (offSecond ((D.ft : Int) - D.get R.TOP.FTTSDLY.TSDLY)) 1000000000)) ∧
      Gives .tsyncMiss s (fun d => d.has .ft 3 ∧ d.ftr.miss = min (F.miss + 1) 4 ∧ (F.miss = 3 → d.has .ft 1 ∧ d.is R.TOP.FTSTS.LOCKED = false) ∧
        (F.miss ≠ 3 → Keeps (oneOf (Sts.ft.fields 3)) [.ftr] D d))) ∧
    (D.ftParent ≠ 2 → nothing .tsyncInEdge ∧ nothing .tsyncMiss) ∧
    (s.writable → ∀ w : Word,
      let v := D.get R.TOP.FTSETL.VALUE + 2 ^ 32 * w.toNat
      (D.ftParent = 0 → Gives (.fabricTimeSet w) s (fun d => d.get R.TOP.FTSETH.VALUE = w.toNat ∧ stepped d v)) ∧
      (D.ftParent = 2 → Gives (.fabricTimeSet w) s (fun d => d.get R.TOP.FTSETH.VALUE = w.toNat ∧ d.ftr = { F with setTo := some v } ∧ Keeps (oneOf [R.TOP.FTSETH.VALUE]) [.ftr] D d)) ∧
      (D.ftParent = 1 ∨ D.ftParent = 3 → Gives (.fabricTimeSet w) s (fun d => d.get R.TOP.FTSETH.VALUE = w.toNat ∧ Keeps (oneOf [R.TOP.FTSETH.VALUE]) [] D d))) ∧
    (D.is R.TOP.FTCTL.PPS_OUT = true → D.pins.tsyncOut = false → Gives .tsyncOutRise s (fun d => d.pins = { D.pins with tsyncOut := true } ∧ Keeps (oneOf []) [.pins, .out] D d)) ∧
    (D.is R.TOP.FTCTL.PPS_OUT = false ∨ D.pins.tsyncOut = true → nothing .tsyncOutRise) ∧
    (D.pins.tsyncOut = true → Gives .tsyncOutFall s (fun d => d.pins = { D.pins with tsyncOut := false } ∧ Keeps (oneOf []) [.pins, .out] D d)) ∧
    (D.pins.tsyncOut = false → nothing .tsyncOutFall)

/-- R351 to R363, R149. Rows of a device alone: in a pair a shared change goes through the commit engine. -/
def Obligations.Telemetry : Prop :=
  ∀ s : State, s.live →
    let D := s.dev
    let T := D.tally
    let nothing := fun (c : Instr) => Gives c s (fun d => Keeps (oneOf []) [] D d)
    (s.configurable → D.committing = false →
      (∀ (i : Fin 10272) (lo hi : Word),
        let x := lo.toNat + 2 ^ 32 * hi.toNat
        let e := unpackCtrSel x
        let ok := packCtrSel e = x ∧ e.event ∈ ctrCodes i ∧ (e.ovr = true → isOcc e.event = true)
        (ok → Gives (.counterSelect i lo hi) s (fun d => Tbl.get d.ctrsels {} i = e ∧ Tbl.get d.ctrvals 0 i = 0 ∧
          (∀ j, j ≠ i.val → Tbl.get d.ctrsels {} j = Tbl.get D.ctrsels {} j ∧ Tbl.get d.ctrvals 0 j = Tbl.get D.ctrvals 0 j) ∧ (d.ctrsels ≠ D.ctrsels → D.changedOnce d) ∧
          Keeps (oneOf [R.PRS.CFGSEQ_L.VALUE, R.PRS.CFGSEQ_H.VALUE, R.PRS.JRNSTS.PEND]) [.ctrsels, .ctrvals, .prs] D d)) ∧
        (¬ok → Gives (.counterSelect i lo hi) s (fun d => d.has .tly 3 ∧ d.is R.TLY.CTRERR.VALID = true ∧ (D.is R.TLY.CTRERR.VALID = false → d.get R.TLY.CTRERR.NUMBER = i) ∧
          Keeps (oneOf ([R.TLY.CTRERR.NUMBER, R.TLY.CTRERR.VALID] ++ Sts.tly.fields 3)) [] D d))) ∧
      (D.is R.TLY.CTL.SNAP_EN = false → Gives .snapshotEnable s (fun d => d.is R.TLY.CTL.SNAP_EN = true ∧ d.get R.TLY.SNAPIDX.PI = 0 ∧ d.tally = { T with phase := true } ∧ D.changedOnce d)) ∧
      (D.is R.TLY.CTL.SNAP_EN = true → nothing .snapshotEnable) ∧
      (∀ c : Fin 4,
        let dest := D.is (R.LD.LCTL.DEST c)
        let sl := D.sl (D.get (R.LD.LSLICE.SLICE c))
        (D.is (R.LD.LCTL.EN c) = false →
          (dest = false ∨ (sl.st = 1 ∧ sl.pasidEn = true) → Gives (.landingEnable c) s (fun d => d.is (R.LD.LCTL.EN c) = true ∧ d.get (R.LD.LIDX.PI c) = 0 ∧ (d.land c).matched = 0 ∧ (d.land c).phase = true ∧
            (d.land c).fifo = (D.land c).fifo ∧ D.changedOnce d)) ∧
          (dest = true → sl.st ≠ 1 ∨ sl.pasidEn = false → Gives (.landingEnable c) s (fun d => d.has .tly 3 ∧ Keeps (oneOf (Sts.tly.fields 3)) [] D d)) ∧
          nothing (.landingDisable c)) ∧
        (D.is (R.LD.LCTL.EN c) = true → nothing (.landingEnable c) ∧
          Gives (.landingDisable c) s (fun d => d.is (R.LD.LCTL.EN c) = false ∧ d.is (R.LD.LCTL.BUSY c) = !(D.land c).fifo.isEmpty ∧ d.tally = T ∧ D.changedOnce d)))) ∧
    (D.is R.TLY.CTL.SNAP_EN = false ∨ D.saving = true → nothing .snapshotBoundary) ∧
    (D.is R.TLY.CTL.SNAP_EN = true → D.saving = false →
      let seq := (D.get R.TLY.SNAPSEQ.VALUE + 1) % 2 ^ R.TLY.SNAPSEQ.VALUE.w
      (T.snap = none → T.dumps = [] → Gives .snapshotBoundary s (fun d => d.get R.TLY.SNAPSEQ.VALUE = seq ∧ d.tally.dumps = d.dumpsDue ∧
        d.tally.snap = (if D.get R.TLY.SNAPCTL.GROUPS = 0 then none else
          some ⟨seq, D.ft, D.get R.TLY.SNAPCTL.GROUPS, (groupCtrs (D.get R.TLY.SNAPCTL.GROUPS)).map (fun i => Tbl.get D.ctrvals 0 i)⟩) ∧ Keeps (oneOf [R.TLY.SNAPSEQ.VALUE]) [.tally] D d)) ∧
      (T.snap.isSome = true ∨ T.dumps ≠ [] → Gives .snapshotBoundary s (fun d => d.get R.TLY.SNAPSEQ.VALUE = seq ∧ d.tally.snap = T.snap ∧ d.tally.dumps = T.dumps ∧ d.has .tly 0 ∧
        d.get R.TLY.SNAPLOST.SKIPPED = min (D.get R.TLY.SNAPLOST.SKIPPED + 1) (2 ^ R.TLY.SNAPLOST.SKIPPED.w - 1)))) ∧
    (∀ ok, T.snap = none → T.dumps = [] → nothing (.snapshotRecordWrite ok)) ∧
    (D.saving = false → D.settled → ∀ ok,
      (∀ sn, T.snap = some sn → T.dumps = [] →
        let size := 2 ^ D.get R.TLY.SNAPCTL.SIZE
        let pi := D.get R.TLY.SNAPIDX.PI
        let len := 64 + 8 * sn.values.length
        let base := D.get64 R.TLY.SNAPBL.VALUE R.TLY.SNAPBH.VALUE + pi * len
        let ring := Chan.prinMem (D.get R.TLY.SNAPCTL.PRIN)
        (pi + 1) % size ≠ D.get R.TLY.SNAPIDX.CI % size →
          Gives (.snapshotRecordWrite ok) s (fun d => d.tally.snap = none ∧ d.get R.TLY.SNAPIDX.PI = (pi + 1) % size % 2 ^ R.TLY.SNAPIDX.PI.w ∧ (ok = false → d.has .tly 2) ∧
            d.out = D.out ++ [⟨ring, .snapRec, (base + 64) :: sn.values.flatMap (fun v => leBytes v 8)⟩,
              ⟨ring, .snapRec, base :: leBytes (packSnapHdr T.phase sn.groups D.pins.devId ((len + 63) / 64) sn.seq sn.time T.skipped T.dropped) 64⟩] ∧
            d.tally.skipped = 0 ∧ d.tally.dropped = 0 ∧ d.tally.phase = (if (pi + 1) % size = 0 then !T.phase else T.phase))) ∧
      (∀ sn, T.snap = some sn → T.dumps = [] → (D.get R.TLY.SNAPIDX.PI + 1) % 2 ^ D.get R.TLY.SNAPCTL.SIZE = D.get R.TLY.SNAPIDX.CI % 2 ^ D.get R.TLY.SNAPCTL.SIZE →
        Gives (.snapshotRecordWrite ok) s (fun d => d.tally.snap = none ∧ d.get R.TLY.SNAPIDX.PI = D.get R.TLY.SNAPIDX.PI ∧ d.out = D.out ∧ d.has .tly 0 ∧
          d.get R.TLY.SNAPLOST.DROPPED = min (D.get R.TLY.SNAPLOST.DROPPED + 1) (2 ^ R.TLY.SNAPLOST.DROPPED.w - 1))) ∧
      (∀ u, T.snap = none → T.dumps = [u] →
        let x := D.sl u.slice
        let block := fun (d : Dev) (off n : Nat) => d.queued x.port (fun q => q.op = .dumpBlock ∧ q.cls = .sc3 ∧ q.slice = some u.slice ∧ q.gen = u.gen ∧ q.args = (u.addr + off) :: D.pasidOf u.slice :: leBytes (bits (packDump u) (8 * off) (8 * n)) n)
        (x.gen = u.gen → x.st ≠ 0 → x.dlogEn = false → D.lost x.port = false → Gives (.snapshotRecordWrite true) s (fun d => d.tally = { T with dumps := [] } ∧ block d 0 192 ∧ block d 192 64 ∧
          Keeps (oneOf []) [.tally, .buf, .ctrvals] D d)) ∧
        (x.gen ≠ u.gen ∨ x.st = 0 → Gives (.snapshotRecordWrite true) s (fun d => d.tally = { T with dumps := [] } ∧ d.out = D.out ∧ (d.sl u.slice).gdisc = min (x.gdisc + 1) 0xFFFF)))) ∧
    (D.is R.TLY.SAMPCTL.EN = false ∨ D.saving = true → nothing .samplerVisit) ∧
    (D.is R.TLY.SAMPCTL.EN = true → D.saving = false → ∀ (p : Fin 64) (sl : Fin 512) (k : Fin 4), T.visit = 2048 * p.val + 4 * sl.val + k.val → (D.prt p).ex = true →
      let ms := D.queueOf p (some sl) k
      let head := fun (m : Msg) => min (2 ^ 24 - 1) ((D.time.cclk - m.since) / 32)
      let us := D.get (R.CP.SCHCTL.STARVE_US (cpOf p))
      Gives .samplerVisit s (fun d => d.tally.visit = (T.visit + 1) % 131072 ∧
        (∃ e, Tbl.get d.qsamps {} T.visit = e ∧ e.msgs = min 0xFFFF ms.length ∧ e.cells = (ms.foldl (fun n m => n + m.chg) 0) % 2 ^ 18 ∧ e.hdelay = ms.head?.elim 0 head) ∧
        (∀ m r, ms = m :: r → us ≠ 0 → us * 1000 < head m * 16 → d.has (.sch (cpOf p)) 1 ∧ (D.is (R.CP.STARVEQ.VALID (cpOf p)) = false →
          d.get (R.CP.STARVEQ.PORT (cpOf p)) = p ∧ d.get (R.CP.STARVEQ.SLICE (cpOf p)) = sl ∧ d.get (R.CP.STARVEQ.CLASS (cpOf p)) = k)) ∧
        (us = 0 → T.visit ≠ 131071 → Keeps (oneOf []) [.qsamps, .tally] D d))) ∧
    (∀ (c : Fin 4) ok, (D.land c).fifo = [] → nothing (.landingRecordWrite c ok)) ∧
    (D.saving = false → D.settled → ∀ (c : Fin 4) x r, (D.land c).fifo = x :: r → ∀ ok,
      let size := 2 ^ D.get (R.LD.LCTL.SIZE c)
      let pi := D.get (R.LD.LIDX.PI c)
      let sl := D.get (R.LD.LSLICE.SLICE c)
      let base := D.get64 (R.LD.LBASEL.VALUE c) (R.LD.LBASEH.VALUE c) + 128 * pi
      let rec_ := leBytes (packLandRec (D.land c).phase (D.land c).dropped x) 128
      let left := fun (d : Dev) => (d.land c).fifo = r ∧ (D.is (R.LD.LCTL.EN c) = false → d.is (R.LD.LCTL.BUSY c) = !r.isEmpty)
      (D.is (R.LD.LCTL.DEST c) = false →
        ((pi + 1) % size ≠ D.get (R.LD.LIDX.CI c) % size → Gives (.landingRecordWrite c ok) s (fun d => left d ∧ d.get (R.LD.LIDX.PI c) = (pi + 1) % size % 2 ^ (R.LD.LIDX.PI c).w ∧ (ok = false → d.has .tly 2) ∧
          (d.land c).dropped = 0 ∧ d.out = D.out ++ [⟨.prinMem (D.get (R.LD.LCTL.PRIN c)), .landRec, base :: rec_⟩])) ∧
        ((pi + 1) % size = D.get (R.LD.LIDX.CI c) % size → Gives (.landingRecordWrite c ok) s (fun d => left d ∧ d.get (R.LD.LIDX.PI c) = pi ∧ d.out = D.out ∧ d.has .tly 1 ∧
          d.get (R.LD.LDROP.FULL c) = min (D.get (R.LD.LDROP.FULL c) + 1) (2 ^ (R.LD.LDROP.FULL c).w - 1)))) ∧
      (D.is (R.LD.LCTL.DEST c) = true → (D.sl sl).gen ≠ x.gen → Gives (.landingRecordWrite c ok) s (fun d => left d ∧ d.out = D.out ∧ d.get (R.LD.LIDX.PI c) = pi ∧ (d.sl sl).gdisc = min ((D.sl sl).gdisc + 1) 0xFFFF)) ∧
      (D.is (R.LD.LCTL.DEST c) = true → (D.sl sl).gen = x.gen → (D.sl sl).dlogEn = false → D.lost (D.sl sl).port = false → (pi + 1) % size ≠ D.get (R.LD.LIDX.CI c) % size →
        Gives (.landingRecordWrite c ok) s (fun d => left d ∧ d.get (R.LD.LIDX.PI c) = (pi + 1) % size % 2 ^ (R.LD.LIDX.PI c).w ∧ d.out = D.out ∧
          d.queued (D.sl sl).port (fun q => q.op = .landRec ∧ q.cls = .sc3 ∧ q.slice = some sl ∧ q.args = base :: D.pasidOf sl :: rec_))))

/-- R286 to R296, R222. -/
def Obligations.PairStates : Prop :=
  ∀ s : State, s.live → s.dev.settled →
    let D := s.dev
    let P := D.pair
    let nothing := fun (c : Instr) => Gives c s (fun d => Keeps (oneOf []) [] D d)
    let fence := D.is R.PAIR.CTL.FENCE_EN
    let second := D.is R.PAIR.STATE.ROLE
    let hbCnt := D.get64 R.PAIR.HBCNT_L.VALUE R.PAIR.HBCNT_H.VALUE
    let quiet := D.buf.msgs = [] ∧ (∀ ds, ds < 16 → (D.dir ds).ac = [] ∧ (D.dir ds).ents = [] ∧ (D.dir ds).trks = []) ∧ (∀ k, k < 64 → (D.prt k).outs = [] ∧ (D.xl k).unack = []) ∧
      (∀ k, k < 64 → (D.xl k).wait = []) ∧ D.skid.stored = [] ∧ (∀ x ∈ D.queues, x.2.st ≠ 1 ∧ x.2.st ≠ 2)
    let fx := D.get R.PAIR.FENCE_EXT.EXT
    let ofs := D.get R.PAIR.FENCE_OFS.OFS
    let wrote := fun (d : Dev) (cnt yield take : Nat) => fence = true → ⟨D.fenceChan D.fenceExt.port, .fenceWrite, [fx, ofs + 16 * D.get R.PAIR.STATE.ROLE, cnt, yield, take]⟩ ∈ d.out
    let reads : Emit := ⟨D.fenceChan D.fenceExt.port, .fenceRead, [fx, ofs, D.fenceExt.port]⟩
    let open_ := fun (m : Nat) => D.linkOpen m = true ∧ (D.xl m).wait = [] ∧ (D.xl m).unack.length < 4095 ∧ D.xcompat m = false
    let beat := hbBytes D.pst second ((hbCnt + 1) % 2 ^ 64) D.cfgSeq
    let takes := fun (c : Instr) => Gives c s (fun d => d.pst = 5 ∧ d.is R.PAIR.STATE.ROLE = false ∧ d.pair.solo = true ∧ d.pair.stage = 2 ∧ d.recalling rclTake = true ∧
      (∀ x ∈ d.cwins, x.2.en = true → x.2.home ≠ second → x.2.rebuild = true) ∧ (D.get R.TOP.DSTATE.MODE = 1 → d.get R.TOP.DSTATE.MODE = 3) ∧ wrote d hbCnt 0 1)
    let yields := fun (c : Instr) => Gives c s (fun d => d.pst = 6 ∧ d.has .pair 2 ∧ d.pair.wait = false ∧ (∀ k, k < 64 → (D.prt k).ex = true → D.role k ≠ 4 → d.linkSt k = 0 ∧ (d.prt k).held = true) ∧ wrote d hbCnt 1 0)
    (∀ ok,
      (D.beats = false → nothing (.hbPeriod ok)) ∧
      (D.beats = true → P.miss < 7 ∨ P.got = true ∨ (D.pst ≠ 2 ∧ D.pst ≠ 3) → Gives (.hbPeriod ok) s (fun d => d.get64 R.PAIR.HBCNT_L.VALUE R.PAIR.HBCNT_H.VALUE = (hbCnt + 1) % 2 ^ 64 ∧ d.pst = D.pst ∧
        d.pair = { P with miss := if P.got then 0 else P.miss + 1, got := false } ∧ (D.pst ≠ 6 → wrote d ((hbCnt + 1) % 2 ^ 64) 0 (if D.pst = 5 then 1 else 0)) ∧
        (∀ m, D.mirrorPort = some m → D.mirrorUp = true → (D.mirrorByp = true → ⟨D.xchan m, .frame, D.bypFrame m beat⟩ ∈ d.out) ∧
          (D.mirrorByp = false → open_ m → ⟨D.xchan m, .frame, D.frameOf m { seq := (D.xl m).next, slots := mirSlots { mtype := 7, mid := D.commit.next, seq := D.cfgSeq } beat }⟩ ∈ d.out)) ∧
        (fence = true → D.pst ≠ 6 → ok = false → d.has .pair 3) ∧ Keeps (oneOf ([R.PAIR.HBCNT_L.VALUE, R.PAIR.HBCNT_H.VALUE, R.PAIR.MIRTX.VALUE] ++ Sts.pair.fields 3)) [.pair, .out, .xep] D d)) ∧
      (P.miss = 7 → P.got = false → D.get R.PAIR.COMMIT.STATE = 0 → D.buf.msgs = [] →
        (D.pst = 3 → fence = true → D.skid.cplWait = [] → Gives (.hbPeriod ok) s (fun d => d.pst = 4 ∧ d.has .pair 0 ∧ d.get64 R.PAIR.LOSSTIME_L.VALUE R.PAIR.LOSSTIME_H.VALUE = D.ft ∧ d.pair.read = true ∧ d.pair.t0 = D.time.cclk ∧ reads ∈ d.out ∧
          (∀ m, D.mirrorPort = some m → d.linkSt m = 0 ∧ (d.prt m).held = true))) ∧
        (D.pst = 2 → Gives (.hbPeriod ok) s (fun d => d.pst = P.left % 8 ∧ d.has .pair 0 ∧ d.is R.PAIR.SYNCSTS.SOURCE = false ∧ d.is R.PAIR.SYNCSTS.JOINER = false ∧ d.is R.PAIR.SYNCSTS.HANDBACK = false)))) ∧
    (∀ m : HbMsg,
      (D.mirrorUp = false ∨ D.beats = false → nothing (.hb m)) ∧
      (D.mirrorUp = true →
        (D.pst = 3 → Gives (.hb m) s (fun d => d.pst = 3 ∧ d.get64 R.PAIR.PHBCNT_L.VALUE R.PAIR.PHBCNT_H.VALUE = m.cnt % 2 ^ 64 ∧ d.pair.got = true ∧ d.pair.hbAt = D.time.cclk ∧
          (m.role = second → d.has .pair 5 ∧ d.is R.PAIR.STATE.ROLE = hasBit D.pins.devId 0) ∧ (m.role ≠ second → d.is R.PAIR.STATE.ROLE = second) ∧
          Keeps (oneOf ([R.PAIR.PHBCNT_L.VALUE, R.PAIR.PHBCNT_H.VALUE, R.PAIR.MIRRX.VALUE, R.PAIR.STATE.ROLE] ++ Sts.pair.fields 5)) [.pair, .buf] D d ∧ d.buf = D.rxByp.buf)) ∧
        (D.pst = 1 → P.hbN = 0 → m.pstate = 1 → Gives (.hb m) s (fun d => d.pst = 1 ∧ d.pair.hbN = 1 ∧ d.pair.got = true)) ∧
        (D.pst = 1 → 1 ≤ P.hbN → m.pstate = 1 → m.role ≠ second →
          let src := m.cfgSeq < D.cfgSeq ∨ (m.cfgSeq = D.cfgSeq ∧ second = false)
          (¬src → Gives (.hb m) s (fun d => d.pst = 2 ∧ d.is R.PAIR.SYNCSTS.JOINER = true ∧ d.is R.PAIR.STATE.ROLE = true ∧ d.pair.rx = 0)) ∧
          (src → (∀ x ∈ D.cwins, x.2.en = false) → Gives (.hb m) s (fun d => d.pst = 2 ∧ d.is R.PAIR.SYNCSTS.SOURCE = true ∧ d.is R.PAIR.SYNCSTS.HANDBACK = true ∧ d.is R.PAIR.STATE.ROLE = false ∧
            (∀ k, D.mirrorPort = some k → (D.xl k).unack = [] → (D.xl k).wait = [] → ∃ i : Image, i.slices = D.slices ∧ i.extents = D.extents ∧ i.rules = D.rules ∧ i.queues = D.queues ∧ i.cfgSeq = D.cfgSeq ∧
              ((d.xl k).unack ++ (d.xl k).wait).map (·.slots) = (List.range 888).flatMap (fun n => inFrames (mirSlots { mtype := 5, more := n != 887, mid := D.commit.next, seq := D.cfgSeq } (leBytes (1020 * n) 4 ++ (i.bytes.drop (1020 * n)).take 1020))) ++
                inFrames (mirSlots { mtype := 6, mid := D.commit.next, seq := D.cfgSeq } []))))) ∧
        (D.pst = 6 → 1 ≤ P.hbN → m.role ≠ second → Gives (.hb m) s (fun d => d.pst = 2 ∧ d.is R.PAIR.SYNCSTS.JOINER = true ∧ d.is R.PAIR.STATE.ROLE = true)))) ∧
    (∀ f : FenceHalf,
      (D.pst ≠ 4 ∨ P.read = false → nothing (.fenceReadComplete f) ∧ nothing .fenceReadTimeout) ∧
      (D.pst = 4 → P.read = true →
        (P.wait = false →
          (f.yield = true ∨ f.cnt ≤ D.hbLast + 1 → quiet → takes (.fenceReadComplete f)) ∧
          (f.yield = false → D.hbLast + 1 < f.cnt → second = true → quiet → yields (.fenceReadComplete f)) ∧
          (f.yield = false → D.hbLast + 1 < f.cnt → second = false → Gives (.fenceReadComplete f) s (fun d => d.pair = { P with read := false, cnt := f.cnt, same := 1, wait := true } ∧ Keeps (oneOf []) [.pair] D d)) ∧
          (P.att < 2 → Gives .fenceReadTimeout s (fun d => d.has .pair 3 ∧ d.pair = { P with read := true, att := P.att + 1, same := 0 } ∧
            d.out = D.out ++ [if P.att = 0 then ⟨.mirror, .fenceRead, [fx, ofs, D.fenceExt.altPort]⟩ else reads] ∧ Keeps (oneOf (Sts.pair.fields 3)) [.pair, .out] D d)) ∧
          (2 ≤ P.att → quiet → (second = true → yields .fenceReadTimeout) ∧ (second = false → takes .fenceReadTimeout))) ∧
        (P.wait = true →
          (f.yield = false → f.cnt ≠ P.cnt ∨ P.same < 2 → Gives (.fenceReadComplete f) s (fun d => d.pst = 4 ∧ d.pair = { P with read := false, cnt := f.cnt, same := if 0 < P.same ∧ P.cnt = f.cnt then P.same + 1 else 1 } ∧
            Keeps (oneOf []) [.pair] D d)) ∧
          (f.yield = true ∨ (f.cnt = P.cnt ∧ 2 ≤ P.same) → second = false → quiet → takes (.fenceReadComplete f)) ∧
          Gives .fenceReadTimeout s (fun d => d.has .pair 3 ∧ d.pst = 4 ∧ d.pair = { P with read := false, att := P.att + 1, same := 0 })))) ∧
    (D.pst = 4 → P.wait = true → (P.read = false → Gives .fencePoll s (fun d => d.pair = { P with read := true } ∧ d.out = D.out ++ [reads] ∧ Keeps (oneOf []) [.pair, .out] D d)) ∧
      (second = false → quiet → takes .decideLimit)) ∧
    (D.pst ≠ 4 ∨ P.wait = false → nothing .fencePoll ∧ nothing .decideLimit) ∧
    (let ovr := P.stage = 3 ∨ (P.stage = 2 ∧ D.recalling rclTake = false);
      (ovr → Gives .takeoverResumeComplete s (fun d => d.pair = { P with stage := 0 } ∧ d.has .pair 1 ∧ d.get R.PAIR.TOTAL_T.US = D.usFrom P.hbAt ∧ (D.get R.TOP.DSTATE.MODE = 3 → D.inService = true → d.get R.TOP.DSTATE.MODE = 1) ∧
        Keeps (oneOf ([R.PAIR.TOTAL_T.US, R.TOP.DSTATE.MODE] ++ Sts.pair.fields 1)) [.pair] D d)) ∧
      (¬ovr → nothing .takeoverResumeComplete)) ∧
    (let ovr := D.pst = 2 ∧ (if D.is R.PAIR.SYNCSTS.SOURCE then D.is R.PAIR.SYNCSTS.HANDBACK && !D.recalling rclBack else P.synced) = true;
      (ovr → (∀ k, k < 64 → (D.prt k).held = false) → Gives .handbackComplete s (fun d => d.pst = 3 ∧ d.has .pair 7 ∧ d.pair.solo = false ∧ d.get R.PAIR.SYNC_T.US = D.usFrom P.syncAt ∧ d.is R.PAIR.SYNCSTS.SOURCE = false ∧
        d.is R.PAIR.SYNCSTS.JOINER = false ∧ d.is R.PAIR.SYNCSTS.HANDBACK = false ∧
        Keeps (oneOf ([R.PAIR.STATE.PSTATE, R.PAIR.SYNC_T.US, R.PAIR.SYNCSTS.SOURCE, R.PAIR.SYNCSTS.JOINER, R.PAIR.SYNCSTS.HANDBACK] ++ Sts.pair.fields 7)) [.pair] D d)) ∧
      (¬ovr → nothing .handbackComplete)) ∧
    (∀ off len, let takesPiece := D.mirrorUp = true ∧ D.is R.PAIR.SYNCSTS.JOINER = true ∧ len ≤ 1024 ∧ off ≤ P.rx;
      (takesPiece → Gives (.syncData off len) s (fun d => d.pair = { P with rx := max P.rx (off + len) } ∧ d.buf = D.rxMir.buf ∧ Keeps (oneOf [R.PAIR.MIRRX.VALUE]) [.pair, .buf] D d)) ∧
      (¬takesPiece → nothing (.syncData off len))) ∧
    (∀ img : Image, let i := D.ownView img;
      (D.mirrorUp = true → D.pst = 2 → D.is R.PAIR.SYNCSTS.JOINER = true → 905232 ≤ P.rx → portsDiffer D.regs i.regs = [] → slotsDiffer D.regs i.regs = [] →
        Gives (.syncEnd img) s (fun d => d.pair.synced = true ∧ d.slices = img.slices ∧ d.rules = img.rules ∧ d.cwins = img.cwins ∧ d.queues = img.queues ∧ d.polices = img.polices ∧ d.mgmt.recs = D.mgmt.recs)) ∧
      (D.mirrorUp = false ∨ D.pst ≠ 2 ∨ D.is R.PAIR.SYNCSTS.JOINER = false ∨ P.rx < 905232 → nothing (.syncEnd img))) ∧
    (∀ c : Fin 8,
      (D.mirrorUp = false ∨ D.is R.PAIR.CTL.EN = false → nothing (.notice c)) ∧
      (D.mirrorUp = true → D.is R.PAIR.CTL.EN = true →
        (D.is R.PRS.CTL.PAIR_SAVE = false ∨ D.inService = false → Gives (.notice c) s (fun d => d.buf = D.rxMir.buf ∧ Keeps (oneOf [R.PAIR.MIRRX.VALUE]) [.buf] D d)) ∧
        (D.is R.PRS.CTL.PAIR_SAVE = true → D.inService = true → (∀ k, k < 64 → (D.prt k).hold ≠ 1) → Gives (.notice c) s (fun d => d.get R.PRS.STATE.SEQ = 2 ∧ d.get R.PRS.RESULT.CAUSE = 2 ∧ d.get R.TOP.DSTATE.MODE = 3 ∧
          (D.pst ≠ 0 → d.pst = 7)))))

/-- R282 to R285, R275, R280. The change in PREP, MACK and GO is one rule entry; every other item goes the same way. -/
def Obligations.PairCommits : Prop :=
  ∀ s : State, s.live → s.dev.settled →
    let D := s.dev
    let C := D.commit
    let nothing := fun (c : Instr) => Gives c s (fun d => Keeps (oneOf []) [] D d)
    let counted := fun (c : Instr) => Gives c s (fun d => d.buf = D.rxMir.buf ∧ Keeps (oneOf [R.PAIR.MIRRX.VALUE]) [.buf] D d)
    let heard := fun (c : Instr) => Gives c s (fun d => d.buf = D.rxByp.buf ∧ Keeps (oneOf [R.PAIR.MIRRX.VALUE]) [.buf] D d)
    let eng := D.get R.PAIR.COMMIT.STATE
    let links := [R.PAIR.MIRRX.VALUE, R.PAIR.MIRTX.VALUE]
    let mir := fun (d : Dev) (h : MirHdr) (payload : List Nat) => ∀ m, D.mirrorPort = some m → D.linkOpen m = true → (D.xl m).wait = [] → (D.xl m).unack.length < 4095 → D.xcompat m = false →
      d.out = D.out ++ [⟨D.xchan m, .frame, D.frameOf m { seq := (D.xl m).next, slots := mirSlots h payload }⟩]
    let mackAt := fun (d : Dev) (mid r k seq : Nat) => (D.mirrorByp = true → ∀ m, D.mirrorPort = some m → d.out = D.out ++ [⟨D.xchan m, .frame, D.bypFrame m (mackBytes r k mid seq)⟩]) ∧
      (D.mirrorByp = false → mir d { mtype := 8, mid := C.next, seq := seq } (mackBytes r k mid seq))
    let mack := fun (d : Dev) (mid r k : Nat) => mackAt d mid r k D.cfgSeq
    let commits := fun (d : Dev) => D.changedOnce d ∧ d.get R.PAIR.CMTCNT.VALUE = (D.get R.PAIR.CMTCNT.VALUE + 1) % 2 ^ R.PAIR.CMTCNT.VALUE.w
    (C.queue = [] ∨ eng ≠ 0 ∨ D.inService = false ∨ D.pst = 2 → nothing .localChangeReady) ∧
    (∀ k b rest, k < 4096 →
      let it : Item := { loc := 0x1010000 + 16 * k, len := 16, bytes := b }
      (C.queue = .dev [it] :: rest → eng = 0 → D.inService = true →
        (D.inPair = true → Gives .localChangeReady s (fun d => d.get R.PAIR.COMMIT.STATE = 1 ∧ d.get R.PAIR.COMMIT.MID = C.next % 65536 ∧ d.commit = { C with queue := rest, change := some (.dev [it]), items := [it], next := (C.next % 65536 + 1) % 65536 } ∧
          mir d { mtype := 0, mid := C.next % 65536, seq := (D.cfgSeq + 1) % 2 ^ 64, dev := true } it.octets ∧ d.rules = D.rules)) ∧
        (D.inPair = false → D.pst ≠ 2 → Gives .localChangeReady s (fun d => d.commit = { C with queue := rest } ∧ Tbl.get d.rules {} k = unpackRule b ∧ D.changedOnce d ∧ d.out = D.out))) ∧
      (∀ m : PrepMsg, m.items = [it] → m.cnt = 0 → m.more = false → D.mirrorUp = true → D.inPair = true → D.givenMack m.mid = none →
        (eng = 0 → C.part = [] →
          (m.cfgSeq = (D.cfgSeq + 1) % 2 ^ 64 → Gives (.prep m) s (fun d => d.commit.held = some m ∧ d.get R.PAIR.COMMIT.STATE = 3 ∧ mack d m.mid 0 0 ∧ d.givenMack m.mid = some (m.mid, 0, 0) ∧
            Keeps (oneOf (R.PAIR.COMMIT.STATE :: links)) [.commit, .out, .xep, .buf] D d)) ∧
          (m.cfgSeq ≠ (D.cfgSeq + 1) % 2 ^ 64 → Gives (.prep m) s (fun d => d.commit.held = C.held ∧ d.has .pair 4 ∧ mack d m.mid 1 0 ∧ Keeps (oneOf (links ++ Sts.pair.fields 4)) [.commit, .out, .xep, .buf] D d))) ∧
        (eng = 1 → D.is R.PAIR.STATE.ROLE = false → Gives (.prep m) s (fun d => mack d m.mid 2 0 ∧ Keeps (oneOf links) [.out, .xep, .buf] D d)) ∧
        (eng = 1 → D.is R.PAIR.STATE.ROLE = true → C.part = [] → m.cfgSeq = (D.cfgSeq + 1) % 2 ^ 64 → Gives (.prep m) s (fun d => d.commit.held = some m ∧ d.get R.PAIR.COMMIT.STATE = 3 ∧ mack d m.mid 0 0 ∧
          d.commit.queue = C.change.toList ++ C.queue ∧ d.commit.change = none))) ∧
      (∀ m mid, C.held = some m → m.items = [it] → eng = 3 → D.mirrorUp = true → D.givenMack mid = none → Gives (.go mid ((D.cfgSeq + 1) % 2 ^ 64)) s (fun d => Tbl.get d.rules {} k = unpackRule b ∧
        (∀ j, j ≠ k → Tbl.get d.rules {} j = Tbl.get D.rules {} j) ∧ commits d ∧ d.commit.held = none ∧ d.get R.PAIR.COMMIT.STATE = 0 ∧ mackAt d mid 0 0 d.cfgSeq)) ∧
      (C.change = some (.dev [it]) → D.mirrorUp = true → (∀ w ∈ D.skid.cplWait, w.1 ≠ D.get R.PAIR.COMMIT.MID) → eng = 1 → Gives (.mack (D.get R.PAIR.COMMIT.MID) 0 0) s (fun d => Tbl.get d.rules {} k = unpackRule b ∧ commits d ∧
        d.get R.PAIR.COMMIT.STATE = 2 ∧ d.get R.PAIR.COMMIT.MID = C.next % 65536 ∧ mir d { mtype := 1, mid := C.next % 65536, seq := d.cfgSeq } [] ∧ d.commit.change = C.change))) ∧
    (∀ m : PrepMsg, (D.mirrorUp = false ∨ D.inPair = false → nothing (.prep m)) ∧
      (∀ r k, D.mirrorUp = true → D.inPair = true → D.givenMack m.mid = some (m.mid, r, k) → Gives (.prep m) s (fun d => mack d m.mid r k ∧ Keeps (oneOf links) [.out, .xep, .buf] D d))) ∧
    (∀ mid seq, (∀ r k, D.mirrorUp = true → D.givenMack mid = some (mid, r, k) → Gives (.go mid seq) s (fun d => mack d mid r k ∧ Keeps (oneOf links) [.out, .xep, .buf] D d)) ∧
      (D.mirrorUp = false ∨ (seq ≠ (D.cfgSeq + 1) % 2 ^ 64 ∧ D.givenMack mid = none) → nothing (.go mid seq)) ∧
      (D.mirrorUp = true → D.givenMack mid = none → C.held = none → seq = (D.cfgSeq + 1) % 2 ^ 64 → counted (.go mid seq))) ∧
    (∀ mid (r : Fin 4) code, (D.mirrorUp = false → nothing (.mack mid r code)) ∧
      (D.mirrorUp = true → (∀ w ∈ D.skid.cplWait, w.1 ≠ mid) →
        (mid ≠ D.get R.PAIR.COMMIT.MID → heard (.mack mid r code)) ∧
        (mid = D.get R.PAIR.COMMIT.MID →
          (∀ off v be, eng = 1 → r = 1 → C.change = some (.reg off v be) → Gives (.mack mid r code) s (fun d => d.get R.PAIR.COMMIT.STATE = 0 ∧ d.commit = { C with change := none, items := [] } ∧ d.has .pair 4 ∧
            d.is R.PAIR.CMTFAIL.VALID = true ∧ (D.is R.PAIR.CMTFAIL.VALID = false → d.get R.PAIR.CMTFAIL.OFFSET = off / 4 % 2 ^ R.PAIR.CMTFAIL.OFFSET.w) ∧
            Keeps (oneOf ([R.PAIR.MIRRX.VALUE, R.PAIR.COMMIT.STATE, R.PAIR.CMTFAIL.COUNT, R.PAIR.CMTFAIL.OFFSET, R.PAIR.CMTFAIL.VALID] ++ Sts.pair.fields 4)) [.commit, .buf] D d)) ∧
          (eng = 1 → 2 ≤ r.val → heard (.mack mid r code)) ∧
          (∀ l, eng = 2 → C.change = some (.dev l) → Gives (.mack mid r code) s (fun d => d.get R.PAIR.COMMIT.STATE = 0 ∧ d.commit = { C with change := none, items := [] } ∧ Keeps (oneOf [R.PAIR.MIRRX.VALUE, R.PAIR.COMMIT.STATE]) [.commit, .buf] D d))))) ∧
    (∀ mid (c : SCpl) (r : Fin 4) code, D.mirrorUp = true → D.skid.cplWait = [(mid, c)] → (∀ a ∈ D.skid.acts, a.q = c.q → a.slot = c.slot) → D.saving = false → c.q < 1024 → c.gen = D.qGen c.q → D.lost (D.sl (c.q / 2)).port = false →
      let e := D.qe c.q
      Gives (.mack mid r code) s (fun d => d.skid.cplWait = [] ∧ d.skid.acts = D.skid.acts.filter (fun a => a.q != c.q) ∧ (d.qe c.q).head = (e.head + 1) % e.ents ∧
        (d.qe c.q).okSeq = (if c.status = 0 then (e.okSeq + 1) % 2 ^ 32 else e.okSeq) ∧
        d.queued (D.sl (c.q / 2)).port (fun m => m.op = .cplEntry ∧ m.args = (e.cpl + 32 * c.slot) :: D.pasidOf (c.q / 2) :: leBytes (packSCpl c) 32))) ∧
    (∀ mid (c : SCpl) ok,
      (D.mirrorUp = false ∨ D.inPair = false ∨ D.is R.PAIR.STATE.ROLE = false → nothing (.cpl mid c ok)) ∧
      (D.mirrorUp = true → D.inPair = true → D.is R.PAIR.STATE.ROLE = true → D.givenMack mid = none → Gives (.cpl mid c ok) s (fun d => Tbl.get? d.skid.stored c.q = some c ∧
        (d.qe c.q).head = (c.slot + 1) % (D.qe c.q).ents ∧ (d.qe c.q).okSeq = ok % 2 ^ 32 ∧ (d.qe c.q).st = (D.qe c.q).st ∧ mack d mid 0 0 ∧ Keeps (oneOf links) [.skid, .queues, .commit, .out, .xep, .buf] D d))) ∧
    (∀ (p : Fin 8) (r : RingE),
      (D.mirrorUp = false ∨ D.is R.PAIR.CTL.EN = false → nothing (.ring p r)) ∧
      (D.mirrorUp = true → D.is R.PAIR.CTL.EN = true →
        ((D.ring p).attached = true → counted (.ring p r)) ∧
        ((D.ring p).attached = false → Gives (.ring p r) s (fun d => d.ring p = { D.ring p with head := r.head, fetch := r.head, phase := r.phase, written := [] } ∧ Keeps (oneOf [R.PAIR.MIRRX.VALUE]) [.mgmt, .buf] D d)))) ∧
    (∀ (sl : Fin 512) off v,
      (D.mirrorUp = false ∨ D.is R.PAIR.CTL.EN = false → nothing (.fwd sl off v)) ∧
      (D.mirrorUp = true → D.is R.PAIR.CTL.EN = true →
        (D.is R.PAIR.STATE.ROLE = true → counted (.fwd sl off v)) ∧
        (D.is R.PAIR.STATE.ROLE = false → off = 0x200 → Gives (.fwd sl off v) s (fun d => (Tbl.get d.dlogs {} sl).ci = v % 2 ^ 16 % 2 ^ (Tbl.get D.dlogs {} sl).size ∧ Keeps (oneOf [R.PAIR.MIRRX.VALUE]) [.dlogs, .buf] D d))))

/-- The queue and the steps. The empty queue's cycle is log entry 1's choice. -/
def Obligations.StepsRunCommands : Prop :=
  (∀ (c : Instr) (rest : List Instr) (s : State), s.pending = c :: rest → step s = exec c { s with pending := rest }) ∧
  (∀ s : State, s.pending = [] → ∃ t, step s = .next t ∧ t.pending = [] ∧ t.dev = s.dev.tick ∧ (s.dev.heldReset = true → t.dev = s.dev) ∧
    (s.live → t.dev.time.cclk = s.dev.time.cclk + 1)) ∧
  (∀ (c : Instr) (s : State), ∃ t, exec c s = .next t ∧ t.pending = s.pending)

/-- R376, R378, R212. Field values the spec does not state are log entry 2's choice; the point of time is log entry 3's. -/
def Obligations.ResetState : Prop :=
  let s := State.reset
  let D := s.dev
  s.pending = [] ∧ (∀ f : Fld, D.get f = f.rst) ∧ D.heldReset = true ∧ D.clk.locked = false ∧ D.get R.PRS.STATE.SEQ = 0 ∧ D.get R.TOP.DSTATE.MODE = 0 ∧ D.time.ft = 0 ∧ D.get R.TOP.FTSTS.DEPTH = 15 ∧
    (∀ p, D.linkSt p = 0 ∧ (D.prt p).ex = false) ∧ (∀ n, D.slotSt n = 0) ∧ (∀ n, (D.sl n).st = 0 ∧ (D.ext n).valid = false ∧ (D.qe n).st = 0) ∧ D.buf.msgs = [] ∧ D.out = [] ∧ D.settled ∧ s.resetInv ∧
    (∀ p, exec (.replayTimeout p) s = .next s) ∧ (∀ m, exec (.hb m) s = .next s)

/-- R372, R376, R378, R213. -/
def Obligations.ResetInvariantIsKept : Prop :=
  ∀ s t : State, s.resetInv → step s = .next t → t.resetInv

/-- R93, R137, R140, R143, R157, R168, R171, R175, R182, R351, R358. -/
def Obligations.TableEntriesRoundTrip : Prop :=
  (∀ x : Nat, unpackSlice (packSlice (unpackSlice x)) = unpackSlice x ∧ unpackExtent (packExtent (unpackExtent x)) = unpackExtent x ∧ unpackRule (packRule (unpackRule x)) = unpackRule x ∧
    unpackCWin (packCWin (unpackCWin x)) = unpackCWin x ∧ unpackDlog (packDlog (unpackDlog x)) = unpackDlog x ∧ unpackPolice (packPolice (unpackPolice x)) = unpackPolice x ∧
    unpackClass (packClass (unpackClass x)) = unpackClass x ∧ unpackGate (packGate (unpackGate x)) = unpackGate x ∧ unpackQueue (packQueue (unpackQueue x)) = unpackQueue x ∧
    unpackSdump (packSdump (unpackSdump x)) = unpackSdump x ∧ unpackCtrSel (packCtrSel (unpackCtrSel x)) = unpackCtrSel x) ∧
  (∀ x : Nat,
    (x < 2 ^ 56 → packExtent (unpackExtent x) = x) ∧
    (x < 2 ^ 104 → bits x 9 7 = 0 → bits x 56 8 = 0 → packRule (unpackRule x) = x) ∧
    (x < 2 ^ 128 → bits x 38 26 = 0 → packCWin (unpackCWin x) = x) ∧
    (x < 2 ^ 56 → bits x 21 3 = 0 → packClass (unpackClass x) = x) ∧
    (x < 2 ^ 65 → packSdump (unpackSdump x) = x) ∧
    (x < 2 ^ 40 → bits x 10 2 = 0 → bits x 17 3 = 0 → packCtrSel (unpackCtrSel x) = x) ∧
    (x < 2 ^ 502 → bits x 47 1 = 0 → bits x 93 35 = 0 → (∀ k, k < 4 → bits x (128 + 64 * k + 55) 9 = 0) → (∀ k, k < 3 → bits x (384 + 32 * k + 22) 10 = 0) → packSlice (unpackSlice x) = x))
end

