-- ==== Sys2Proof/Laws/State.lean ====
section
/-! SUPPORT. What each update of the state leaves as it was: one lemma per field per update. -/
namespace Sys2Proof.Machine

/-! ### A field of a register -/

@[simp] theorem Dev.set_flaws (d : Dev) (f : Fld) (v : Nat) : (d.set f v).flaws = d.flaws := rfl
@[simp] theorem Dev.set_inj (d : Dev) (f : Fld) (v : Nat) : (d.set f v).inj = d.inj := rfl
@[simp] theorem Dev.set_time (d : Dev) (f : Fld) (v : Nat) : (d.set f v).time = d.time := rfl
@[simp] theorem Dev.set_noc (d : Dev) (f : Fld) (v : Nat) : (d.set f v).noc = d.noc := rfl
@[simp] theorem Dev.set_dom (d : Dev) (f : Fld) (v : Nat) : (d.set f v).dom = d.dom := rfl
@[simp] theorem Dev.set_clk (d : Dev) (f : Fld) (v : Nat) : (d.set f v).clk = d.clk := rfl
@[simp] theorem Dev.set_pins (d : Dev) (f : Fld) (v : Nat) : (d.set f v).pins = d.pins := rfl
@[simp] theorem Dev.set_port (d : Dev) (f : Fld) (v : Nat) : (d.set f v).port = d.port := rfl
@[simp] theorem Dev.set_buf (d : Dev) (f : Fld) (v : Nat) : (d.set f v).buf = d.buf := rfl
@[simp] theorem Dev.set_slot (d : Dev) (f : Fld) (v : Nat) : (d.set f v).slot = d.slot := rfl
@[simp] theorem Dev.set_slices (d : Dev) (f : Fld) (v : Nat) : (d.set f v).slices = d.slices := rfl
@[simp] theorem Dev.set_extents (d : Dev) (f : Fld) (v : Nat) : (d.set f v).extents = d.extents := rfl
@[simp] theorem Dev.set_rules (d : Dev) (f : Fld) (v : Nat) : (d.set f v).rules = d.rules := rfl
@[simp] theorem Dev.set_cwins (d : Dev) (f : Fld) (v : Nat) : (d.set f v).cwins = d.cwins := rfl
@[simp] theorem Dev.set_winchg (d : Dev) (f : Fld) (v : Nat) : (d.set f v).winchg = d.winchg := rfl
@[simp] theorem Dev.set_dlogs (d : Dev) (f : Fld) (v : Nat) : (d.set f v).dlogs = d.dlogs := rfl
@[simp] theorem Dev.set_msix (d : Dev) (f : Fld) (v : Nat) : (d.set f v).msix = d.msix := rfl
@[simp] theorem Dev.set_polices (d : Dev) (f : Fld) (v : Nat) : (d.set f v).polices = d.polices := rfl
@[simp] theorem Dev.set_classes (d : Dev) (f : Fld) (v : Nat) : (d.set f v).classes = d.classes := rfl
@[simp] theorem Dev.set_gcls (d : Dev) (f : Fld) (v : Nat) : (d.set f v).gcls = d.gcls := rfl
@[simp] theorem Dev.set_queues (d : Dev) (f : Fld) (v : Nat) : (d.set f v).queues = d.queues := rfl
@[simp] theorem Dev.set_xgrp (d : Dev) (f : Fld) (v : Nat) : (d.set f v).xgrp = d.xgrp := rfl
@[simp] theorem Dev.set_sdumps (d : Dev) (f : Fld) (v : Nat) : (d.set f v).sdumps = d.sdumps := rfl
@[simp] theorem Dev.set_ctrsels (d : Dev) (f : Fld) (v : Nat) : (d.set f v).ctrsels = d.ctrsels := rfl
@[simp] theorem Dev.set_ctrvals (d : Dev) (f : Fld) (v : Nat) : (d.set f v).ctrvals = d.ctrvals := rfl
@[simp] theorem Dev.set_qsamps (d : Dev) (f : Fld) (v : Nat) : (d.set f v).qsamps = d.qsamps := rfl
@[simp] theorem Dev.set_dirs (d : Dev) (f : Fld) (v : Nat) : (d.set f v).dirs = d.dirs := rfl
@[simp] theorem Dev.set_dfilt (d : Dev) (f : Fld) (v : Nat) : (d.set f v).dfilt = d.dfilt := rfl
@[simp] theorem Dev.set_prs (d : Dev) (f : Fld) (v : Nat) : (d.set f v).prs = d.prs := rfl
@[simp] theorem Dev.set_nor (d : Dev) (f : Fld) (v : Nat) : (d.set f v).nor = d.nor := rfl
@[simp] theorem Dev.set_mgmt (d : Dev) (f : Fld) (v : Nat) : (d.set f v).mgmt = d.mgmt := rfl
@[simp] theorem Dev.set_commit (d : Dev) (f : Fld) (v : Nat) : (d.set f v).commit = d.commit := rfl
@[simp] theorem Dev.set_tally (d : Dev) (f : Fld) (v : Nat) : (d.set f v).tally = d.tally := rfl
@[simp] theorem Dev.set_sched (d : Dev) (f : Fld) (v : Nat) : (d.set f v).sched = d.sched := rfl
@[simp] theorem Dev.set_skid (d : Dev) (f : Fld) (v : Nat) : (d.set f v).skid = d.skid := rfl
@[simp] theorem Dev.set_xep (d : Dev) (f : Fld) (v : Nat) : (d.set f v).xep = d.xep := rfl
@[simp] theorem Dev.set_ftr (d : Dev) (f : Fld) (v : Nat) : (d.set f v).ftr = d.ftr := rfl
@[simp] theorem Dev.set_pair (d : Dev) (f : Fld) (v : Nat) : (d.set f v).pair = d.pair := rfl
@[simp] theorem Dev.set_out (d : Dev) (f : Fld) (v : Nat) : (d.set f v).out = d.out := rfl
@[simp] theorem Dev.set_freeCtr (d : Dev) (f : Fld) (v : Nat) : (d.set f v).freeCtr = d.freeCtr := rfl

@[simp] theorem Dev.on_flaws (d : Dev) (f : Fld) : (d.on f).flaws = d.flaws := rfl
@[simp] theorem Dev.on_inj (d : Dev) (f : Fld) : (d.on f).inj = d.inj := rfl
@[simp] theorem Dev.on_time (d : Dev) (f : Fld) : (d.on f).time = d.time := rfl
@[simp] theorem Dev.on_noc (d : Dev) (f : Fld) : (d.on f).noc = d.noc := rfl
@[simp] theorem Dev.on_dom (d : Dev) (f : Fld) : (d.on f).dom = d.dom := rfl
@[simp] theorem Dev.on_clk (d : Dev) (f : Fld) : (d.on f).clk = d.clk := rfl
@[simp] theorem Dev.on_pins (d : Dev) (f : Fld) : (d.on f).pins = d.pins := rfl
@[simp] theorem Dev.on_port (d : Dev) (f : Fld) : (d.on f).port = d.port := rfl
@[simp] theorem Dev.on_buf (d : Dev) (f : Fld) : (d.on f).buf = d.buf := rfl
@[simp] theorem Dev.on_slot (d : Dev) (f : Fld) : (d.on f).slot = d.slot := rfl
@[simp] theorem Dev.on_slices (d : Dev) (f : Fld) : (d.on f).slices = d.slices := rfl
@[simp] theorem Dev.on_extents (d : Dev) (f : Fld) : (d.on f).extents = d.extents := rfl
@[simp] theorem Dev.on_rules (d : Dev) (f : Fld) : (d.on f).rules = d.rules := rfl
@[simp] theorem Dev.on_cwins (d : Dev) (f : Fld) : (d.on f).cwins = d.cwins := rfl
@[simp] theorem Dev.on_winchg (d : Dev) (f : Fld) : (d.on f).winchg = d.winchg := rfl
@[simp] theorem Dev.on_dlogs (d : Dev) (f : Fld) : (d.on f).dlogs = d.dlogs := rfl
@[simp] theorem Dev.on_msix (d : Dev) (f : Fld) : (d.on f).msix = d.msix := rfl
@[simp] theorem Dev.on_polices (d : Dev) (f : Fld) : (d.on f).polices = d.polices := rfl
@[simp] theorem Dev.on_classes (d : Dev) (f : Fld) : (d.on f).classes = d.classes := rfl
@[simp] theorem Dev.on_gcls (d : Dev) (f : Fld) : (d.on f).gcls = d.gcls := rfl
@[simp] theorem Dev.on_queues (d : Dev) (f : Fld) : (d.on f).queues = d.queues := rfl
@[simp] theorem Dev.on_xgrp (d : Dev) (f : Fld) : (d.on f).xgrp = d.xgrp := rfl
@[simp] theorem Dev.on_sdumps (d : Dev) (f : Fld) : (d.on f).sdumps = d.sdumps := rfl
@[simp] theorem Dev.on_ctrsels (d : Dev) (f : Fld) : (d.on f).ctrsels = d.ctrsels := rfl
@[simp] theorem Dev.on_ctrvals (d : Dev) (f : Fld) : (d.on f).ctrvals = d.ctrvals := rfl
@[simp] theorem Dev.on_qsamps (d : Dev) (f : Fld) : (d.on f).qsamps = d.qsamps := rfl
@[simp] theorem Dev.on_dirs (d : Dev) (f : Fld) : (d.on f).dirs = d.dirs := rfl
@[simp] theorem Dev.on_dfilt (d : Dev) (f : Fld) : (d.on f).dfilt = d.dfilt := rfl
@[simp] theorem Dev.on_prs (d : Dev) (f : Fld) : (d.on f).prs = d.prs := rfl
@[simp] theorem Dev.on_nor (d : Dev) (f : Fld) : (d.on f).nor = d.nor := rfl
@[simp] theorem Dev.on_mgmt (d : Dev) (f : Fld) : (d.on f).mgmt = d.mgmt := rfl
@[simp] theorem Dev.on_commit (d : Dev) (f : Fld) : (d.on f).commit = d.commit := rfl
@[simp] theorem Dev.on_tally (d : Dev) (f : Fld) : (d.on f).tally = d.tally := rfl
@[simp] theorem Dev.on_sched (d : Dev) (f : Fld) : (d.on f).sched = d.sched := rfl
@[simp] theorem Dev.on_skid (d : Dev) (f : Fld) : (d.on f).skid = d.skid := rfl
@[simp] theorem Dev.on_xep (d : Dev) (f : Fld) : (d.on f).xep = d.xep := rfl
@[simp] theorem Dev.on_ftr (d : Dev) (f : Fld) : (d.on f).ftr = d.ftr := rfl
@[simp] theorem Dev.on_pair (d : Dev) (f : Fld) : (d.on f).pair = d.pair := rfl
@[simp] theorem Dev.on_out (d : Dev) (f : Fld) : (d.on f).out = d.out := rfl
@[simp] theorem Dev.on_freeCtr (d : Dev) (f : Fld) : (d.on f).freeCtr = d.freeCtr := rfl

@[simp] theorem Dev.off_flaws (d : Dev) (f : Fld) : (d.off f).flaws = d.flaws := rfl
@[simp] theorem Dev.off_inj (d : Dev) (f : Fld) : (d.off f).inj = d.inj := rfl
@[simp] theorem Dev.off_time (d : Dev) (f : Fld) : (d.off f).time = d.time := rfl
@[simp] theorem Dev.off_noc (d : Dev) (f : Fld) : (d.off f).noc = d.noc := rfl
@[simp] theorem Dev.off_dom (d : Dev) (f : Fld) : (d.off f).dom = d.dom := rfl
@[simp] theorem Dev.off_clk (d : Dev) (f : Fld) : (d.off f).clk = d.clk := rfl
@[simp] theorem Dev.off_pins (d : Dev) (f : Fld) : (d.off f).pins = d.pins := rfl
@[simp] theorem Dev.off_port (d : Dev) (f : Fld) : (d.off f).port = d.port := rfl
@[simp] theorem Dev.off_buf (d : Dev) (f : Fld) : (d.off f).buf = d.buf := rfl
@[simp] theorem Dev.off_slot (d : Dev) (f : Fld) : (d.off f).slot = d.slot := rfl
@[simp] theorem Dev.off_slices (d : Dev) (f : Fld) : (d.off f).slices = d.slices := rfl
@[simp] theorem Dev.off_extents (d : Dev) (f : Fld) : (d.off f).extents = d.extents := rfl
@[simp] theorem Dev.off_rules (d : Dev) (f : Fld) : (d.off f).rules = d.rules := rfl
@[simp] theorem Dev.off_cwins (d : Dev) (f : Fld) : (d.off f).cwins = d.cwins := rfl
@[simp] theorem Dev.off_winchg (d : Dev) (f : Fld) : (d.off f).winchg = d.winchg := rfl
@[simp] theorem Dev.off_dlogs (d : Dev) (f : Fld) : (d.off f).dlogs = d.dlogs := rfl
@[simp] theorem Dev.off_msix (d : Dev) (f : Fld) : (d.off f).msix = d.msix := rfl
@[simp] theorem Dev.off_polices (d : Dev) (f : Fld) : (d.off f).polices = d.polices := rfl
@[simp] theorem Dev.off_classes (d : Dev) (f : Fld) : (d.off f).classes = d.classes := rfl
@[simp] theorem Dev.off_gcls (d : Dev) (f : Fld) : (d.off f).gcls = d.gcls := rfl
@[simp] theorem Dev.off_queues (d : Dev) (f : Fld) : (d.off f).queues = d.queues := rfl
@[simp] theorem Dev.off_xgrp (d : Dev) (f : Fld) : (d.off f).xgrp = d.xgrp := rfl
@[simp] theorem Dev.off_sdumps (d : Dev) (f : Fld) : (d.off f).sdumps = d.sdumps := rfl
@[simp] theorem Dev.off_ctrsels (d : Dev) (f : Fld) : (d.off f).ctrsels = d.ctrsels := rfl
@[simp] theorem Dev.off_ctrvals (d : Dev) (f : Fld) : (d.off f).ctrvals = d.ctrvals := rfl
@[simp] theorem Dev.off_qsamps (d : Dev) (f : Fld) : (d.off f).qsamps = d.qsamps := rfl
@[simp] theorem Dev.off_dirs (d : Dev) (f : Fld) : (d.off f).dirs = d.dirs := rfl
@[simp] theorem Dev.off_dfilt (d : Dev) (f : Fld) : (d.off f).dfilt = d.dfilt := rfl
@[simp] theorem Dev.off_prs (d : Dev) (f : Fld) : (d.off f).prs = d.prs := rfl
@[simp] theorem Dev.off_nor (d : Dev) (f : Fld) : (d.off f).nor = d.nor := rfl
@[simp] theorem Dev.off_mgmt (d : Dev) (f : Fld) : (d.off f).mgmt = d.mgmt := rfl
@[simp] theorem Dev.off_commit (d : Dev) (f : Fld) : (d.off f).commit = d.commit := rfl
@[simp] theorem Dev.off_tally (d : Dev) (f : Fld) : (d.off f).tally = d.tally := rfl
@[simp] theorem Dev.off_sched (d : Dev) (f : Fld) : (d.off f).sched = d.sched := rfl
@[simp] theorem Dev.off_skid (d : Dev) (f : Fld) : (d.off f).skid = d.skid := rfl
@[simp] theorem Dev.off_xep (d : Dev) (f : Fld) : (d.off f).xep = d.xep := rfl
@[simp] theorem Dev.off_ftr (d : Dev) (f : Fld) : (d.off f).ftr = d.ftr := rfl
@[simp] theorem Dev.off_pair (d : Dev) (f : Fld) : (d.off f).pair = d.pair := rfl
@[simp] theorem Dev.off_out (d : Dev) (f : Fld) : (d.off f).out = d.out := rfl
@[simp] theorem Dev.off_freeCtr (d : Dev) (f : Fld) : (d.off f).freeCtr = d.freeCtr := rfl

@[simp] theorem Dev.put_flaws (d : Dev) (f : Fld) (b : Bool) : (d.put f b).flaws = d.flaws := rfl
@[simp] theorem Dev.put_inj (d : Dev) (f : Fld) (b : Bool) : (d.put f b).inj = d.inj := rfl
@[simp] theorem Dev.put_time (d : Dev) (f : Fld) (b : Bool) : (d.put f b).time = d.time := rfl
@[simp] theorem Dev.put_noc (d : Dev) (f : Fld) (b : Bool) : (d.put f b).noc = d.noc := rfl
@[simp] theorem Dev.put_dom (d : Dev) (f : Fld) (b : Bool) : (d.put f b).dom = d.dom := rfl
@[simp] theorem Dev.put_clk (d : Dev) (f : Fld) (b : Bool) : (d.put f b).clk = d.clk := rfl
@[simp] theorem Dev.put_pins (d : Dev) (f : Fld) (b : Bool) : (d.put f b).pins = d.pins := rfl
@[simp] theorem Dev.put_port (d : Dev) (f : Fld) (b : Bool) : (d.put f b).port = d.port := rfl
@[simp] theorem Dev.put_buf (d : Dev) (f : Fld) (b : Bool) : (d.put f b).buf = d.buf := rfl
@[simp] theorem Dev.put_slot (d : Dev) (f : Fld) (b : Bool) : (d.put f b).slot = d.slot := rfl
@[simp] theorem Dev.put_slices (d : Dev) (f : Fld) (b : Bool) : (d.put f b).slices = d.slices := rfl
@[simp] theorem Dev.put_extents (d : Dev) (f : Fld) (b : Bool) : (d.put f b).extents = d.extents := rfl
@[simp] theorem Dev.put_rules (d : Dev) (f : Fld) (b : Bool) : (d.put f b).rules = d.rules := rfl
@[simp] theorem Dev.put_cwins (d : Dev) (f : Fld) (b : Bool) : (d.put f b).cwins = d.cwins := rfl
@[simp] theorem Dev.put_winchg (d : Dev) (f : Fld) (b : Bool) : (d.put f b).winchg = d.winchg := rfl
@[simp] theorem Dev.put_dlogs (d : Dev) (f : Fld) (b : Bool) : (d.put f b).dlogs = d.dlogs := rfl
@[simp] theorem Dev.put_msix (d : Dev) (f : Fld) (b : Bool) : (d.put f b).msix = d.msix := rfl
@[simp] theorem Dev.put_polices (d : Dev) (f : Fld) (b : Bool) : (d.put f b).polices = d.polices := rfl
@[simp] theorem Dev.put_classes (d : Dev) (f : Fld) (b : Bool) : (d.put f b).classes = d.classes := rfl
@[simp] theorem Dev.put_gcls (d : Dev) (f : Fld) (b : Bool) : (d.put f b).gcls = d.gcls := rfl
@[simp] theorem Dev.put_queues (d : Dev) (f : Fld) (b : Bool) : (d.put f b).queues = d.queues := rfl
@[simp] theorem Dev.put_xgrp (d : Dev) (f : Fld) (b : Bool) : (d.put f b).xgrp = d.xgrp := rfl
@[simp] theorem Dev.put_sdumps (d : Dev) (f : Fld) (b : Bool) : (d.put f b).sdumps = d.sdumps := rfl
@[simp] theorem Dev.put_ctrsels (d : Dev) (f : Fld) (b : Bool) : (d.put f b).ctrsels = d.ctrsels := rfl
@[simp] theorem Dev.put_ctrvals (d : Dev) (f : Fld) (b : Bool) : (d.put f b).ctrvals = d.ctrvals := rfl
@[simp] theorem Dev.put_qsamps (d : Dev) (f : Fld) (b : Bool) : (d.put f b).qsamps = d.qsamps := rfl
@[simp] theorem Dev.put_dirs (d : Dev) (f : Fld) (b : Bool) : (d.put f b).dirs = d.dirs := rfl
@[simp] theorem Dev.put_dfilt (d : Dev) (f : Fld) (b : Bool) : (d.put f b).dfilt = d.dfilt := rfl
@[simp] theorem Dev.put_prs (d : Dev) (f : Fld) (b : Bool) : (d.put f b).prs = d.prs := rfl
@[simp] theorem Dev.put_nor (d : Dev) (f : Fld) (b : Bool) : (d.put f b).nor = d.nor := rfl
@[simp] theorem Dev.put_mgmt (d : Dev) (f : Fld) (b : Bool) : (d.put f b).mgmt = d.mgmt := rfl
@[simp] theorem Dev.put_commit (d : Dev) (f : Fld) (b : Bool) : (d.put f b).commit = d.commit := rfl
@[simp] theorem Dev.put_tally (d : Dev) (f : Fld) (b : Bool) : (d.put f b).tally = d.tally := rfl
@[simp] theorem Dev.put_sched (d : Dev) (f : Fld) (b : Bool) : (d.put f b).sched = d.sched := rfl
@[simp] theorem Dev.put_skid (d : Dev) (f : Fld) (b : Bool) : (d.put f b).skid = d.skid := rfl
@[simp] theorem Dev.put_xep (d : Dev) (f : Fld) (b : Bool) : (d.put f b).xep = d.xep := rfl
@[simp] theorem Dev.put_ftr (d : Dev) (f : Fld) (b : Bool) : (d.put f b).ftr = d.ftr := rfl
@[simp] theorem Dev.put_pair (d : Dev) (f : Fld) (b : Bool) : (d.put f b).pair = d.pair := rfl
@[simp] theorem Dev.put_out (d : Dev) (f : Fld) (b : Bool) : (d.put f b).out = d.out := rfl
@[simp] theorem Dev.put_freeCtr (d : Dev) (f : Fld) (b : Bool) : (d.put f b).freeCtr = d.freeCtr := rfl

@[simp] theorem Dev.addSat_flaws (d : Dev) (f : Fld) (n : Nat) : (d.addSat f n).flaws = d.flaws := rfl
@[simp] theorem Dev.addSat_inj (d : Dev) (f : Fld) (n : Nat) : (d.addSat f n).inj = d.inj := rfl
@[simp] theorem Dev.addSat_time (d : Dev) (f : Fld) (n : Nat) : (d.addSat f n).time = d.time := rfl
@[simp] theorem Dev.addSat_noc (d : Dev) (f : Fld) (n : Nat) : (d.addSat f n).noc = d.noc := rfl
@[simp] theorem Dev.addSat_dom (d : Dev) (f : Fld) (n : Nat) : (d.addSat f n).dom = d.dom := rfl
@[simp] theorem Dev.addSat_clk (d : Dev) (f : Fld) (n : Nat) : (d.addSat f n).clk = d.clk := rfl
@[simp] theorem Dev.addSat_pins (d : Dev) (f : Fld) (n : Nat) : (d.addSat f n).pins = d.pins := rfl
@[simp] theorem Dev.addSat_port (d : Dev) (f : Fld) (n : Nat) : (d.addSat f n).port = d.port := rfl
@[simp] theorem Dev.addSat_buf (d : Dev) (f : Fld) (n : Nat) : (d.addSat f n).buf = d.buf := rfl
@[simp] theorem Dev.addSat_slot (d : Dev) (f : Fld) (n : Nat) : (d.addSat f n).slot = d.slot := rfl
@[simp] theorem Dev.addSat_slices (d : Dev) (f : Fld) (n : Nat) : (d.addSat f n).slices = d.slices := rfl
@[simp] theorem Dev.addSat_extents (d : Dev) (f : Fld) (n : Nat) : (d.addSat f n).extents = d.extents := rfl
@[simp] theorem Dev.addSat_rules (d : Dev) (f : Fld) (n : Nat) : (d.addSat f n).rules = d.rules := rfl
@[simp] theorem Dev.addSat_cwins (d : Dev) (f : Fld) (n : Nat) : (d.addSat f n).cwins = d.cwins := rfl
@[simp] theorem Dev.addSat_winchg (d : Dev) (f : Fld) (n : Nat) : (d.addSat f n).winchg = d.winchg := rfl
@[simp] theorem Dev.addSat_dlogs (d : Dev) (f : Fld) (n : Nat) : (d.addSat f n).dlogs = d.dlogs := rfl
@[simp] theorem Dev.addSat_msix (d : Dev) (f : Fld) (n : Nat) : (d.addSat f n).msix = d.msix := rfl
@[simp] theorem Dev.addSat_polices (d : Dev) (f : Fld) (n : Nat) : (d.addSat f n).polices = d.polices := rfl
@[simp] theorem Dev.addSat_classes (d : Dev) (f : Fld) (n : Nat) : (d.addSat f n).classes = d.classes := rfl
@[simp] theorem Dev.addSat_gcls (d : Dev) (f : Fld) (n : Nat) : (d.addSat f n).gcls = d.gcls := rfl
@[simp] theorem Dev.addSat_queues (d : Dev) (f : Fld) (n : Nat) : (d.addSat f n).queues = d.queues := rfl
@[simp] theorem Dev.addSat_xgrp (d : Dev) (f : Fld) (n : Nat) : (d.addSat f n).xgrp = d.xgrp := rfl
@[simp] theorem Dev.addSat_sdumps (d : Dev) (f : Fld) (n : Nat) : (d.addSat f n).sdumps = d.sdumps := rfl
@[simp] theorem Dev.addSat_ctrsels (d : Dev) (f : Fld) (n : Nat) : (d.addSat f n).ctrsels = d.ctrsels := rfl
@[simp] theorem Dev.addSat_ctrvals (d : Dev) (f : Fld) (n : Nat) : (d.addSat f n).ctrvals = d.ctrvals := rfl
@[simp] theorem Dev.addSat_qsamps (d : Dev) (f : Fld) (n : Nat) : (d.addSat f n).qsamps = d.qsamps := rfl
@[simp] theorem Dev.addSat_dirs (d : Dev) (f : Fld) (n : Nat) : (d.addSat f n).dirs = d.dirs := rfl
@[simp] theorem Dev.addSat_dfilt (d : Dev) (f : Fld) (n : Nat) : (d.addSat f n).dfilt = d.dfilt := rfl
@[simp] theorem Dev.addSat_prs (d : Dev) (f : Fld) (n : Nat) : (d.addSat f n).prs = d.prs := rfl
@[simp] theorem Dev.addSat_nor (d : Dev) (f : Fld) (n : Nat) : (d.addSat f n).nor = d.nor := rfl
@[simp] theorem Dev.addSat_mgmt (d : Dev) (f : Fld) (n : Nat) : (d.addSat f n).mgmt = d.mgmt := rfl
@[simp] theorem Dev.addSat_commit (d : Dev) (f : Fld) (n : Nat) : (d.addSat f n).commit = d.commit := rfl
@[simp] theorem Dev.addSat_tally (d : Dev) (f : Fld) (n : Nat) : (d.addSat f n).tally = d.tally := rfl
@[simp] theorem Dev.addSat_sched (d : Dev) (f : Fld) (n : Nat) : (d.addSat f n).sched = d.sched := rfl
@[simp] theorem Dev.addSat_skid (d : Dev) (f : Fld) (n : Nat) : (d.addSat f n).skid = d.skid := rfl
@[simp] theorem Dev.addSat_xep (d : Dev) (f : Fld) (n : Nat) : (d.addSat f n).xep = d.xep := rfl
@[simp] theorem Dev.addSat_ftr (d : Dev) (f : Fld) (n : Nat) : (d.addSat f n).ftr = d.ftr := rfl
@[simp] theorem Dev.addSat_pair (d : Dev) (f : Fld) (n : Nat) : (d.addSat f n).pair = d.pair := rfl
@[simp] theorem Dev.addSat_out (d : Dev) (f : Fld) (n : Nat) : (d.addSat f n).out = d.out := rfl
@[simp] theorem Dev.addSat_freeCtr (d : Dev) (f : Fld) (n : Nat) : (d.addSat f n).freeCtr = d.freeCtr := rfl

@[simp] theorem Dev.addMod_flaws (d : Dev) (f : Fld) (n : Nat) : (d.addMod f n).flaws = d.flaws := rfl
@[simp] theorem Dev.addMod_inj (d : Dev) (f : Fld) (n : Nat) : (d.addMod f n).inj = d.inj := rfl
@[simp] theorem Dev.addMod_time (d : Dev) (f : Fld) (n : Nat) : (d.addMod f n).time = d.time := rfl
@[simp] theorem Dev.addMod_noc (d : Dev) (f : Fld) (n : Nat) : (d.addMod f n).noc = d.noc := rfl
@[simp] theorem Dev.addMod_dom (d : Dev) (f : Fld) (n : Nat) : (d.addMod f n).dom = d.dom := rfl
@[simp] theorem Dev.addMod_clk (d : Dev) (f : Fld) (n : Nat) : (d.addMod f n).clk = d.clk := rfl
@[simp] theorem Dev.addMod_pins (d : Dev) (f : Fld) (n : Nat) : (d.addMod f n).pins = d.pins := rfl
@[simp] theorem Dev.addMod_port (d : Dev) (f : Fld) (n : Nat) : (d.addMod f n).port = d.port := rfl
@[simp] theorem Dev.addMod_buf (d : Dev) (f : Fld) (n : Nat) : (d.addMod f n).buf = d.buf := rfl
@[simp] theorem Dev.addMod_slot (d : Dev) (f : Fld) (n : Nat) : (d.addMod f n).slot = d.slot := rfl
@[simp] theorem Dev.addMod_slices (d : Dev) (f : Fld) (n : Nat) : (d.addMod f n).slices = d.slices := rfl
@[simp] theorem Dev.addMod_extents (d : Dev) (f : Fld) (n : Nat) : (d.addMod f n).extents = d.extents := rfl
@[simp] theorem Dev.addMod_rules (d : Dev) (f : Fld) (n : Nat) : (d.addMod f n).rules = d.rules := rfl
@[simp] theorem Dev.addMod_cwins (d : Dev) (f : Fld) (n : Nat) : (d.addMod f n).cwins = d.cwins := rfl
@[simp] theorem Dev.addMod_winchg (d : Dev) (f : Fld) (n : Nat) : (d.addMod f n).winchg = d.winchg := rfl
@[simp] theorem Dev.addMod_dlogs (d : Dev) (f : Fld) (n : Nat) : (d.addMod f n).dlogs = d.dlogs := rfl
@[simp] theorem Dev.addMod_msix (d : Dev) (f : Fld) (n : Nat) : (d.addMod f n).msix = d.msix := rfl
@[simp] theorem Dev.addMod_polices (d : Dev) (f : Fld) (n : Nat) : (d.addMod f n).polices = d.polices := rfl
@[simp] theorem Dev.addMod_classes (d : Dev) (f : Fld) (n : Nat) : (d.addMod f n).classes = d.classes := rfl
@[simp] theorem Dev.addMod_gcls (d : Dev) (f : Fld) (n : Nat) : (d.addMod f n).gcls = d.gcls := rfl
@[simp] theorem Dev.addMod_queues (d : Dev) (f : Fld) (n : Nat) : (d.addMod f n).queues = d.queues := rfl
@[simp] theorem Dev.addMod_xgrp (d : Dev) (f : Fld) (n : Nat) : (d.addMod f n).xgrp = d.xgrp := rfl
@[simp] theorem Dev.addMod_sdumps (d : Dev) (f : Fld) (n : Nat) : (d.addMod f n).sdumps = d.sdumps := rfl
@[simp] theorem Dev.addMod_ctrsels (d : Dev) (f : Fld) (n : Nat) : (d.addMod f n).ctrsels = d.ctrsels := rfl
@[simp] theorem Dev.addMod_ctrvals (d : Dev) (f : Fld) (n : Nat) : (d.addMod f n).ctrvals = d.ctrvals := rfl
@[simp] theorem Dev.addMod_qsamps (d : Dev) (f : Fld) (n : Nat) : (d.addMod f n).qsamps = d.qsamps := rfl
@[simp] theorem Dev.addMod_dirs (d : Dev) (f : Fld) (n : Nat) : (d.addMod f n).dirs = d.dirs := rfl
@[simp] theorem Dev.addMod_dfilt (d : Dev) (f : Fld) (n : Nat) : (d.addMod f n).dfilt = d.dfilt := rfl
@[simp] theorem Dev.addMod_prs (d : Dev) (f : Fld) (n : Nat) : (d.addMod f n).prs = d.prs := rfl
@[simp] theorem Dev.addMod_nor (d : Dev) (f : Fld) (n : Nat) : (d.addMod f n).nor = d.nor := rfl
@[simp] theorem Dev.addMod_mgmt (d : Dev) (f : Fld) (n : Nat) : (d.addMod f n).mgmt = d.mgmt := rfl
@[simp] theorem Dev.addMod_commit (d : Dev) (f : Fld) (n : Nat) : (d.addMod f n).commit = d.commit := rfl
@[simp] theorem Dev.addMod_tally (d : Dev) (f : Fld) (n : Nat) : (d.addMod f n).tally = d.tally := rfl
@[simp] theorem Dev.addMod_sched (d : Dev) (f : Fld) (n : Nat) : (d.addMod f n).sched = d.sched := rfl
@[simp] theorem Dev.addMod_skid (d : Dev) (f : Fld) (n : Nat) : (d.addMod f n).skid = d.skid := rfl
@[simp] theorem Dev.addMod_xep (d : Dev) (f : Fld) (n : Nat) : (d.addMod f n).xep = d.xep := rfl
@[simp] theorem Dev.addMod_ftr (d : Dev) (f : Fld) (n : Nat) : (d.addMod f n).ftr = d.ftr := rfl
@[simp] theorem Dev.addMod_pair (d : Dev) (f : Fld) (n : Nat) : (d.addMod f n).pair = d.pair := rfl
@[simp] theorem Dev.addMod_out (d : Dev) (f : Fld) (n : Nat) : (d.addMod f n).out = d.out := rfl
@[simp] theorem Dev.addMod_freeCtr (d : Dev) (f : Fld) (n : Nat) : (d.addMod f n).freeCtr = d.freeCtr := rfl

@[simp] theorem Dev.set64_flaws (d : Dev) (l h : Fld) (v : Nat) : (d.set64 l h v).flaws = d.flaws := rfl
@[simp] theorem Dev.set64_inj (d : Dev) (l h : Fld) (v : Nat) : (d.set64 l h v).inj = d.inj := rfl
@[simp] theorem Dev.set64_time (d : Dev) (l h : Fld) (v : Nat) : (d.set64 l h v).time = d.time := rfl
@[simp] theorem Dev.set64_noc (d : Dev) (l h : Fld) (v : Nat) : (d.set64 l h v).noc = d.noc := rfl
@[simp] theorem Dev.set64_dom (d : Dev) (l h : Fld) (v : Nat) : (d.set64 l h v).dom = d.dom := rfl
@[simp] theorem Dev.set64_clk (d : Dev) (l h : Fld) (v : Nat) : (d.set64 l h v).clk = d.clk := rfl
@[simp] theorem Dev.set64_pins (d : Dev) (l h : Fld) (v : Nat) : (d.set64 l h v).pins = d.pins := rfl
@[simp] theorem Dev.set64_port (d : Dev) (l h : Fld) (v : Nat) : (d.set64 l h v).port = d.port := rfl
@[simp] theorem Dev.set64_buf (d : Dev) (l h : Fld) (v : Nat) : (d.set64 l h v).buf = d.buf := rfl
@[simp] theorem Dev.set64_slot (d : Dev) (l h : Fld) (v : Nat) : (d.set64 l h v).slot = d.slot := rfl
@[simp] theorem Dev.set64_slices (d : Dev) (l h : Fld) (v : Nat) : (d.set64 l h v).slices = d.slices := rfl
@[simp] theorem Dev.set64_extents (d : Dev) (l h : Fld) (v : Nat) : (d.set64 l h v).extents = d.extents := rfl
@[simp] theorem Dev.set64_rules (d : Dev) (l h : Fld) (v : Nat) : (d.set64 l h v).rules = d.rules := rfl
@[simp] theorem Dev.set64_cwins (d : Dev) (l h : Fld) (v : Nat) : (d.set64 l h v).cwins = d.cwins := rfl
@[simp] theorem Dev.set64_winchg (d : Dev) (l h : Fld) (v : Nat) : (d.set64 l h v).winchg = d.winchg := rfl
@[simp] theorem Dev.set64_dlogs (d : Dev) (l h : Fld) (v : Nat) : (d.set64 l h v).dlogs = d.dlogs := rfl
@[simp] theorem Dev.set64_msix (d : Dev) (l h : Fld) (v : Nat) : (d.set64 l h v).msix = d.msix := rfl
@[simp] theorem Dev.set64_polices (d : Dev) (l h : Fld) (v : Nat) : (d.set64 l h v).polices = d.polices := rfl
@[simp] theorem Dev.set64_classes (d : Dev) (l h : Fld) (v : Nat) : (d.set64 l h v).classes = d.classes := rfl
@[simp] theorem Dev.set64_gcls (d : Dev) (l h : Fld) (v : Nat) : (d.set64 l h v).gcls = d.gcls := rfl
@[simp] theorem Dev.set64_queues (d : Dev) (l h : Fld) (v : Nat) : (d.set64 l h v).queues = d.queues := rfl
@[simp] theorem Dev.set64_xgrp (d : Dev) (l h : Fld) (v : Nat) : (d.set64 l h v).xgrp = d.xgrp := rfl
@[simp] theorem Dev.set64_sdumps (d : Dev) (l h : Fld) (v : Nat) : (d.set64 l h v).sdumps = d.sdumps := rfl
@[simp] theorem Dev.set64_ctrsels (d : Dev) (l h : Fld) (v : Nat) : (d.set64 l h v).ctrsels = d.ctrsels := rfl
@[simp] theorem Dev.set64_ctrvals (d : Dev) (l h : Fld) (v : Nat) : (d.set64 l h v).ctrvals = d.ctrvals := rfl
@[simp] theorem Dev.set64_qsamps (d : Dev) (l h : Fld) (v : Nat) : (d.set64 l h v).qsamps = d.qsamps := rfl
@[simp] theorem Dev.set64_dirs (d : Dev) (l h : Fld) (v : Nat) : (d.set64 l h v).dirs = d.dirs := rfl
@[simp] theorem Dev.set64_dfilt (d : Dev) (l h : Fld) (v : Nat) : (d.set64 l h v).dfilt = d.dfilt := rfl
@[simp] theorem Dev.set64_prs (d : Dev) (l h : Fld) (v : Nat) : (d.set64 l h v).prs = d.prs := rfl
@[simp] theorem Dev.set64_nor (d : Dev) (l h : Fld) (v : Nat) : (d.set64 l h v).nor = d.nor := rfl
@[simp] theorem Dev.set64_mgmt (d : Dev) (l h : Fld) (v : Nat) : (d.set64 l h v).mgmt = d.mgmt := rfl
@[simp] theorem Dev.set64_commit (d : Dev) (l h : Fld) (v : Nat) : (d.set64 l h v).commit = d.commit := rfl
@[simp] theorem Dev.set64_tally (d : Dev) (l h : Fld) (v : Nat) : (d.set64 l h v).tally = d.tally := rfl
@[simp] theorem Dev.set64_sched (d : Dev) (l h : Fld) (v : Nat) : (d.set64 l h v).sched = d.sched := rfl
@[simp] theorem Dev.set64_skid (d : Dev) (l h : Fld) (v : Nat) : (d.set64 l h v).skid = d.skid := rfl
@[simp] theorem Dev.set64_xep (d : Dev) (l h : Fld) (v : Nat) : (d.set64 l h v).xep = d.xep := rfl
@[simp] theorem Dev.set64_ftr (d : Dev) (l h : Fld) (v : Nat) : (d.set64 l h v).ftr = d.ftr := rfl
@[simp] theorem Dev.set64_pair (d : Dev) (l h : Fld) (v : Nat) : (d.set64 l h v).pair = d.pair := rfl
@[simp] theorem Dev.set64_out (d : Dev) (l h : Fld) (v : Nat) : (d.set64 l h v).out = d.out := rfl
@[simp] theorem Dev.set64_freeCtr (d : Dev) (l h : Fld) (v : Nat) : (d.set64 l h v).freeCtr = d.freeCtr := rfl

/-! ### What is sent -/

@[simp] theorem Dev.emit_regs (d : Dev) (c : Chan) (o : Op) (a : List Nat) : (d.emit c o a).regs = d.regs := rfl
@[simp] theorem Dev.emit_flaws (d : Dev) (c : Chan) (o : Op) (a : List Nat) : (d.emit c o a).flaws = d.flaws := rfl
@[simp] theorem Dev.emit_inj (d : Dev) (c : Chan) (o : Op) (a : List Nat) : (d.emit c o a).inj = d.inj := rfl
@[simp] theorem Dev.emit_time (d : Dev) (c : Chan) (o : Op) (a : List Nat) : (d.emit c o a).time = d.time := rfl
@[simp] theorem Dev.emit_noc (d : Dev) (c : Chan) (o : Op) (a : List Nat) : (d.emit c o a).noc = d.noc := rfl
@[simp] theorem Dev.emit_dom (d : Dev) (c : Chan) (o : Op) (a : List Nat) : (d.emit c o a).dom = d.dom := rfl
@[simp] theorem Dev.emit_clk (d : Dev) (c : Chan) (o : Op) (a : List Nat) : (d.emit c o a).clk = d.clk := rfl
@[simp] theorem Dev.emit_pins (d : Dev) (c : Chan) (o : Op) (a : List Nat) : (d.emit c o a).pins = d.pins := rfl
@[simp] theorem Dev.emit_port (d : Dev) (c : Chan) (o : Op) (a : List Nat) : (d.emit c o a).port = d.port := rfl
@[simp] theorem Dev.emit_buf (d : Dev) (c : Chan) (o : Op) (a : List Nat) : (d.emit c o a).buf = d.buf := rfl
@[simp] theorem Dev.emit_slot (d : Dev) (c : Chan) (o : Op) (a : List Nat) : (d.emit c o a).slot = d.slot := rfl
@[simp] theorem Dev.emit_slices (d : Dev) (c : Chan) (o : Op) (a : List Nat) : (d.emit c o a).slices = d.slices := rfl
@[simp] theorem Dev.emit_extents (d : Dev) (c : Chan) (o : Op) (a : List Nat) : (d.emit c o a).extents = d.extents := rfl
@[simp] theorem Dev.emit_rules (d : Dev) (c : Chan) (o : Op) (a : List Nat) : (d.emit c o a).rules = d.rules := rfl
@[simp] theorem Dev.emit_cwins (d : Dev) (c : Chan) (o : Op) (a : List Nat) : (d.emit c o a).cwins = d.cwins := rfl
@[simp] theorem Dev.emit_winchg (d : Dev) (c : Chan) (o : Op) (a : List Nat) : (d.emit c o a).winchg = d.winchg := rfl
@[simp] theorem Dev.emit_dlogs (d : Dev) (c : Chan) (o : Op) (a : List Nat) : (d.emit c o a).dlogs = d.dlogs := rfl
@[simp] theorem Dev.emit_msix (d : Dev) (c : Chan) (o : Op) (a : List Nat) : (d.emit c o a).msix = d.msix := rfl
@[simp] theorem Dev.emit_polices (d : Dev) (c : Chan) (o : Op) (a : List Nat) : (d.emit c o a).polices = d.polices := rfl
@[simp] theorem Dev.emit_classes (d : Dev) (c : Chan) (o : Op) (a : List Nat) : (d.emit c o a).classes = d.classes := rfl
@[simp] theorem Dev.emit_gcls (d : Dev) (c : Chan) (o : Op) (a : List Nat) : (d.emit c o a).gcls = d.gcls := rfl
@[simp] theorem Dev.emit_queues (d : Dev) (c : Chan) (o : Op) (a : List Nat) : (d.emit c o a).queues = d.queues := rfl
@[simp] theorem Dev.emit_xgrp (d : Dev) (c : Chan) (o : Op) (a : List Nat) : (d.emit c o a).xgrp = d.xgrp := rfl
@[simp] theorem Dev.emit_sdumps (d : Dev) (c : Chan) (o : Op) (a : List Nat) : (d.emit c o a).sdumps = d.sdumps := rfl
@[simp] theorem Dev.emit_ctrsels (d : Dev) (c : Chan) (o : Op) (a : List Nat) : (d.emit c o a).ctrsels = d.ctrsels := rfl
@[simp] theorem Dev.emit_ctrvals (d : Dev) (c : Chan) (o : Op) (a : List Nat) : (d.emit c o a).ctrvals = d.ctrvals := rfl
@[simp] theorem Dev.emit_qsamps (d : Dev) (c : Chan) (o : Op) (a : List Nat) : (d.emit c o a).qsamps = d.qsamps := rfl
@[simp] theorem Dev.emit_dirs (d : Dev) (c : Chan) (o : Op) (a : List Nat) : (d.emit c o a).dirs = d.dirs := rfl
@[simp] theorem Dev.emit_dfilt (d : Dev) (c : Chan) (o : Op) (a : List Nat) : (d.emit c o a).dfilt = d.dfilt := rfl
@[simp] theorem Dev.emit_prs (d : Dev) (c : Chan) (o : Op) (a : List Nat) : (d.emit c o a).prs = d.prs := rfl
@[simp] theorem Dev.emit_nor (d : Dev) (c : Chan) (o : Op) (a : List Nat) : (d.emit c o a).nor = d.nor := rfl
@[simp] theorem Dev.emit_mgmt (d : Dev) (c : Chan) (o : Op) (a : List Nat) : (d.emit c o a).mgmt = d.mgmt := rfl
@[simp] theorem Dev.emit_commit (d : Dev) (c : Chan) (o : Op) (a : List Nat) : (d.emit c o a).commit = d.commit := rfl
@[simp] theorem Dev.emit_tally (d : Dev) (c : Chan) (o : Op) (a : List Nat) : (d.emit c o a).tally = d.tally := rfl
@[simp] theorem Dev.emit_sched (d : Dev) (c : Chan) (o : Op) (a : List Nat) : (d.emit c o a).sched = d.sched := rfl
@[simp] theorem Dev.emit_skid (d : Dev) (c : Chan) (o : Op) (a : List Nat) : (d.emit c o a).skid = d.skid := rfl
@[simp] theorem Dev.emit_xep (d : Dev) (c : Chan) (o : Op) (a : List Nat) : (d.emit c o a).xep = d.xep := rfl
@[simp] theorem Dev.emit_ftr (d : Dev) (c : Chan) (o : Op) (a : List Nat) : (d.emit c o a).ftr = d.ftr := rfl
@[simp] theorem Dev.emit_pair (d : Dev) (c : Chan) (o : Op) (a : List Nat) : (d.emit c o a).pair = d.pair := rfl
@[simp] theorem Dev.emit_freeCtr (d : Dev) (c : Chan) (o : Op) (a : List Nat) : (d.emit c o a).freeCtr = d.freeCtr := rfl


/-! ### What holds of every command -/

/-- Where no register's parity is wrong before the command, none is found wrong as it is updated. -/
theorem finish_sound {a : Dev} (h : a.flaws = []) (d : Dev) : finish a d = inject a d := by simp [finish, found, h]

@[simp] theorem inject_regs (a d : Dev) : (inject a d).regs = d.regs := rfl
@[simp] theorem inject_time (a d : Dev) : (inject a d).time = d.time := rfl
@[simp] theorem inject_noc (a d : Dev) : (inject a d).noc = d.noc := rfl
@[simp] theorem inject_dom (a d : Dev) : (inject a d).dom = d.dom := rfl
@[simp] theorem inject_clk (a d : Dev) : (inject a d).clk = d.clk := rfl
@[simp] theorem inject_pins (a d : Dev) : (inject a d).pins = d.pins := rfl
@[simp] theorem inject_port (a d : Dev) : (inject a d).port = d.port := rfl
@[simp] theorem inject_buf (a d : Dev) : (inject a d).buf = d.buf := rfl
@[simp] theorem inject_slot (a d : Dev) : (inject a d).slot = d.slot := rfl
@[simp] theorem inject_slices (a d : Dev) : (inject a d).slices = d.slices := rfl
@[simp] theorem inject_extents (a d : Dev) : (inject a d).extents = d.extents := rfl
@[simp] theorem inject_rules (a d : Dev) : (inject a d).rules = d.rules := rfl
@[simp] theorem inject_cwins (a d : Dev) : (inject a d).cwins = d.cwins := rfl
@[simp] theorem inject_winchg (a d : Dev) : (inject a d).winchg = d.winchg := rfl
@[simp] theorem inject_dlogs (a d : Dev) : (inject a d).dlogs = d.dlogs := rfl
@[simp] theorem inject_msix (a d : Dev) : (inject a d).msix = d.msix := rfl
@[simp] theorem inject_polices (a d : Dev) : (inject a d).polices = d.polices := rfl
@[simp] theorem inject_classes (a d : Dev) : (inject a d).classes = d.classes := rfl
@[simp] theorem inject_gcls (a d : Dev) : (inject a d).gcls = d.gcls := rfl
@[simp] theorem inject_queues (a d : Dev) : (inject a d).queues = d.queues := rfl
@[simp] theorem inject_xgrp (a d : Dev) : (inject a d).xgrp = d.xgrp := rfl
@[simp] theorem inject_sdumps (a d : Dev) : (inject a d).sdumps = d.sdumps := rfl
@[simp] theorem inject_ctrsels (a d : Dev) : (inject a d).ctrsels = d.ctrsels := rfl
@[simp] theorem inject_ctrvals (a d : Dev) : (inject a d).ctrvals = d.ctrvals := rfl
@[simp] theorem inject_qsamps (a d : Dev) : (inject a d).qsamps = d.qsamps := rfl
@[simp] theorem inject_dirs (a d : Dev) : (inject a d).dirs = d.dirs := rfl
@[simp] theorem inject_dfilt (a d : Dev) : (inject a d).dfilt = d.dfilt := rfl
@[simp] theorem inject_prs (a d : Dev) : (inject a d).prs = d.prs := rfl
@[simp] theorem inject_nor (a d : Dev) : (inject a d).nor = d.nor := rfl
@[simp] theorem inject_mgmt (a d : Dev) : (inject a d).mgmt = d.mgmt := rfl
@[simp] theorem inject_commit (a d : Dev) : (inject a d).commit = d.commit := rfl
@[simp] theorem inject_tally (a d : Dev) : (inject a d).tally = d.tally := rfl
@[simp] theorem inject_sched (a d : Dev) : (inject a d).sched = d.sched := rfl
@[simp] theorem inject_skid (a d : Dev) : (inject a d).skid = d.skid := rfl
@[simp] theorem inject_xep (a d : Dev) : (inject a d).xep = d.xep := rfl
@[simp] theorem inject_ftr (a d : Dev) : (inject a d).ftr = d.ftr := rfl
@[simp] theorem inject_pair (a d : Dev) : (inject a d).pair = d.pair := rfl
@[simp] theorem inject_out (a d : Dev) : (inject a d).out = d.out := rfl
@[simp] theorem inject_freeCtr (a d : Dev) : (inject a d).freeCtr = d.freeCtr := rfl

/-! ### A status bit -/

/-- A status bit's rule touches registers alone. -/
theorem Dev.raise_regs_only (d : Dev) (S : Sts) (b : Nat) : d.raise S b = { d with regs := (d.raise S b).regs } := by
  unfold Dev.raise
  split
  · rfl
  · dsimp only
    split
    · rfl
    · split <;> rfl

@[simp] theorem Dev.raise_flaws (d : Dev) (S : Sts) (b : Nat) : (d.raise S b).flaws = d.flaws := (congrArg Dev.flaws (Dev.raise_regs_only d S b)).trans rfl
@[simp] theorem Dev.raise_inj (d : Dev) (S : Sts) (b : Nat) : (d.raise S b).inj = d.inj := (congrArg Dev.inj (Dev.raise_regs_only d S b)).trans rfl
@[simp] theorem Dev.raise_time (d : Dev) (S : Sts) (b : Nat) : (d.raise S b).time = d.time := (congrArg Dev.time (Dev.raise_regs_only d S b)).trans rfl
@[simp] theorem Dev.raise_noc (d : Dev) (S : Sts) (b : Nat) : (d.raise S b).noc = d.noc := (congrArg Dev.noc (Dev.raise_regs_only d S b)).trans rfl
@[simp] theorem Dev.raise_dom (d : Dev) (S : Sts) (b : Nat) : (d.raise S b).dom = d.dom := (congrArg Dev.dom (Dev.raise_regs_only d S b)).trans rfl
@[simp] theorem Dev.raise_clk (d : Dev) (S : Sts) (b : Nat) : (d.raise S b).clk = d.clk := (congrArg Dev.clk (Dev.raise_regs_only d S b)).trans rfl
@[simp] theorem Dev.raise_pins (d : Dev) (S : Sts) (b : Nat) : (d.raise S b).pins = d.pins := (congrArg Dev.pins (Dev.raise_regs_only d S b)).trans rfl
@[simp] theorem Dev.raise_port (d : Dev) (S : Sts) (b : Nat) : (d.raise S b).port = d.port := (congrArg Dev.port (Dev.raise_regs_only d S b)).trans rfl
@[simp] theorem Dev.raise_buf (d : Dev) (S : Sts) (b : Nat) : (d.raise S b).buf = d.buf := (congrArg Dev.buf (Dev.raise_regs_only d S b)).trans rfl
@[simp] theorem Dev.raise_slot (d : Dev) (S : Sts) (b : Nat) : (d.raise S b).slot = d.slot := (congrArg Dev.slot (Dev.raise_regs_only d S b)).trans rfl
@[simp] theorem Dev.raise_slices (d : Dev) (S : Sts) (b : Nat) : (d.raise S b).slices = d.slices := (congrArg Dev.slices (Dev.raise_regs_only d S b)).trans rfl
@[simp] theorem Dev.raise_extents (d : Dev) (S : Sts) (b : Nat) : (d.raise S b).extents = d.extents := (congrArg Dev.extents (Dev.raise_regs_only d S b)).trans rfl
@[simp] theorem Dev.raise_rules (d : Dev) (S : Sts) (b : Nat) : (d.raise S b).rules = d.rules := (congrArg Dev.rules (Dev.raise_regs_only d S b)).trans rfl
@[simp] theorem Dev.raise_cwins (d : Dev) (S : Sts) (b : Nat) : (d.raise S b).cwins = d.cwins := (congrArg Dev.cwins (Dev.raise_regs_only d S b)).trans rfl
@[simp] theorem Dev.raise_winchg (d : Dev) (S : Sts) (b : Nat) : (d.raise S b).winchg = d.winchg := (congrArg Dev.winchg (Dev.raise_regs_only d S b)).trans rfl
@[simp] theorem Dev.raise_dlogs (d : Dev) (S : Sts) (b : Nat) : (d.raise S b).dlogs = d.dlogs := (congrArg Dev.dlogs (Dev.raise_regs_only d S b)).trans rfl
@[simp] theorem Dev.raise_msix (d : Dev) (S : Sts) (b : Nat) : (d.raise S b).msix = d.msix := (congrArg Dev.msix (Dev.raise_regs_only d S b)).trans rfl
@[simp] theorem Dev.raise_polices (d : Dev) (S : Sts) (b : Nat) : (d.raise S b).polices = d.polices := (congrArg Dev.polices (Dev.raise_regs_only d S b)).trans rfl
@[simp] theorem Dev.raise_classes (d : Dev) (S : Sts) (b : Nat) : (d.raise S b).classes = d.classes := (congrArg Dev.classes (Dev.raise_regs_only d S b)).trans rfl
@[simp] theorem Dev.raise_gcls (d : Dev) (S : Sts) (b : Nat) : (d.raise S b).gcls = d.gcls := (congrArg Dev.gcls (Dev.raise_regs_only d S b)).trans rfl
@[simp] theorem Dev.raise_queues (d : Dev) (S : Sts) (b : Nat) : (d.raise S b).queues = d.queues := (congrArg Dev.queues (Dev.raise_regs_only d S b)).trans rfl
@[simp] theorem Dev.raise_xgrp (d : Dev) (S : Sts) (b : Nat) : (d.raise S b).xgrp = d.xgrp := (congrArg Dev.xgrp (Dev.raise_regs_only d S b)).trans rfl
@[simp] theorem Dev.raise_sdumps (d : Dev) (S : Sts) (b : Nat) : (d.raise S b).sdumps = d.sdumps := (congrArg Dev.sdumps (Dev.raise_regs_only d S b)).trans rfl
@[simp] theorem Dev.raise_ctrsels (d : Dev) (S : Sts) (b : Nat) : (d.raise S b).ctrsels = d.ctrsels := (congrArg Dev.ctrsels (Dev.raise_regs_only d S b)).trans rfl
@[simp] theorem Dev.raise_ctrvals (d : Dev) (S : Sts) (b : Nat) : (d.raise S b).ctrvals = d.ctrvals := (congrArg Dev.ctrvals (Dev.raise_regs_only d S b)).trans rfl
@[simp] theorem Dev.raise_qsamps (d : Dev) (S : Sts) (b : Nat) : (d.raise S b).qsamps = d.qsamps := (congrArg Dev.qsamps (Dev.raise_regs_only d S b)).trans rfl
@[simp] theorem Dev.raise_dirs (d : Dev) (S : Sts) (b : Nat) : (d.raise S b).dirs = d.dirs := (congrArg Dev.dirs (Dev.raise_regs_only d S b)).trans rfl
@[simp] theorem Dev.raise_dfilt (d : Dev) (S : Sts) (b : Nat) : (d.raise S b).dfilt = d.dfilt := (congrArg Dev.dfilt (Dev.raise_regs_only d S b)).trans rfl
@[simp] theorem Dev.raise_prs (d : Dev) (S : Sts) (b : Nat) : (d.raise S b).prs = d.prs := (congrArg Dev.prs (Dev.raise_regs_only d S b)).trans rfl
@[simp] theorem Dev.raise_nor (d : Dev) (S : Sts) (b : Nat) : (d.raise S b).nor = d.nor := (congrArg Dev.nor (Dev.raise_regs_only d S b)).trans rfl
@[simp] theorem Dev.raise_mgmt (d : Dev) (S : Sts) (b : Nat) : (d.raise S b).mgmt = d.mgmt := (congrArg Dev.mgmt (Dev.raise_regs_only d S b)).trans rfl
@[simp] theorem Dev.raise_commit (d : Dev) (S : Sts) (b : Nat) : (d.raise S b).commit = d.commit := (congrArg Dev.commit (Dev.raise_regs_only d S b)).trans rfl
@[simp] theorem Dev.raise_tally (d : Dev) (S : Sts) (b : Nat) : (d.raise S b).tally = d.tally := (congrArg Dev.tally (Dev.raise_regs_only d S b)).trans rfl
@[simp] theorem Dev.raise_sched (d : Dev) (S : Sts) (b : Nat) : (d.raise S b).sched = d.sched := (congrArg Dev.sched (Dev.raise_regs_only d S b)).trans rfl
@[simp] theorem Dev.raise_skid (d : Dev) (S : Sts) (b : Nat) : (d.raise S b).skid = d.skid := (congrArg Dev.skid (Dev.raise_regs_only d S b)).trans rfl
@[simp] theorem Dev.raise_xep (d : Dev) (S : Sts) (b : Nat) : (d.raise S b).xep = d.xep := (congrArg Dev.xep (Dev.raise_regs_only d S b)).trans rfl
@[simp] theorem Dev.raise_ftr (d : Dev) (S : Sts) (b : Nat) : (d.raise S b).ftr = d.ftr := (congrArg Dev.ftr (Dev.raise_regs_only d S b)).trans rfl
@[simp] theorem Dev.raise_pair (d : Dev) (S : Sts) (b : Nat) : (d.raise S b).pair = d.pair := (congrArg Dev.pair (Dev.raise_regs_only d S b)).trans rfl
@[simp] theorem Dev.raise_out (d : Dev) (S : Sts) (b : Nat) : (d.raise S b).out = d.out := (congrArg Dev.out (Dev.raise_regs_only d S b)).trans rfl
@[simp] theorem Dev.raise_freeCtr (d : Dev) (S : Sts) (b : Nat) : (d.raise S b).freeCtr = d.freeCtr := (congrArg Dev.freeCtr (Dev.raise_regs_only d S b)).trans rfl

@[simp] theorem Dev.lower_flaws (d : Dev) (S : Sts) (b : Nat) : (d.lower S b).flaws = d.flaws := rfl
@[simp] theorem Dev.lower_inj (d : Dev) (S : Sts) (b : Nat) : (d.lower S b).inj = d.inj := rfl
@[simp] theorem Dev.lower_time (d : Dev) (S : Sts) (b : Nat) : (d.lower S b).time = d.time := rfl
@[simp] theorem Dev.lower_noc (d : Dev) (S : Sts) (b : Nat) : (d.lower S b).noc = d.noc := rfl
@[simp] theorem Dev.lower_dom (d : Dev) (S : Sts) (b : Nat) : (d.lower S b).dom = d.dom := rfl
@[simp] theorem Dev.lower_clk (d : Dev) (S : Sts) (b : Nat) : (d.lower S b).clk = d.clk := rfl
@[simp] theorem Dev.lower_pins (d : Dev) (S : Sts) (b : Nat) : (d.lower S b).pins = d.pins := rfl
@[simp] theorem Dev.lower_port (d : Dev) (S : Sts) (b : Nat) : (d.lower S b).port = d.port := rfl
@[simp] theorem Dev.lower_buf (d : Dev) (S : Sts) (b : Nat) : (d.lower S b).buf = d.buf := rfl
@[simp] theorem Dev.lower_slot (d : Dev) (S : Sts) (b : Nat) : (d.lower S b).slot = d.slot := rfl
@[simp] theorem Dev.lower_slices (d : Dev) (S : Sts) (b : Nat) : (d.lower S b).slices = d.slices := rfl
@[simp] theorem Dev.lower_extents (d : Dev) (S : Sts) (b : Nat) : (d.lower S b).extents = d.extents := rfl
@[simp] theorem Dev.lower_rules (d : Dev) (S : Sts) (b : Nat) : (d.lower S b).rules = d.rules := rfl
@[simp] theorem Dev.lower_cwins (d : Dev) (S : Sts) (b : Nat) : (d.lower S b).cwins = d.cwins := rfl
@[simp] theorem Dev.lower_winchg (d : Dev) (S : Sts) (b : Nat) : (d.lower S b).winchg = d.winchg := rfl
@[simp] theorem Dev.lower_dlogs (d : Dev) (S : Sts) (b : Nat) : (d.lower S b).dlogs = d.dlogs := rfl
@[simp] theorem Dev.lower_msix (d : Dev) (S : Sts) (b : Nat) : (d.lower S b).msix = d.msix := rfl
@[simp] theorem Dev.lower_polices (d : Dev) (S : Sts) (b : Nat) : (d.lower S b).polices = d.polices := rfl
@[simp] theorem Dev.lower_classes (d : Dev) (S : Sts) (b : Nat) : (d.lower S b).classes = d.classes := rfl
@[simp] theorem Dev.lower_gcls (d : Dev) (S : Sts) (b : Nat) : (d.lower S b).gcls = d.gcls := rfl
@[simp] theorem Dev.lower_queues (d : Dev) (S : Sts) (b : Nat) : (d.lower S b).queues = d.queues := rfl
@[simp] theorem Dev.lower_xgrp (d : Dev) (S : Sts) (b : Nat) : (d.lower S b).xgrp = d.xgrp := rfl
@[simp] theorem Dev.lower_sdumps (d : Dev) (S : Sts) (b : Nat) : (d.lower S b).sdumps = d.sdumps := rfl
@[simp] theorem Dev.lower_ctrsels (d : Dev) (S : Sts) (b : Nat) : (d.lower S b).ctrsels = d.ctrsels := rfl
@[simp] theorem Dev.lower_ctrvals (d : Dev) (S : Sts) (b : Nat) : (d.lower S b).ctrvals = d.ctrvals := rfl
@[simp] theorem Dev.lower_qsamps (d : Dev) (S : Sts) (b : Nat) : (d.lower S b).qsamps = d.qsamps := rfl
@[simp] theorem Dev.lower_dirs (d : Dev) (S : Sts) (b : Nat) : (d.lower S b).dirs = d.dirs := rfl
@[simp] theorem Dev.lower_dfilt (d : Dev) (S : Sts) (b : Nat) : (d.lower S b).dfilt = d.dfilt := rfl
@[simp] theorem Dev.lower_prs (d : Dev) (S : Sts) (b : Nat) : (d.lower S b).prs = d.prs := rfl
@[simp] theorem Dev.lower_nor (d : Dev) (S : Sts) (b : Nat) : (d.lower S b).nor = d.nor := rfl
@[simp] theorem Dev.lower_mgmt (d : Dev) (S : Sts) (b : Nat) : (d.lower S b).mgmt = d.mgmt := rfl
@[simp] theorem Dev.lower_commit (d : Dev) (S : Sts) (b : Nat) : (d.lower S b).commit = d.commit := rfl
@[simp] theorem Dev.lower_tally (d : Dev) (S : Sts) (b : Nat) : (d.lower S b).tally = d.tally := rfl
@[simp] theorem Dev.lower_sched (d : Dev) (S : Sts) (b : Nat) : (d.lower S b).sched = d.sched := rfl
@[simp] theorem Dev.lower_skid (d : Dev) (S : Sts) (b : Nat) : (d.lower S b).skid = d.skid := rfl
@[simp] theorem Dev.lower_xep (d : Dev) (S : Sts) (b : Nat) : (d.lower S b).xep = d.xep := rfl
@[simp] theorem Dev.lower_ftr (d : Dev) (S : Sts) (b : Nat) : (d.lower S b).ftr = d.ftr := rfl
@[simp] theorem Dev.lower_pair (d : Dev) (S : Sts) (b : Nat) : (d.lower S b).pair = d.pair := rfl
@[simp] theorem Dev.lower_out (d : Dev) (S : Sts) (b : Nat) : (d.lower S b).out = d.out := rfl
@[simp] theorem Dev.lower_freeCtr (d : Dev) (S : Sts) (b : Nat) : (d.lower S b).freeCtr = d.freeCtr := rfl

end Sys2Proof.Machine
end

