-- ==== Sys2Proof/Laws/Regs.lean ====
section
/-! SUPPORT. Tables and register fields: what is read after a write (GET and SET), and that every table operation keeps the canonical form. -/
namespace Sys2Proof.Machine

/-! ### Tables -/

theorem Tbl.get?_put_self {α : Type} (t : Tbl α) (k : Nat) (v : α) : Tbl.get? (Tbl.put t k v) k = some v := by
  induction t with
  | nil => simp [Tbl.put, Tbl.get?]
  | cons x r ih =>
    obtain ⟨a, w⟩ := x
    by_cases h : k = a
    · simp [Tbl.put, Tbl.get?, h]
    · by_cases h2 : k < a
      · simp [Tbl.put, Tbl.get?, h, h2]
      · have h3 : ¬ a = k := fun e => h e.symm
        simp [Tbl.put, Tbl.get?, h, h2, h3, ih]

theorem Tbl.get?_put_ne {α : Type} (t : Tbl α) {k j : Nat} (v : α) (h : k ≠ j) : Tbl.get? (Tbl.put t k v) j = Tbl.get? t j := by
  induction t with
  | nil => simp [Tbl.put, Tbl.get?, h]
  | cons x r ih =>
    obtain ⟨a, w⟩ := x
    by_cases h1 : k = a
    · subst h1
      simp [Tbl.put, Tbl.get?, h]
    · by_cases h2 : k < a
      · simp [Tbl.put, Tbl.get?, h1, h2, h]
      · simp only [Tbl.put, h1, h2, if_false, Tbl.get?, ih]

theorem Tbl.get?_erase_self {α : Type} (t : Tbl α) (k : Nat) : Tbl.get? (Tbl.erase t k) k = none := by
  induction t with
  | nil => rfl
  | cons x r ih =>
    obtain ⟨a, w⟩ := x
    by_cases h : a = k
    · simp only [Tbl.erase, h, if_true, ih]
    · simp only [Tbl.erase, h, if_false, Tbl.get?, ih]

theorem Tbl.get?_erase_ne {α : Type} (t : Tbl α) {k j : Nat} (h : k ≠ j) : Tbl.get? (Tbl.erase t k) j = Tbl.get? t j := by
  induction t with
  | nil => rfl
  | cons x r ih =>
    obtain ⟨a, w⟩ := x
    by_cases h1 : a = k
    · subst h1
      simp only [Tbl.erase, if_true, Tbl.get?, h, if_false, ih]
    · simp only [Tbl.erase, h1, if_false, Tbl.get?, ih]

/-- An entry reads back as it was written. -/
@[simp] theorem Tbl.get_set_self {α : Type} [DecidableEq α] (t : Tbl α) (d : α) (k : Nat) (v : α) : Tbl.get (Tbl.set t d k v) d k = v := by
  unfold Tbl.set Tbl.get
  split
  · simp [Tbl.get?_erase_self, *]
  · simp [Tbl.get?_put_self]

/-- Other entries stay. -/
theorem Tbl.get_set_ne {α : Type} [DecidableEq α] (t : Tbl α) (d e : α) {k j : Nat} (v : α) (h : k ≠ j) :
    Tbl.get (Tbl.set t d k v) e j = Tbl.get t e j := by
  unfold Tbl.set Tbl.get
  split
  · simp [Tbl.get?_erase_ne t h]
  · simp [Tbl.get?_put_ne t v h]

theorem Tbl.get_set {α : Type} [DecidableEq α] (t : Tbl α) (d : α) (k j : Nat) (v : α) :
    Tbl.get (Tbl.set t d k v) d j = if k = j then v else Tbl.get t d j := by
  split
  · subst_vars; exact Tbl.get_set_self t d _ v
  · exact Tbl.get_set_ne t d d v ‹_›

/-! ### The canonical form -/

theorem Tbl.risesFrom_mono {α : Type} {b c : Nat} (t : Tbl α) (h : c ≤ b) (hr : Tbl.risesFrom b t = true) : Tbl.risesFrom c t = true := by
  cases t with
  | nil => rfl
  | cons x r =>
    simp only [Tbl.risesFrom, Bool.and_eq_true, decide_eq_true_eq] at *
    exact ⟨by omega, hr.2⟩

theorem Tbl.risesFrom_put {α : Type} (t : Tbl α) (b k : Nat) (v : α) (hb : b ≤ k) (h : Tbl.risesFrom b t = true) :
    Tbl.risesFrom b (Tbl.put t k v) = true := by
  induction t generalizing b with
  | nil => simp [Tbl.put, Tbl.risesFrom, hb]
  | cons x r ih =>
    obtain ⟨a, w⟩ := x
    simp only [Tbl.risesFrom, Bool.and_eq_true, decide_eq_true_eq] at h
    by_cases h1 : k = a
    · subst h1; simp [Tbl.put, Tbl.risesFrom, hb, h.2]
    · by_cases h2 : k < a
      · simp [Tbl.put, Tbl.risesFrom, h1, h2, hb, h.2] <;> omega
      · simp only [Tbl.put, h1, h2, if_false, Tbl.risesFrom, Bool.and_eq_true, decide_eq_true_eq]
        exact ⟨h.1, ih (a + 1) (by omega) h.2⟩

theorem Tbl.risesFrom_erase {α : Type} (t : Tbl α) (b k : Nat) (h : Tbl.risesFrom b t = true) : Tbl.risesFrom b (Tbl.erase t k) = true := by
  induction t generalizing b with
  | nil => rfl
  | cons x r ih =>
    obtain ⟨a, w⟩ := x
    simp only [Tbl.risesFrom, Bool.and_eq_true, decide_eq_true_eq] at h
    by_cases h1 : a = k
    · simp only [Tbl.erase, h1, if_true]
      exact Tbl.risesFrom_mono _ (by omega) (ih (a + 1) h.2)
    · simp only [Tbl.erase, h1, if_false, Tbl.risesFrom, Bool.and_eq_true, decide_eq_true_eq]
      exact ⟨h.1, ih (a + 1) h.2⟩

theorem Tbl.all_put {α : Type} (t : Tbl α) (k : Nat) (v : α) (p : α → Bool) (hv : p v = true) (h : t.all (fun e => p e.2) = true) :
    (Tbl.put t k v).all (fun e => p e.2) = true := by
  induction t with
  | nil => simp [Tbl.put, hv]
  | cons x r ih =>
    obtain ⟨a, w⟩ := x
    simp only [List.all_cons, Bool.and_eq_true] at h
    by_cases h1 : k = a
    · simp [Tbl.put, h1, hv, h.2]
    · by_cases h2 : k < a
      · simp [Tbl.put, h1, h2, hv, h.1, h.2]
      · simp only [Tbl.put, h1, h2, if_false, List.all_cons, Bool.and_eq_true]
        exact ⟨h.1, ih h.2⟩

theorem Tbl.all_erase {α : Type} (t : Tbl α) (k : Nat) (p : α → Bool) (h : t.all (fun e => p e.2) = true) :
    (Tbl.erase t k).all (fun e => p e.2) = true := by
  induction t with
  | nil => rfl
  | cons x r ih =>
    obtain ⟨a, w⟩ := x
    simp only [List.all_cons, Bool.and_eq_true] at h
    by_cases h1 : a = k
    · simp only [Tbl.erase, h1, if_true]; exact ih h.2
    · simp only [Tbl.erase, h1, if_false, List.all_cons, Bool.and_eq_true]; exact ⟨h.1, ih h.2⟩

/-- A write keeps the canonical form. -/
theorem Tbl.wf_set {α : Type} [DecidableEq α] (t : Tbl α) (d : α) (k : Nat) (v : α) (h : Tbl.wf d t = true) : Tbl.wf d (Tbl.set t d k v) = true := by
  simp only [Tbl.wf, Bool.and_eq_true] at *
  unfold Tbl.set
  split
  · exact ⟨Tbl.risesFrom_erase t 0 k h.1, Tbl.all_erase t k (fun x => decide (x ≠ d)) h.2⟩
  · exact ⟨Tbl.risesFrom_put t 0 k v (Nat.zero_le k) h.1, Tbl.all_put t k v (fun x => decide (x ≠ d)) (by simpa using ‹_›) h.2⟩

theorem Tbl.wf_upd {α : Type} [DecidableEq α] (t : Tbl α) (d : α) (k : Nat) (f : α → α) (h : Tbl.wf d t = true) : Tbl.wf d (Tbl.upd t d k f) = true :=
  Tbl.wf_set t d k _ h

theorem Tbl.wf_foldl_set {α β : Type} [DecidableEq β] (l : Tbl α) (t : Tbl β) (d : β) (f : Nat → α → β) (h : Tbl.wf d t = true) :
    Tbl.wf d (l.foldl (fun r x => Tbl.set r d x.1 (f x.1 x.2)) t) = true := by
  induction l generalizing t with
  | nil => exact h
  | cons x r ih => exact ih _ (Tbl.wf_set t d x.1 _ h)

/-- A remapped table has the canonical form. -/
theorem Tbl.wf_remap {α β : Type} [DecidableEq β] (t : Tbl α) (d : β) (f : Nat → α → β) : Tbl.wf d (Tbl.remap t d f) = true :=
  Tbl.wf_foldl_set t [] d f rfl

/-! ### Fields -/

/-- A field reads back what was stored, cut to its width. -/
@[simp] theorem Dev.get_set (d : Dev) (f : Fld) (v : Nat) : (d.set f v).get f = v % 2 ^ f.w := by simp [Dev.get, Dev.set]

/-- Fields of other places stay. -/
theorem Dev.get_set_ne (d : Dev) (f g : Fld) (v : Nat) (h : f.key ≠ g.key) : (d.set f v).get g = d.get g := by
  simp [Dev.get, Dev.set, Tbl.get_set_ne _ _ _ _ h]

theorem Dev.get_on_ne (d : Dev) (f g : Fld) (h : f.key ≠ g.key) : (d.on f).get g = d.get g := Dev.get_set_ne d f g 1 h
theorem Dev.get_off_ne (d : Dev) (f g : Fld) (h : f.key ≠ g.key) : (d.off f).get g = d.get g := Dev.get_set_ne d f g 0 h
theorem Dev.get_put_ne (d : Dev) (f g : Fld) (b : Bool) (h : f.key ≠ g.key) : (d.put f b).get g = d.get g := Dev.get_set_ne d f g _ h
theorem Dev.get_addSat_ne (d : Dev) (f g : Fld) (n : Nat) (h : f.key ≠ g.key) : (d.addSat f n).get g = d.get g := Dev.get_set_ne d f g _ h
theorem Dev.get_addMod_ne (d : Dev) (f g : Fld) (n : Nat) (h : f.key ≠ g.key) : (d.addMod f n).get g = d.get g := Dev.get_set_ne d f g _ h
theorem Dev.get_set64_ne (d : Dev) (l u g : Fld) (v : Nat) (h : l.key ≠ g.key) (h2 : u.key ≠ g.key) : (d.set64 l u v).get g = d.get g := by
  rw [Dev.set64, Dev.get_set_ne _ _ _ _ h2, Dev.get_set_ne _ _ _ _ h]

/-- What is read depends on the registers alone. -/
theorem Dev.get_congr {d e : Dev} (f : Fld) (h : d.regs = e.regs) : d.get f = e.get f := by simp [Dev.get, h]
theorem Dev.is_congr {d e : Dev} (f : Fld) (h : d.regs = e.regs) : d.is f = e.is f := by simp [Dev.is, Dev.get, h]

@[simp] theorem Dev.get_emit (d : Dev) (c : Chan) (o : Op) (a : List Nat) (f : Fld) : (d.emit c o a).get f = d.get f := rfl
@[simp] theorem Dev.is_emit (d : Dev) (c : Chan) (o : Op) (a : List Nat) (f : Fld) : (d.emit c o a).is f = d.is f := rfl
@[simp] theorem Dev.get_inject (a d : Dev) (f : Fld) : (inject a d).get f = d.get f := rfl
@[simp] theorem Dev.is_inject (a d : Dev) (f : Fld) : (inject a d).is f = d.is f := rfl

/-- A one-bit field that has been set reads 1. -/
@[simp] theorem Dev.get_on (d : Dev) (f : Fld) : (d.on f).get f = 1 % 2 ^ f.w := Dev.get_set d f 1
@[simp] theorem Dev.get_off (d : Dev) (f : Fld) : (d.off f).get f = 0 := by simp [Dev.off]

/-! ### Status bits -/

/-- A raised bit is set. -/
theorem Dev.raise_is (d : Dev) (S : Sts) (b : Nat) (hf : S.first ≠ b) (ho : S.ovf ≠ b) : (d.raise S b).is (S.bit b) = true := by
  have k1 : S.firstF.key ≠ (S.bit b).key := by simp only [Sts.firstF, Sts.bit, Fld.mk3]; omega
  have k2 : (S.bit S.ovf).key ≠ (S.bit b).key := by simp only [Sts.bit, Fld.mk3]; omega
  have on1 : (d.on (S.bit b)).is (S.bit b) = true := by simp [Dev.is, Sts.bit, Fld.mk3]
  unfold Dev.raise
  split
  · assumption
  · dsimp only
    split
    · exact on1
    · split
      · simpa [Dev.is, Dev.get_set_ne _ _ _ _ k1] using on1
      · simpa [Dev.is, Dev.get_on_ne _ _ _ k2] using on1

/-- Raising a bit leaves every register but its status register alone. -/
theorem Dev.raise_get_ne (d : Dev) (S : Sts) (b : Nat) (g : Fld) (h1 : (S.bit b).key ≠ g.key) (h2 : S.firstF.key ≠ g.key)
    (h3 : (S.bit S.ovf).key ≠ g.key) : (d.raise S b).get g = d.get g := by
  unfold Dev.raise
  split
  · rfl
  · dsimp only
    split
    · exact Dev.get_on_ne _ _ _ h1
    · split
      · rw [Dev.get_set_ne _ _ _ _ h2, Dev.get_on_ne _ _ _ h1]
      · rw [Dev.get_on_ne _ _ _ h3, Dev.get_on_ne _ _ _ h1]

/-! ### The frame of a command -/

theorem core_next (s : State) (f : Dev → Dev) (h : s.dev.heldReset = false) (hf : s.dev.flaws = []) :
    core s f = .next { s with dev := inject s.dev (f s.dev) } := by
  simp [core, h, finish_sound hf]

theorem core_held (s : State) (f : Dev → Dev) (h : s.dev.heldReset = true) : core s f = .next s := by simp [core, h]

theorem aon_next (s : State) (f : Dev → Dev) (hf : s.dev.flaws = []) : aon s f = .next { s with dev := inject s.dev (f s.dev) } := by
  simp [aon, finish_sound hf]

theorem bar_next (s : State) (f : Dev → Dev) (h : s.dev.heldReset = false) (hf : s.dev.flaws = []) (h7 : s.dev.get R.PRS.STATE.SEQ < 7) :
    bar s f = .next { s with dev := inject s.dev (f s.dev) } := by
  have : ¬ 7 ≤ s.dev.get R.PRS.STATE.SEQ := by omega
  simp [bar, core_next _ _ h hf, this]

theorem catBar_next (s : State) (f : Dev → Dev) (h : s.dev.heldReset = false) (hf : s.dev.flaws = []) (h1 : s.dev.saving = false) :
    catBar s f = .next { s with dev := inject s.dev (f s.dev) } := by
  simp [catBar, core_next _ _ h hf, h1]

/-- Every frame gives a next state with the queue as it was. -/
theorem core_pending (s : State) (f : Dev → Dev) : ∃ t, core s f = .next t ∧ t.pending = s.pending := ⟨_, rfl, rfl⟩
theorem aon_pending (s : State) (f : Dev → Dev) : ∃ t, aon s f = .next t ∧ t.pending = s.pending := ⟨_, rfl, rfl⟩

end Sys2Proof.Machine
end

