-- ==== Sys2Proof/Laws/Frame.lean ====
section
/-! SUPPORT. Frames: that each update of the state keeps everything but what it names, and how they compose. -/
namespace Sys2Proof.Machine

theorem Keeps.refl (F : Fld → Prop) (ps : List Part) (a : Dev) : Keeps F ps a a := ⟨fun _ _ => rfl, rfl⟩

theorem Keeps.trans {F : Fld → Prop} {ps : List Part} {a b c : Dev} (h : Keeps F ps a b) (k : Keeps F ps b c) : Keeps F ps a c :=
  ⟨fun g hg => (k.1 g hg).trans (h.1 g hg), k.2.trans h.2⟩

/-- A stored field is all that changes. -/
theorem Keeps.set {F : Fld → Prop} {ps : List Part} {a d : Dev} (f : Fld) (v : Nat) (h : Keeps F ps a d) (hf : F f) : Keeps F ps a (d.set f v) :=
  ⟨fun g hg => (Dev.get_set_ne d f g v (hg f hf)).trans (h.1 g hg), h.2⟩

theorem Keeps.on {F : Fld → Prop} {ps : List Part} {a d : Dev} (f : Fld) (h : Keeps F ps a d) (hf : F f) : Keeps F ps a (d.on f) := h.set f 1 hf
theorem Keeps.off {F : Fld → Prop} {ps : List Part} {a d : Dev} (f : Fld) (h : Keeps F ps a d) (hf : F f) : Keeps F ps a (d.off f) := h.set f 0 hf
theorem Keeps.put {F : Fld → Prop} {ps : List Part} {a d : Dev} (f : Fld) (b : Bool) (h : Keeps F ps a d) (hf : F f) : Keeps F ps a (d.put f b) := h.set f _ hf
theorem Keeps.addSat {F : Fld → Prop} {ps : List Part} {a d : Dev} (f : Fld) (n : Nat) (h : Keeps F ps a d) (hf : F f) : Keeps F ps a (d.addSat f n) := h.set f _ hf
theorem Keeps.addMod {F : Fld → Prop} {ps : List Part} {a d : Dev} (f : Fld) (n : Nat) (h : Keeps F ps a d) (hf : F f) : Keeps F ps a (d.addMod f n) := h.set f _ hf

/-- Raising a bit changes its status register alone. -/
theorem Keeps.raise {F : Fld → Prop} {ps : List Part} {a d : Dev} (S : Sts) (b : Nat) (h : Keeps F ps a d) (hf : ∀ f ∈ S.fields b, F f) : Keeps F ps a (d.raise S b) := by
  have h1 : F (S.bit b) := hf _ (by simp [Sts.fields])
  have h2 : F S.firstF := hf _ (by simp [Sts.fields])
  have h3 : F (S.bit S.ovf) := hf _ (by simp [Sts.fields])
  unfold Dev.raise
  split
  · exact h
  · dsimp only
    split
    · exact h.on _ h1
    · split
      · exact (h.on _ h1).set _ _ h2
      · exact (h.on _ h1).on _ h3

/-- A step for each of a list keeps what one step keeps. -/
theorem Keeps.foldl {F : Fld → Prop} {ps : List Part} {a d : Dev} {α : Type} (l : List α) (f : Dev → α → Dev) (h : Keeps F ps a d)
    (hf : ∀ (e : Dev) (x : α), x ∈ l → Keeps F ps a e → Keeps F ps a (f e x)) : Keeps F ps a (l.foldl f d) := by
  induction l generalizing d with
  | nil => exact h
  | cons x r ih =>
    exact ih (hf d x List.mem_cons_self h) (fun e y hy => hf e y (List.mem_cons_of_mem x hy))

/-- A larger frame. -/
theorem Keeps.mono {F G : Fld → Prop} {ps qs : List Part} {a b : Dev} (h : Keeps F ps a b) (hF : ∀ f, F f → G f) (hp : ∀ p ∈ ps, p ∈ qs) :
    Keeps G qs a b := by
  refine ⟨fun g hg => h.1 g (fun f hf => hg f (hF f hf)), ?_⟩
  have e : ∀ d : Dev, Dev.blank qs (Dev.blank ps d) = Dev.blank qs d := by
    intro d
    simp only [Dev.blank, Dev.mk.injEq, true_and]
    repeat' apply And.intro
    all_goals (split; rfl; (have := ‹¬ _›; simp only [mt (hp _) this, if_false]))
  rw [← e b, ← e a, h.2]

/-- The frame of a command adds nothing. -/
theorem Keeps.inject {F : Fld → Prop} {ps : List Part} {a d : Dev} (x : Dev) (h : Keeps F ps a d) : Keeps F ps a (Machine.inject x d) := h

/-- What is sent goes to the part `out`. -/
theorem Keeps.emit {F : Fld → Prop} {ps : List Part} {a d : Dev} (c : Chan) (o : Op) (l : List Nat) (h : Keeps F ps a d) (hp : Part.out ∈ ps) : Keeps F ps a (d.emit c o l) :=
  ⟨h.1, by rw [← h.2]; simp [Dev.blank, Dev.emit, hp]⟩

/-- Injection state is outside every frame. -/
theorem Keeps.inj_upd {F : Fld → Prop} {ps : List Part} {a d : Dev} (t : Tbl InjCh) (h : Keeps F ps a d) : Keeps F ps a { d with inj := t } := h

/-! One lemma per part: a part that the frame names may be replaced. -/
theorem Keeps.time_upd {F : Fld → Prop} {ps : List Part} {a d : Dev} (x : Time) (h : Keeps F ps a d) (hp : Part.time ∈ ps) : Keeps F ps a { d with time := x } :=
  ⟨h.1, by rw [← h.2]; simp [Dev.blank, hp]⟩
theorem Keeps.noc_upd {F : Fld → Prop} {ps : List Part} {a d : Dev} (x : Noc) (h : Keeps F ps a d) (hp : Part.noc ∈ ps) : Keeps F ps a { d with noc := x } :=
  ⟨h.1, by rw [← h.2]; simp [Dev.blank, hp]⟩
theorem Keeps.dom_upd {F : Fld → Prop} {ps : List Part} {a d : Dev} (x : Tbl DomState) (h : Keeps F ps a d) (hp : Part.dom ∈ ps) : Keeps F ps a { d with dom := x } :=
  ⟨h.1, by rw [← h.2]; simp [Dev.blank, hp]⟩
theorem Keeps.clk_upd {F : Fld → Prop} {ps : List Part} {a d : Dev} (x : Clk) (h : Keeps F ps a d) (hp : Part.clk ∈ ps) : Keeps F ps a { d with clk := x } :=
  ⟨h.1, by rw [← h.2]; simp [Dev.blank, hp]⟩
theorem Keeps.pins_upd {F : Fld → Prop} {ps : List Part} {a d : Dev} (x : Pins) (h : Keeps F ps a d) (hp : Part.pins ∈ ps) : Keeps F ps a { d with pins := x } :=
  ⟨h.1, by rw [← h.2]; simp [Dev.blank, hp]⟩
theorem Keeps.port_upd {F : Fld → Prop} {ps : List Part} {a d : Dev} (x : Tbl PortRt) (h : Keeps F ps a d) (hp : Part.port ∈ ps) : Keeps F ps a { d with port := x } :=
  ⟨h.1, by rw [← h.2]; simp [Dev.blank, hp]⟩
theorem Keeps.buf_upd {F : Fld → Prop} {ps : List Part} {a d : Dev} (x : Buf) (h : Keeps F ps a d) (hp : Part.buf ∈ ps) : Keeps F ps a { d with buf := x } :=
  ⟨h.1, by rw [← h.2]; simp [Dev.blank, hp]⟩
theorem Keeps.slot_upd {F : Fld → Prop} {ps : List Part} {a d : Dev} (x : Tbl SlotRt) (h : Keeps F ps a d) (hp : Part.slot ∈ ps) : Keeps F ps a { d with slot := x } :=
  ⟨h.1, by rw [← h.2]; simp [Dev.blank, hp]⟩
theorem Keeps.slices_upd {F : Fld → Prop} {ps : List Part} {a d : Dev} (x : Tbl SliceE) (h : Keeps F ps a d) (hp : Part.slices ∈ ps) : Keeps F ps a { d with slices := x } :=
  ⟨h.1, by rw [← h.2]; simp [Dev.blank, hp]⟩
theorem Keeps.extents_upd {F : Fld → Prop} {ps : List Part} {a d : Dev} (x : Tbl ExtentE) (h : Keeps F ps a d) (hp : Part.extents ∈ ps) : Keeps F ps a { d with extents := x } :=
  ⟨h.1, by rw [← h.2]; simp [Dev.blank, hp]⟩
theorem Keeps.rules_upd {F : Fld → Prop} {ps : List Part} {a d : Dev} (x : Tbl RuleE) (h : Keeps F ps a d) (hp : Part.rules ∈ ps) : Keeps F ps a { d with rules := x } :=
  ⟨h.1, by rw [← h.2]; simp [Dev.blank, hp]⟩
theorem Keeps.cwins_upd {F : Fld → Prop} {ps : List Part} {a d : Dev} (x : Tbl CWinE) (h : Keeps F ps a d) (hp : Part.cwins ∈ ps) : Keeps F ps a { d with cwins := x } :=
  ⟨h.1, by rw [← h.2]; simp [Dev.blank, hp]⟩
theorem Keeps.winchg_upd {F : Fld → Prop} {ps : List Part} {a d : Dev} (x : Tbl WinChg) (h : Keeps F ps a d) (hp : Part.winchg ∈ ps) : Keeps F ps a { d with winchg := x } :=
  ⟨h.1, by rw [← h.2]; simp [Dev.blank, hp]⟩
theorem Keeps.dlogs_upd {F : Fld → Prop} {ps : List Part} {a d : Dev} (x : Tbl DlogE) (h : Keeps F ps a d) (hp : Part.dlogs ∈ ps) : Keeps F ps a { d with dlogs := x } :=
  ⟨h.1, by rw [← h.2]; simp [Dev.blank, hp]⟩
theorem Keeps.msix_upd {F : Fld → Prop} {ps : List Part} {a d : Dev} (x : Tbl MsixE) (h : Keeps F ps a d) (hp : Part.msix ∈ ps) : Keeps F ps a { d with msix := x } :=
  ⟨h.1, by rw [← h.2]; simp [Dev.blank, hp]⟩
theorem Keeps.polices_upd {F : Fld → Prop} {ps : List Part} {a d : Dev} (x : Tbl PoliceE) (h : Keeps F ps a d) (hp : Part.polices ∈ ps) : Keeps F ps a { d with polices := x } :=
  ⟨h.1, by rw [← h.2]; simp [Dev.blank, hp]⟩
theorem Keeps.classes_upd {F : Fld → Prop} {ps : List Part} {a d : Dev} (x : Tbl ClassE) (h : Keeps F ps a d) (hp : Part.classes ∈ ps) : Keeps F ps a { d with classes := x } :=
  ⟨h.1, by rw [← h.2]; simp [Dev.blank, hp]⟩
theorem Keeps.gcls_upd {F : Fld → Prop} {ps : List Part} {a d : Dev} (x : Tbl GclBank) (h : Keeps F ps a d) (hp : Part.gcls ∈ ps) : Keeps F ps a { d with gcls := x } :=
  ⟨h.1, by rw [← h.2]; simp [Dev.blank, hp]⟩
theorem Keeps.queues_upd {F : Fld → Prop} {ps : List Part} {a d : Dev} (x : Tbl QueueE) (h : Keeps F ps a d) (hp : Part.queues ∈ ps) : Keeps F ps a { d with queues := x } :=
  ⟨h.1, by rw [← h.2]; simp [Dev.blank, hp]⟩
theorem Keeps.xgrp_upd {F : Fld → Prop} {ps : List Part} {a d : Dev} (x : XgrpT) (h : Keeps F ps a d) (hp : Part.xgrp ∈ ps) : Keeps F ps a { d with xgrp := x } :=
  ⟨h.1, by rw [← h.2]; simp [Dev.blank, hp]⟩
theorem Keeps.sdumps_upd {F : Fld → Prop} {ps : List Part} {a d : Dev} (x : Tbl SdumpE) (h : Keeps F ps a d) (hp : Part.sdumps ∈ ps) : Keeps F ps a { d with sdumps := x } :=
  ⟨h.1, by rw [← h.2]; simp [Dev.blank, hp]⟩
theorem Keeps.ctrsels_upd {F : Fld → Prop} {ps : List Part} {a d : Dev} (x : Tbl CtrSelE) (h : Keeps F ps a d) (hp : Part.ctrsels ∈ ps) : Keeps F ps a { d with ctrsels := x } :=
  ⟨h.1, by rw [← h.2]; simp [Dev.blank, hp]⟩
theorem Keeps.ctrvals_upd {F : Fld → Prop} {ps : List Part} {a d : Dev} (x : Tbl Nat) (h : Keeps F ps a d) (hp : Part.ctrvals ∈ ps) : Keeps F ps a { d with ctrvals := x } :=
  ⟨h.1, by rw [← h.2]; simp [Dev.blank, hp]⟩
theorem Keeps.qsamps_upd {F : Fld → Prop} {ps : List Part} {a d : Dev} (x : Tbl QsampE) (h : Keeps F ps a d) (hp : Part.qsamps ∈ ps) : Keeps F ps a { d with qsamps := x } :=
  ⟨h.1, by rw [← h.2]; simp [Dev.blank, hp]⟩
theorem Keeps.dirs_upd {F : Fld → Prop} {ps : List Part} {a d : Dev} (x : Tbl DirRt) (h : Keeps F ps a d) (hp : Part.dirs ∈ ps) : Keeps F ps a { d with dirs := x } :=
  ⟨h.1, by rw [← h.2]; simp [Dev.blank, hp]⟩
theorem Keeps.dfilt_upd {F : Fld → Prop} {ps : List Part} {a d : Dev} (x : Tbl Nat) (h : Keeps F ps a d) (hp : Part.dfilt ∈ ps) : Keeps F ps a { d with dfilt := x } :=
  ⟨h.1, by rw [← h.2]; simp [Dev.blank, hp]⟩
theorem Keeps.prs_upd {F : Fld → Prop} {ps : List Part} {a d : Dev} (x : Prs) (h : Keeps F ps a d) (hp : Part.prs ∈ ps) : Keeps F ps a { d with prs := x } :=
  ⟨h.1, by rw [← h.2]; simp [Dev.blank, hp]⟩
theorem Keeps.nor_upd {F : Fld → Prop} {ps : List Part} {a d : Dev} (x : Nor) (h : Keeps F ps a d) (hp : Part.nor ∈ ps) : Keeps F ps a { d with nor := x } :=
  ⟨h.1, by rw [← h.2]; simp [Dev.blank, hp]⟩
theorem Keeps.mgmt_upd {F : Fld → Prop} {ps : List Part} {a d : Dev} (x : Mgmt) (h : Keeps F ps a d) (hp : Part.mgmt ∈ ps) : Keeps F ps a { d with mgmt := x } :=
  ⟨h.1, by rw [← h.2]; simp [Dev.blank, hp]⟩
theorem Keeps.commit_upd {F : Fld → Prop} {ps : List Part} {a d : Dev} (x : Commit) (h : Keeps F ps a d) (hp : Part.commit ∈ ps) : Keeps F ps a { d with commit := x } :=
  ⟨h.1, by rw [← h.2]; simp [Dev.blank, hp]⟩
theorem Keeps.tally_upd {F : Fld → Prop} {ps : List Part} {a d : Dev} (x : Tally) (h : Keeps F ps a d) (hp : Part.tally ∈ ps) : Keeps F ps a { d with tally := x } :=
  ⟨h.1, by rw [← h.2]; simp [Dev.blank, hp]⟩
theorem Keeps.sched_upd {F : Fld → Prop} {ps : List Part} {a d : Dev} (x : Sched) (h : Keeps F ps a d) (hp : Part.sched ∈ ps) : Keeps F ps a { d with sched := x } :=
  ⟨h.1, by rw [← h.2]; simp [Dev.blank, hp]⟩
theorem Keeps.skid_upd {F : Fld → Prop} {ps : List Part} {a d : Dev} (x : Skid) (h : Keeps F ps a d) (hp : Part.skid ∈ ps) : Keeps F ps a { d with skid := x } :=
  ⟨h.1, by rw [← h.2]; simp [Dev.blank, hp]⟩
theorem Keeps.xep_upd {F : Fld → Prop} {ps : List Part} {a d : Dev} (x : Tbl XepRt) (h : Keeps F ps a d) (hp : Part.xep ∈ ps) : Keeps F ps a { d with xep := x } :=
  ⟨h.1, by rw [← h.2]; simp [Dev.blank, hp]⟩
theorem Keeps.ftr_upd {F : Fld → Prop} {ps : List Part} {a d : Dev} (x : FtRt) (h : Keeps F ps a d) (hp : Part.ftr ∈ ps) : Keeps F ps a { d with ftr := x } :=
  ⟨h.1, by rw [← h.2]; simp [Dev.blank, hp]⟩
theorem Keeps.pair_upd {F : Fld → Prop} {ps : List Part} {a d : Dev} (x : PairRt) (h : Keeps F ps a d) (hp : Part.pair ∈ ps) : Keeps F ps a { d with pair := x } :=
  ⟨h.1, by rw [← h.2]; simp [Dev.blank, hp]⟩
theorem Keeps.out_upd {F : Fld → Prop} {ps : List Part} {a d : Dev} (x : List Emit) (h : Keeps F ps a d) (hp : Part.out ∈ ps) : Keeps F ps a { d with out := x } :=
  ⟨h.1, by rw [← h.2]; simp [Dev.blank, hp]⟩
theorem Keeps.freeCtr_upd {F : Fld → Prop} {ps : List Part} {a d : Dev} (x : Nat) (h : Keeps F ps a d) (hp : Part.freeCtr ∈ ps) : Keeps F ps a { d with freeCtr := x } :=
  ⟨h.1, by rw [← h.2]; simp [Dev.blank, hp]⟩

/-! ### The frame of a command as a claim -/

theorem Gives.core {c : Instr} {s : State} {f : Dev → Dev} {P : Dev → Prop} (h : exec c s = core s f) (l : s.live) (p : P (inject s.dev (f s.dev))) :
    Gives c s P := ⟨_, h.trans (core_next s f l.1 l.2), rfl, p⟩

theorem Gives.aon {c : Instr} {s : State} {f : Dev → Dev} {P : Dev → Prop} (h : exec c s = aon s f) (l : s.sound) (p : P (inject s.dev (f s.dev))) :
    Gives c s P := ⟨_, h.trans (aon_next s f l), rfl, p⟩

theorem Gives.bar {c : Instr} {s : State} {f : Dev → Dev} {P : Dev → Prop} (h : exec c s = bar s f) (l : s.live) (w : s.writable)
    (p : P (inject s.dev (f s.dev))) : Gives c s P := ⟨_, h.trans (bar_next s f l.1 l.2 w), rfl, p⟩

/-- Writes of configuration take effect outside a safe-state sequence. -/
theorem State.not_saving {s : State} (h : s.configurable) : s.dev.saving = false := by
  have h1 : s.dev.get R.PRS.STATE.SEQ ≤ 1 := h
  have : ¬ 2 ≤ s.dev.get R.PRS.STATE.SEQ := by omega
  simp [Dev.saving, this]

theorem Gives.catBar {c : Instr} {s : State} {f : Dev → Dev} {P : Dev → Prop} (h : exec c s = catBar s f) (l : s.live) (w : s.configurable)
    (p : P (inject s.dev (f s.dev))) : Gives c s P := ⟨_, h.trans (catBar_next s f l.1 l.2 (State.not_saving w)), rfl, p⟩

/-- Nothing waits for an expired port: nothing is disposed of. -/
theorem Dev.settle_id (d : Dev) (h : d.settled) : d.settle = d := by
  have h' : d.buf.msgs.filter d.overdue = [] := h
  simp only [Dev.settle, Dev.settleN, h']

/-- Which messages are overdue depends on the ports, their roles and the link groups alone. -/
theorem Dev.overdue_congr {d e : Dev} (hp : e.port = d.port) (hr : ∀ p, e.role p = d.role p) (hx : e.xep = d.xep) (hg : e.xgrp = d.xgrp) : e.overdue = d.overdue := by
  funext m
  simp only [Dev.overdue, Dev.lost, Dev.prt, Dev.otherLink, Dev.xl, hp, hr, hx, hg]
  rfl

/-- What is settled depends on the buffer, the ports, their roles and the link groups alone. -/
theorem Dev.settled_congr {d e : Dev} (hb : e.buf = d.buf) (hp : e.port = d.port) (hr : ∀ p, e.role p = d.role p) (hx : e.xep = d.xep) (hg : e.xgrp = d.xgrp)
    (h : d.settled) : e.settled := by
  show e.buf.msgs.filter e.overdue = []
  rw [hb, Dev.overdue_congr hp hr hx hg]
  exact h

/-- A change of registers other than a ROLE, and of parts that disposal does not read, leaves the device settled. -/
theorem Keeps.settled {F : Fld → Prop} {ps : List Part} {a d : Dev} (k : Keeps F ps a d) (hF : ∀ p f, F f → f.key ≠ (R.PU.CFG.ROLE p).key)
    (hp : Part.port ∉ ps) (hx : Part.xep ∉ ps) (hg : Part.xgrp ∉ ps) (hb : Part.buf ∉ ps) (h : a.settled) : d.settled := by
  refine Dev.settled_congr ?_ ?_ (fun p => k.1 _ (hF p)) ?_ ?_ h
  · simpa [Dev.blank, hb] using congrArg Dev.buf k.2
  · simpa [Dev.blank, hp] using congrArg Dev.port k.2
  · simpa [Dev.blank, hx] using congrArg Dev.xep k.2
  · simpa [Dev.blank, hg] using congrArg Dev.xgrp k.2

end Sys2Proof.Machine
end

