-- ==== Sys2Proof/Laws/Ops.lean ====
section
/-! SUPPORT. What the shared operations change, and what they leave: to cite in place of unfolding them. -/
namespace Sys2Proof.Machine

variable {F : Fld → Prop} {ps : List Part} {a d : Dev}

/-! ### Tables and parts -/

theorem Keeps.setPrt (p : Nat) (r : PortRt) (h : Keeps F ps a d) (hp : Part.port ∈ ps) : Keeps F ps a (d.setPrt p r) := h.port_upd _ hp
theorem Keeps.updPrt (p : Nat) (f : PortRt → PortRt) (h : Keeps F ps a d) (hp : Part.port ∈ ps) : Keeps F ps a (d.updPrt p f) := h.port_upd _ hp
theorem Keeps.updXl (p : Nat) (f : XepRt → XepRt) (h : Keeps F ps a d) (hp : Part.xep ∈ ps) : Keeps F ps a (d.updXl p f) := h.xep_upd _ hp
theorem Keeps.updDir (ds : Nat) (f : DirRt → DirRt) (h : Keeps F ps a d) (hp : Part.dirs ∈ ps) : Keeps F ps a (d.updDir ds f) := h.dirs_upd _ hp
theorem Keeps.putTrk (ds : Nat) (t : Tracker) (h : Keeps F ps a d) (hp : Part.dirs ∈ ps) : Keeps F ps a (d.putTrk ds t) := h.dirs_upd _ hp
theorem Keeps.setSl (s : Nat) (e : SliceE) (h : Keeps F ps a d) (hp : Part.slices ∈ ps) : Keeps F ps a (d.setSl s e) := h.slices_upd _ hp
theorem Keeps.setExt (e : Nat) (x : ExtentE) (h : Keeps F ps a d) (hp : Part.extents ∈ ps) : Keeps F ps a (d.setExt e x) := h.extents_upd _ hp
theorem Keeps.updQe (q : Nat) (f : QueueE → QueueE) (h : Keeps F ps a d) (hp : Part.queues ∈ ps) : Keeps F ps a (d.updQe q f) := h.queues_upd _ hp
theorem Keeps.updQr (q : Nat) (f : QRt → QRt) (h : Keeps F ps a d) (hp : Part.skid ∈ ps) : Keeps F ps a (d.updQr q f) := h.skid_upd _ hp
theorem Keeps.updRing (p : Nat) (f : RingE → RingE) (h : Keeps F ps a d) (hp : Part.mgmt ∈ ps) : Keeps F ps a (d.updRing p f) := h.mgmt_upd _ hp
theorem Keeps.updSlt (n : Nat) (f : SlotRt → SlotRt) (h : Keeps F ps a d) (hp : Part.slot ∈ ps) : Keeps F ps a (d.updSlt n f) := h.slot_upd _ hp
theorem Keeps.updLand (c : Nat) (f : LandRt → LandRt) (h : Keeps F ps a d) (hp : Part.tally ∈ ps) : Keeps F ps a (d.updLand c f) := h.tally_upd _ hp
theorem Keeps.updFt (f : FtRt → FtRt) (h : Keeps F ps a d) (hp : Part.ftr ∈ ps) : Keeps F ps a (d.updFt f) := h.ftr_upd _ hp
theorem Keeps.setBucket (g b : Nat) (q : Option Nat) (h : Keeps F ps a d) (hp : Part.xgrp ∈ ps) : Keeps F ps a (d.setBucket g b q) := h.xgrp_upd _ hp
theorem Keeps.submit (x : Change) (h : Keeps F ps a d) (hp : Part.commit ∈ ps) : Keeps F ps a (d.submit x) := h.commit_upd _ hp
theorem Keeps.draw (w : Nat) (h : Keeps F ps a d) (hp : Part.freeCtr ∈ ps) : Keeps F ps a (d.draw w).2 := h.freeCtr_upd _ hp
theorem Keeps.emits (l : List Emit) (h : Keeps F ps a d) (hp : Part.out ∈ ps) : Keeps F ps a (d.emits l) := h.out_upd _ hp
theorem Keeps.gate (n k : Nat) (h : Keeps F ps a d) (hp : Part.out ∈ ps) : Keeps F ps a (d.gate n k) := h.emit _ _ _ hp

/-! ### Registers -/

theorem Keeps.set64 (l u : Fld) (v : Nat) (h : Keeps F ps a d) (hl : F l) (hu : F u) : Keeps F ps a (d.set64 l u v) := (h.set l _ hl).set u _ hu
theorem Keeps.mark64 (l u : Fld) (p : Nat) (h : Keeps F ps a d) (hl : F l) (hu : F u) : Keeps F ps a (d.mark64 l u p) := h.set64 l u _ hl hu

/-- A change of configuration touches CFG_SEQ, the pending count and the list of changes (R229). -/
theorem Keeps.cfgChange (h : Keeps F ps a d) (hl : F R.PRS.CFGSEQ_L.VALUE) (hu : F R.PRS.CFGSEQ_H.VALUE) (hj : F R.PRS.JRNSTS.PEND) (hp : Part.prs ∈ ps) :
    Keeps F ps a d.cfgChange :=
  ((h.set64 _ _ _ hl hu).addSat _ _ hj).prs_upd _ hp

/-- A discarded access of an old generation is counted in the slice and in TEN.GDISC (R149). -/
theorem Keeps.gdisc (s : Nat) (h : Keeps F ps a d) (hf : F R.TEN.GDISC.VALUE) (hp : Part.slices ∈ ps) : Keeps F ps a (d.gdisc s) :=
  (h.setSl _ _ hp).addMod _ _ hf

/-- A Xepin fault touches its status register and the port unit recorded in it (R271). -/
theorem Keeps.xepRaise (p b : Nat) (h : Keeps F ps a d) (hf : ∀ f ∈ (Sts.xep (stOf p)).fields b, F f) (hu : F (R.ST.XSTS.PU (stOf p))) : Keeps F ps a (d.xepRaise p b) := by
  unfold Dev.xepRaise
  dsimp only
  split
  · exact (h.raise _ _ hf).set _ _ hu
  · exact h.raise _ _ hf

/-! ### The buffer -/

/-- Counting an event touches counter values alone (R352). -/
theorem Keeps.count (blk : Nat × Nat) (code : Nat) (cls : Option Cls) (n : Nat) (h : Keeps F ps a d) (hp : Part.ctrvals ∈ ps) : Keeps F ps a (d.count blk code cls n) :=
  h.ctrvals_upd _ hp

theorem Keeps.charge (s n : Nat) (h : Keeps F ps a d) (hp : Part.buf ∈ ps) : Keeps F ps a (d.charge s n) := h.buf_upd _ hp
theorem Keeps.uncharge (s n : Nat) (h : Keeps F ps a d) (hp : Part.buf ∈ ps) : Keeps F ps a (d.uncharge s n) := h.buf_upd _ hp
theorem Keeps.updMsg (id : Nat) (f : Msg → Msg) (h : Keeps F ps a d) (hp : Part.buf ∈ ps) : Keeps F ps a (d.updMsg id f) := h.buf_upd _ hp
theorem Keeps.release (m : Msg) (k : Bool) (h : Keeps F ps a d) (hp : Part.buf ∈ ps) : Keeps F ps a (d.release m k) := h.buf_upd _ hp

/-- A request is taken from the buffer. -/
theorem Keeps.takeReq (r : DirReq) (h : Keeps F ps a d) (hp : Part.buf ∈ ps) : Keeps F ps a (d.takeReq r) := by
  unfold Dev.takeReq
  split
  · split
    · exact h
    · exact h.release _ _ hp
  · exact h

/-- One more line of a request that gathers its answers. -/
theorem Keeps.gather (m : Msg) (r : DirReq) (x : Nat) (po : Bool) (h : Keeps F ps a d) (hp : Part.buf ∈ ps) : Keeps F ps a (d.gather m r x po).1 := by
  unfold Dev.gather
  dsimp only
  split
  · exact h.release _ _ hp
  · exact h.updMsg _ _ hp

theorem Keeps.dropMsg (m : Msg) (h : Keeps F ps a d) (hp : Part.buf ∈ ps) : Keeps F ps a (d.dropMsg m) := by
  unfold Dev.dropMsg
  split
  · exact h.release _ _ hp
  · split
    · exact h.uncharge _ _ hp
    · exact h

/-- The buffer, and what injection on it leaves armed. -/
theorem Keeps.buf_inj (b : Buf) (t : Tbl InjCh) (h : Keeps F ps a d) (hb : Part.buf ∈ ps) : Keeps F ps a { d with buf := b, inj := t } := (h.buf_upd b hb).inj_upd t

/-- A message and what it is charged to. -/
theorem Keeps.joinBuf (m : Msg) (pu : Nat) (h : Keeps F ps a d) (hb : Part.buf ∈ ps) : Keeps F ps a (d.joinBuf m pu) := by
  unfold Dev.joinBuf
  dsimp only
  split
  · exact (h.buf_upd _ hb).buf_upd _ hb
  · split
    · exact (h.buf_upd _ hb).buf_upd _ hb
    · exact ((h.buf_upd _ hb).charge _ _ hb).buf_upd _ hb

/-- A message of the device joins the buffer; counters may count. -/
theorem Keeps.enq (m : Msg) (h : Keeps F ps a d) (hb : Part.buf ∈ ps) (hc : Part.ctrvals ∈ ps) : Keeps F ps a (d.enq m) := by
  unfold Dev.enq
  dsimp only
  generalize d.bufInject _ _ = i
  exact Keeps.foldl _ _ ((h.buf_inj _ _ hb).joinBuf _ _ hb) (fun e x _ k => k.count _ _ _ _ hc)

theorem Keeps.toHost (p : Nat) (k : MsgKind) (o : Op) (l : List Nat) (n : Nat) (po : Bool) (h : Keeps F ps a d) (hb : Part.buf ∈ ps) (hc : Part.ctrvals ∈ ps) :
    Keeps F ps a (d.toHost p k o l n po) := h.enq _ hb hc

theorem Keeps.toXep (r : DirReq) (p c st : Nat) (x : Option (Nat × Nat)) (po : Bool) (h : Keeps F ps a d) (hb : Part.buf ∈ ps) (hc : Part.ctrvals ∈ ps) :
    Keeps F ps a (d.toXep r p c st x po) := h.enq _ hb hc

theorem Keeps.memRead (r : DirReq) (h : Keeps F ps a d) (hb : Part.buf ∈ ps) (hc : Part.ctrvals ∈ ps) : Keeps F ps a (d.memRead r) := (h.takeReq r hb).enq _ hb hc

theorem Keeps.memWrite (r : DirReq) (x be : Nat) (po : Bool) (h : Keeps F ps a d) (hb : Part.buf ∈ ps) (hc : Part.ctrvals ∈ ps) : Keeps F ps a (d.memWrite r x be po) :=
  (h.takeReq r hb).enq _ hb hc

theorem Keeps.memWb (r : DirReq) (x be : Nat) (po : Bool) (h : Keeps F ps a d) (hb : Part.buf ∈ ps) (hc : Part.ctrvals ∈ ps) : Keeps F ps a (d.memWb r x be po) :=
  (h.takeReq r hb).enq _ hb hc

/-- Data for the requester: a message, or an answer to the Skidder. -/
theorem Keeps.giveRead (r : DirReq) (x n : Nat) (po : Bool) (h : Keeps F ps a d) (hb : Part.buf ∈ ps) (hc : Part.ctrvals ∈ ps) (hs : Part.skid ∈ ps) :
    Keeps F ps a (d.giveRead r x n po) := by
  unfold Dev.giveRead
  split
  · exact h.enq _ hb hc
  · exact h.enq _ hb hc
  · exact h.skid_upd _ hs
  · exact h.toXep _ _ _ _ _ _ hb hc
  · exact h.toXep _ _ _ _ _ _ hb hc
  · exact h

/-- A completion for the requester. -/
theorem Keeps.giveCpl (r : DirReq) (o : Op) (h : Keeps F ps a d) (hb : Part.buf ∈ ps) (hc : Part.ctrvals ∈ ps) (hs : Part.skid ∈ ps) :
    Keeps F ps a (d.giveCpl r o) := by
  unfold Dev.giveCpl
  split
  · exact h.enq _ hb hc
  · exact h
  · exact h.skid_upd _ hs
  · split
    · exact h
    · exact h.toXep _ _ _ _ _ _ hb hc
  · exact h.toXep _ _ _ _ _ _ hb hc
  · exact h

/-- An answer with data to a request of the slice's present generation. -/
theorem Keeps.answerData (r : DirReq) (x : Nat) (po : Bool) (h : Keeps F ps a d) (hr : d.reqStale r = false) (hb : Part.buf ∈ ps) (hc : Part.ctrvals ∈ ps)
    (hs : Part.skid ∈ ps) : Keeps F ps a (d.answerData r x po) := by
  unfold Dev.answerData
  rw [if_neg (by simp [hr])]
  split
  · rename_i m _
    have k := h.gather m r x po hb
    dsimp only
    cases (d.gather m r x po).2 with
    | none => exact k
    | some n => exact k.giveRead _ _ _ _ hb hc hs
  · exact (h.takeReq r hb).giveRead _ _ _ _ hb hc hs

/-- An answer without data to a request of the slice's present generation. -/
theorem Keeps.answerCpl (r : DirReq) (o : Op) (h : Keeps F ps a d) (hr : d.reqStale r = false) (hb : Part.buf ∈ ps) (hc : Part.ctrvals ∈ ps)
    (hs : Part.skid ∈ ps) : Keeps F ps a (d.answerCpl r o) := by
  unfold Dev.answerCpl
  rw [if_neg (by simp [hr])]
  split
  · rename_i m _
    have k := h.gather m r 0 false hb
    dsimp only
    cases (d.gather m r 0 false).2 with
    | none => exact k
    | some n => exact k.giveCpl _ _ hb hc hs
  · exact (h.takeReq r hb).giveCpl _ _ hb hc hs

/-! ### Writes to host memory and interrupts -/

theorem Keeps.hostWrite (src : Src) (s : Nat) (cls : Cls) (stage : Nat) (op : Op) (addr pasid n x : Nat) (h : Keeps F ps a d) (hb : Part.buf ∈ ps) (hc : Part.ctrvals ∈ ps) :
    Keeps F ps a (d.hostWrite src s cls stage op addr pasid n x) := h.enq _ hb hc

/-- A slice's vector: its message, or its pending bit where it is masked (R133). -/
theorem Keeps.sliceVec (src : Src) (cls : Cls) (stage s k : Nat) (h : Keeps F ps a d) (hb : Part.buf ∈ ps) (hc : Part.ctrvals ∈ ps) (hm : Part.msix ∈ ps) :
    Keeps F ps a (d.sliceVec src cls stage s k) := by
  unfold Dev.sliceVec
  dsimp only
  split
  · exact h.msix_upd _ hm
  · exact h.hostWrite _ _ _ _ _ _ _ _ _ hb hc

/-! ### Frames of a Xepin link -/

theorem Keeps.pushFrame (p : Nat) (f : XFrame) (h : Keeps F ps a d) (hx : Part.xep ∈ ps) (ho : Part.out ∈ ps) : Keeps F ps a (d.pushFrame p f) :=
  (h.updXl _ _ hx).emit _ _ _ ho

theorem Keeps.xflowN (n p : Nat) (h : Keeps F ps a d) (hx : Part.xep ∈ ps) (ho : Part.out ∈ ps) : Keeps F ps a (Dev.xflowN n d p) := by
  induction n generalizing d with
  | zero => exact h
  | succ n ih =>
    unfold Dev.xflowN
    split
    · exact h
    · split
      · exact ih ((h.updXl _ _ hx).pushFrame _ _ hx ho)
      · exact h

theorem Keeps.xsend (p : Nat) (l : List XFrame) (h : Keeps F ps a d) (hx : Part.xep ∈ ps) (ho : Part.out ∈ ps) : Keeps F ps a (d.xsend p l) :=
  (h.updXl _ _ hx).xflowN _ _ hx ho

/-- A MIR message is counted and sent over the mirror link. -/
theorem Keeps.sendMir (m : MirHdr) (l : List Nat) (h : Keeps F ps a d) (hf : F R.PAIR.MIRTX.VALUE) (hx : Part.xep ∈ ps) (ho : Part.out ∈ ps) : Keeps F ps a (d.sendMir m l) := by
  unfold Dev.sendMir
  dsimp only
  cases d.mirrorPort with
  | none => exact h.addMod _ _ hf
  | some p => exact (h.xsend _ _ hx ho).addMod _ _ hf

/-! ### Messages that join the buffer -/

theorem Buf.grab_msgs (n : Nat) (b : Buf) (l : List Nat) : (Buf.grab n b l).1.msgs = b.msgs ∧ (Buf.grab n b l).1.nextId = b.nextId := by
  induction n generalizing b l with
  | zero => exact ⟨rfl, rfl⟩
  | succ n ih =>
    unfold Buf.grab
    split
    · exact ⟨rfl, rfl⟩
    · split
      · exact ⟨rfl, rfl⟩
      · exact ih _ _

theorem Dev.count_buf (d : Dev) (blk : Nat × Nat) (code : Nat) (cls : Option Cls) (n : Nat) : (d.count blk code cls n).buf = d.buf := rfl

theorem Dev.foldl_count_buf (l : List Nat) (f : Nat → Nat × Nat) (d : Dev) : (l.foldl (fun d c => Dev.count d (f c) 0x20 none 1) d).buf = d.buf := by
  induction l generalizing d with
  | nil => rfl
  | cons x r ih => exact (ih _).trans rfl

/-- Exactly one message joins, at the end: the one given, with its number and what it is charged to. -/
theorem Dev.joinBuf_msgs (d : Dev) (m : Msg) (pu : Nat) : ∃ n : Msg, (d.joinBuf m pu).buf.msgs = d.buf.msgs ++ [n] ∧ n.id = d.buf.nextId ∧ n.egress = m.egress ∧ n.kind = m.kind ∧ n.op = m.op ∧
    n.args = m.args ∧ n.src = m.src ∧ n.cls = m.cls ∧ n.tag = m.tag ∧ n.addr = m.addr ∧ n.pool = m.pool ∧ n.slice = m.slice ∧ n.gen = m.gen ∧ n.poison = m.poison ∧ n.bytes = m.bytes ∧
    n.stage = m.stage ∧ n.hdrLeft = m.hdrLeft ∧ n.x = m.x := by
  unfold Dev.joinBuf
  dsimp only
  split
  · exact ⟨_, rfl, rfl, rfl, rfl, rfl, rfl, rfl, rfl, rfl, rfl, rfl, rfl, rfl, rfl, rfl, rfl, rfl, rfl⟩
  · split
    · exact ⟨_, rfl, rfl, rfl, rfl, rfl, rfl, rfl, rfl, rfl, rfl, rfl, rfl, rfl, rfl, rfl, rfl, rfl, rfl⟩
    · exact ⟨_, rfl, rfl, rfl, rfl, rfl, rfl, rfl, rfl, rfl, rfl, rfl, rfl, rfl, rfl, rfl, rfl, rfl, rfl⟩

/-- Exactly one message joins, at the end: the one given, with its number, its cells and what it is charged to. -/
theorem Dev.enq_msgs (d : Dev) (m : Msg) : ∃ n : Msg, (d.enq m).buf.msgs = d.buf.msgs ++ [n] ∧ n.id = d.buf.nextId ∧ n.egress = m.egress ∧ n.kind = m.kind ∧ n.op = m.op ∧ n.args = m.args ∧
    n.src = m.src ∧ n.cls = m.cls ∧ n.tag = m.tag ∧ n.addr = m.addr ∧ n.pool = m.pool ∧ n.slice = m.slice ∧ n.gen = m.gen ∧ n.poison = m.poison ∧ n.bytes = m.bytes ∧ n.stage = m.stage ∧
    n.hdrLeft = m.hdrLeft ∧ n.x = m.x := by
  have g := Buf.grab_msgs (cellsFor m.bytes) d.buf []
  unfold Dev.enq
  dsimp only
  generalize d.bufInject _ _ = i
  obtain ⟨n, e, hid, h⟩ := Dev.joinBuf_msgs { d with buf := (Buf.grab (cellsFor m.bytes) d.buf []).1, inj := i.2.2 } (Msg.hurt { m with cells := (Buf.grab (cellsFor m.bytes) d.buf []).2, touch := cellsFor m.bytes } i.1 i.2.1) m.egress
  refine ⟨n, (congrArg Buf.msgs (Dev.foldl_count_buf _ _ _)).trans (e.trans (congrArg (· ++ [n]) g.1)), hid.trans g.2, ?_⟩
  exact h

/-- So a message with these properties lies in the buffer. -/
theorem Dev.enq_queued (d : Dev) (m : Msg) (f : Msg → Prop) (hf : ∀ n : Msg, n.kind = m.kind → n.op = m.op → n.args = m.args → n.src = m.src → n.tag = m.tag → n.addr = m.addr →
    n.pool = m.pool → n.slice = m.slice → n.poison = m.poison → f n) : (d.enq m).queued m.egress f := by
  obtain ⟨n, h, -, e, k, o, l, s, -, t, x, y, z, -, po, -⟩ := d.enq_msgs m
  exact ⟨n, by rw [h]; simp, e, hf n k o l s t x y z po⟩

/-- Disposal reads neither the buffer nor the counters. -/
theorem Dev.enq_overdue (d : Dev) (m : Msg) : (d.enq m).overdue = d.overdue := by
  have k : Keeps (oneOf []) [.buf, .ctrvals] d (d.enq m) := (Keeps.refl _ _ d).enq m (by simp) (by simp)
  refine Dev.overdue_congr ?_ (fun p => k.1 _ (by simp [oneOf])) ?_ ?_
  · simpa [Dev.blank] using congrArg Dev.port k.2
  · simpa [Dev.blank] using congrArg Dev.xep k.2
  · simpa [Dev.blank] using congrArg Dev.xgrp k.2

/-- A message for a port in service leaves nothing to dispose of. -/
theorem Dev.enq_settled (d : Dev) (m : Msg) (h : d.settled) (hl : d.lost m.egress = false) : (d.enq m).settled := by
  obtain ⟨n, e, -, he, -⟩ := d.enq_msgs m
  have h' : d.buf.msgs.filter d.overdue = [] := h
  show (d.enq m).buf.msgs.filter (d.enq m).overdue = []
  rw [Dev.enq_overdue, e, List.filter_append, h']
  simp [Dev.overdue, he, hl]

/-- A message that leaves the buffer leaves nothing more to dispose of. -/
theorem Dev.release_settled (d : Dev) (m : Msg) (k : Bool) (h : d.settled) : (d.release m k).settled := by
  have h' : d.buf.msgs.filter d.overdue = [] := h
  have e : (d.release m k).buf.msgs = d.buf.msgs.filter (fun x => x.id != m.id) := by
    unfold Dev.release Buf.untouch
    cases m.slice <;> cases m.sysPu <;> rfl
  have o : (d.release m k).overdue = d.overdue := Dev.overdue_congr rfl (fun _ => rfl) rfl rfl
  show (d.release m k).buf.msgs.filter (d.release m k).overdue = []
  rw [e, o, List.filter_filter, List.filter_eq_nil_iff] at *
  intro x hx
  have := h' x hx
  simp_all

end Sys2Proof.Machine
end

