-- ==== Sys2Proof/WellFormed.lean ====
section
/-! DEFINITION. Which terms of Instr are commands: every operand fits the field or the range its rule gives it. The meanings are total on the other
terms too. -/
namespace Sys2Proof

/-- It fits in `n` bits. -/
def below (n v : Nat) : Bool := decide (v < 2 ^ n)

/-- A BAR0 offset (R390): of a 32-bit word in the 64-MiB space. -/
def bar0Off (o : Nat) : Bool := decide (o < 2 ^ 26 ∧ o % 4 = 0)

/-- A pool address of a line (R92): 46 bits, 64-byte aligned. -/
def poolLine (a : Nat) : Bool := decide (a < 2 ^ 46 ∧ a % 64 = 0)

end Sys2Proof

namespace Sys2Proof.Machine

/-- The header of a NoC packet (R25) and its data flits. -/
def Packet.wf (p : Packet) : Bool :=
  decide (p.dstCol < 6 ∧ p.dstRow < 6 ∧ p.dstPort < 4 ∧ p.srcCol < 6 ∧ p.srcRow < 6 ∧ p.srcPort < 4 ∧ p.typ < 16 ∧ p.err < 16 ∧ 1 ≤ p.dwcnt ∧ p.dwcnt ≤ 32 ∧ p.addr % 4 = 0 ∧ p.data.length ≤ 8) &&
    below 10 p.tag && below 32 p.addr && below 32 p.crc && p.data.all (below 128)

/-- The place a source names exists. -/
def Src.wf (s : Src) : Bool :=
  match s with
  | .host p => decide (p < 64)
  | .io p => decide (p < 64)
  | .skid q => decide (q < 1040)
  | .xep p odev oq oidx _ => decide (p < 64 ∧ odev < 8) && decide (oidx < if oq then 1040 else 64)
  | .peer m odev oidx => decide (m < 64 ∧ odev < 8 ∧ oidx < 64)
  | .dev => true

/-- A request for a line of the pool (R92, R103); an AtomicOp names its bytes in the line. -/
def DirReq.wf (r : DirReq) : Bool :=
  r.src.wf && below 46 r.pool && decide (r.slice < 512) && below 16 r.tag && below 512 r.data && below 64 r.be && below 128 r.arg && below 128 r.cmp

/-- The fields of a command (R328). -/
def PyrCmd.wf (c : PyrCmd) : Bool :=
  below 12 c.slot && below 8 c.opcode && below 6 c.sub && below 16 c.cid && below 3 c.prin && below 13 c.rsv && below 16 c.target && below 64 c.cnt && below 768 c.params && below 128 c.mac

/-- A Xepin message header (R251). -/
def XMsg.wf (m : XMsg) : Bool :=
  below 4 m.status && below 8 m.op && below 3 m.cls && below 3 m.odev && below 11 m.oidx && below 9 m.slice && below 6 m.len && below 2 m.mv && below 2 m.hops && below 16 m.tag && poolLine m.addr && below 64 m.be && below (512 * (m.len + 1)) m.data

/-- A capability record (R244). -/
def CapRec.wf (r : CapRec) : Bool := below 8 r.version && below 3 r.devId && below 8 r.fabricId && below 3 r.role && below 12 r.rxNext && below 16 r.inst

/-- A verification unit (R74). -/
def RxUnit.wf (u : RxUnit) : Bool := below 1 u.half && decide (u.bank < 64)

/-- A heartbeat (R279). -/
def HbMsg.wf (m : HbMsg) : Bool := below 3 m.pstate && below 64 m.cnt && below 64 m.cfgSeq

/-- A change item (R231). -/
def Item.wf (i : Item) : Bool := below (8 * i.len) i.bytes

/-- A PREP (R277). -/
def PrepMsg.wf (m : PrepMsg) : Bool := below 16 m.mid && below 64 m.cfgSeq && below 3 m.prin && below 64 m.cnt && m.items.all Item.wf

/-- A completion entry (R202). -/
def SCpl.wf (c : SCpl) : Bool := decide (c.q < 1040) && below 16 c.slot && below 32 c.tag && below 8 c.status

/-- A CXL.io request (R138). -/
def IoReq.wf (r : IoReq) : Bool :=
  match r with
  | .memRd a n => below 64 a && decide (1 ≤ n ∧ n ≤ 4096)
  | .memWr a n v => below 64 a && decide (1 ≤ n ∧ n ≤ 4096) && below (8 * n) v
  | .atomic a _ x y => below 64 a && below 128 x && below 128 y
  | .cfg => true
  | .doorbellRd o => decide (o < 0x200000 ∧ o % 4 = 0)
  | .doorbellWr o v => decide (o < 0x200000 ∧ o % 4 = 0) && below 32 v
  | .msixRd i k => decide (i < 2048 ∧ k < 4)
  | .msixWr i k v => decide (i < 2048 ∧ k < 4) && below 32 v

/-- A debug master access (R158). -/
def DbgAcc.wf (a : DbgAcc) : Bool :=
  match a with
  | .pool _ p v => below 46 p && below 512 v
  | .cat e => below 16 e
  | .keyStore => true
  | .curatorMem => true

/-- A sideband transaction (R344). -/
def SbAcc.wf (a : SbAcc) : Bool :=
  match a with
  | .mctp _ => true
  | .spdm => true
  | .regRead o => bar0Off o
  | .regWrite o v => bar0Off o && below 32 v

/-- A partner's rate: code 0 to 5 (R46). -/
def Partner.wf (p : Partner) : Bool := decide (p.maxRate ≤ 5)

/-- A partner's power management request (R51). -/
def PmReq.wf (q : PmReq) : Bool :=
  match q with
  | .l1 => true
  | .l0p w => decide (w < 8)

/-- What the directory waits for (R111). -/
def Awaited.wf (a : Awaited) : Bool :=
  match a with
  | .bi p => decide (p < 64)
  | .mem => true

/-- A ring's pointers (R326). -/
def RingE.wf (r : RingE) : Bool := below 12 r.head && below 12 r.fetch

/-- An image's header fields (R227). -/
def Image.wf (i : Image) : Bool := below 3 i.devId && below 64 i.cfgSeq && below 64 i.gpfOk && below 64 i.gpfMiss && below 64 i.saveTime

end Sys2Proof.Machine

namespace Sys2Proof
open Machine

/-- The term is a command. -/
def Instr.wellFormed (c : Instr) : Bool :=
  match c with
  | .bar0Access _ off be value => bar0Off off && below 4 be && below 32 value
  | .nocFlitArrive _ pkt flit _ => pkt.wf && decide (flit ≤ 8)
  | .cfgRd pkt => pkt.wf
  | .cfgWr pkt => pkt.wf
  | .tblRd pkt => pkt.wf
  | .tblWr pkt => pkt.wf
  | .rdCpl pkt => pkt.wf
  | .wrAck pkt => pkt.wf
  | .event pkt => pkt.wf
  | .snap pkt => pkt.wf
  | .nocReturnedRequest pkt => pkt.wf
  | .nocRequestTimeout _ tag => below 10 tag
  | .nocStall _ pkt => pkt.wf
  | .trainingComplete _ partner => partner.wf
  | .rateStepComplete _ preset => decide (preset ≤ 10)
  | .lockLoss _ lanes => below 16 lanes
  | .partnerPmRequest _ req => req.wf
  | .doeRequest _ _ key => key.all (below 256)
  | .eyeScanComplete _ left right up down => below 8 left && below 8 right && below 8 up && below 8 down
  | .unitReceive _ u => u.wf
  | .memResponse _ tag _ data _ => below 16 tag && below 32768 data
  | .rds req => req.wf
  | .rda req => req.wf
  | .inv req => req.wf
  | .wb req => req.wf
  | .ncr req => req.wf
  | .ncw req => req.wf
  | .snoopData _ pool l _ => poolLine pool && below 512 l.data && below 64 l.be
  | .birsp _ bitag _ => below 12 bitag
  | .biconflict _ pool => poolLine pool
  | .rspTmo pool what => poolLine pool && what.wf
  | .bitagReturn _ tag => below 8 tag
  | .returnedRequestPresent _ key => decide (key ≤ 64)
  | .atomicop req => req.wf
  | .sliceBind c => c.wf
  | .sliceUnbind c => c.wf
  | .sliceRebind c => c.wf
  | .sliceReset c => c.wf
  | .ruleSet c => c.wf
  | .extentDefine c => c.wf
  | .sliceQos c => c.wf
  | .dlogConfig c => c.wf
  | .windowSet c => c.wf
  | .sqAssign c => c.wf
  | .queueQos c => c.wf
  | .dlogCiWrite _ _ value => below 32 value
  | .cxlioRequest _ pasid req => pasid.all (below 20) && req.wf
  | .tailWrite _ value => below 32 value
  | .fetchReturn _ _ descs _ => descs.all (below 512)
  | .fragmentRead _ slot _ _ entries _ => below 16 slot && entries.all (below 128)
  | .burstReadData _ data _ => below 32768 data
  | .skidderReadBack _ slot _ _ _ data => below 17 slot && below 32768 data
  | .witnessReadComplete _ data _ => below 512 data
  | .parityScanVisit off _ => bar0Off off
  | .curatorBootComplete _ _ meas => meas.all (below 32)
  | .pairAgreement seq img => below 64 seq && img.wf
  | .consistencyPass _ => true
  | .capabilityExchange _ r => r.wf
  | .frameHalfReceive _ h => h.bytes.length == 128 && h.bytes.all (below 8)
  | .xepinReq _ m => m.wf
  | .xepinRsp _ m => m.wf
  | .mapref _ m delta mseq => m.wf && decide (-32768 ≤ delta ∧ delta < 32768) && below 32 mseq
  | .hb m => m.wf
  | .sync _ _ ta trx => below 64 ta && below 64 trx
  | .dreq _ id t4 => below 16 id && below 64 t4
  | .drsp _ id t4 t5 t6 => below 16 id && below 64 t4 && below 64 t5 && below 64 t6
  | .mack mid _ code => below 16 mid && below 8 code
  | .prep m => m.wf
  | .go mid cfgSeq => below 16 mid && below 64 cfgSeq
  | .cpl mid c okSeq => below 16 mid && c.wf && below 32 okSeq
  | .ring _ r => r.wf
  | .syncData off len => decide (off < 905232) && decide (len ≤ 1024)
  | .syncEnd img => img.wf
  | .fwd _ off value => below 16 off && below 32 value
  | .fenceReadComplete peer => below 64 peer.cnt
  | .faultBitClear off _ _ => bar0Off off
  | .slotOn c => c.wf
  | .slotOff c => c.wf
  | .commandDoorbell _ tail => below 32 tail
  | .evciWrite _ evci => below 32 evci
  | .nop c => c.wf
  | .featSet c => c.wf
  | .eventConfig c => c.wf
  | .lcChallenge c => c.wf
  | .persistArm c => c.wf
  | .pairConfig c => c.wf
  | .roleChange c => c.wf
  | .keyInstall c session => c.wf && session.all (below 256)
  | .memIde c _ => c.wf
  | .lcAuth c _ _ => c.wf
  | .fwStage c image => c.wf && image.all (below 16)
  | .fwActivate c => c.wf
  | .sidebandAccess a => a.wf
  | .thermalSample temps => temps.length == 20 && temps.all (fun t => decide (-128 ≤ t ∧ t ≤ 127))
  | .debugAccess a => a.wf
  | .registerWrite off _ be => bar0Off off && below 4 be
  | .ptmResponse master => below 64 master
  | .domainOn _ | .wakeFail _ | .gateRequest _ _ | .domainGated _ | .quiesce _ | .unquiesce _ | .quiesceComplete _ | .localEnChange _ _ | .refclkLost
  | .clockMonitorWindow _ _ _ _ | .rootPllLock | .pllLockTimeout | .linkEnable _ | .linkDisable _ | .retrain _ | .recoveryExit _ | .eqFail _
  | .trainingFallback _ | .recoveryToDetect _ | .l1IdleTimeout _ | .l0pWidthChange _ _ | .linkPmExit _ | .ideKeyProgram _ _ _
  | .ideIntegrityFail _ _ _ | .prbsRun _ | .eyeScanStart _ _ | .marginingRequest _ _ | .safRelease _ | .creditGrant _ _ | .reservationReturn _
  | .egressSelect _ _ | .holdExpire _ | .parkRetry _ | .predClr _ | .recallStart _ _ _ _ | .recallComplete _ | .windowChangeComplete _
  | .sliceDrainComplete _ | .drainTimeout _ | .generationAdvance _ | .scrubComplete _ _ | .vioClear _ | .fltClr _ _ | .ptmRequest _ | .policerAdmit _
  | .policerRetry _ | .classEntryCommit _ _ | .portShaperWrite _ _ _ | .gateListEnable _ | .gateListSwap _ | .bankSwap _ | .queueEnable _
  | .queueDisable _ | .queueAbort _ | .queueResume _ | .descriptorFetch _ | .descriptorStart _ | .timerFire _ | .timerConfig _ _ | .queueTurn
  | .burstComplete _ _ | .burstTimeout _ | .stopComplete _ | .admStall | .pfailNFall | .pfailQualified | .freezeComplete | .p0Timeout
  | .persistDrainComplete | .p1Timeout | .gpfPortStart _ | .gpfPhase1Response _ _ | .gpfPhase2Response _ _ | .gpfWaitExpire | .homeWriteComplete _ _
  | .homeFlushResponse _ _ | .homeTimeout _ | .p3Timeout | .p4ReadbackComplete _ _ | .p4Timeout | .perstNAssert | .perstNRelease _ _
  | .journalReadComplete _ | .homeReadComplete _ _ | .resumeReady | .restoreStageTimeout | .journalAppend | .norOperationComplete _ | .jrnLag
  | .replayTimeout _ | .maprefTimeout | .bucketRebalance _ _ | .syncPeriod | .tsyncInEdge | .tsyncMiss | .fabricTimeSet _ | .notice _
  | .localChangeReady | .hbPeriod _ | .fenceReadTimeout | .fencePoll | .decideLimit | .takeoverResumeComplete | .handbackComplete | .injectArm _
  | .injectStop _ | .insertionDelayExpire _ | .voutReached _ _ | .pgDelayExpire _ | .faultTimerIdle _ | .fastTrip _ | .faultTimeExpire _ | .rampTmo _
  | .supplyWindowLost _ _ | .voutLost _ | .noload _ _ | .onOneSecond _ | .retryDlyExpire _ | .downLeadExpire _ | .commandFetch | .attach _
  | .detach _ | .eventDeliver _ | .fwProgramComplete _ | .curatorRestart | .watchdogTimeout | .curatorRestartComplete | .fmApiRequest _ _
  | .counterSelect _ _ _ | .snapshotEnable | .snapshotBoundary | .snapshotRecordWrite _ | .samplerVisit | .landingRecordWrite _ _ | .landingEnable _
  | .landingDisable _ | .railFault _ _ | .coreRailLow _ _ | .aonPowerLoss | .dstateModeWrite _ | .haltReq | .tapResetExit | .boundaryScanLoad
  | .pfailNRelease | .vddAonPowerOn | .coreRailRestored _ _ | .symbolLockChange _ _ _ | .prbsCheckerLock _ _ | .faultTimerStart _
  | .supplyWindowChange _ _ _ | .tsyncOutRise | .tsyncOutFall | .memoryDeviceReady _ _ => true

end Sys2Proof
end

