-- ==== Sys2Proof/Tests/Slice0.lean ====
section
/-! SUPPORT. Tests: an ill-formed term for each check of WellFormed, the spec's worked examples, and for each statement states and operands that meet
its hypotheses (`meets_…`). Expected values come from the spec's text. -/
namespace Sys2Proof.Tests
open Sys2Proof Sys2Proof.Machine

-- One theorem after the other: elaborated side by side, their threads exhaust the memory limit.
set_option Elab.async false

/-- A device out of reset with these register fields. -/
def dv (regs : List (Fld × Nat)) (d : Dev := {}) : Dev := regs.foldl (fun d e => d.set e.1 e.2) { d with clk := { d.clk with locked := true } }

/-- The same, as a state with nothing waiting. -/
def st (regs : List (Fld × Nat)) (d : Dev := {}) : State := ⟨dv regs d, []⟩

/-- In service: SEQ 1, MODE 1. -/
def sv (regs : List (Fld × Nat)) (d : Dev := {}) : State := st ((R.PRS.STATE.SEQ, 1) :: (R.TOP.DSTATE.MODE, 1) :: regs) d

/-- The device after a command. -/
def after (c : Instr) (s : State) : Dev :=
  match exec c s with
  | .next t => t.dev
  | _ => {}

/-! ### WellFormed refuses -/

/-- A request for tests. -/
def dq (p pool : Nat) : DirReq := { src := .host p, cls := .rds, pool := pool, tag := 7 }

theorem test_packets_refused :
    ∀ p ∈ [{ dstCol := 6 }, { dstRow := 6 }, { dstPort := 4 }, { srcCol := 6 }, { srcRow := 6 }, { srcPort := 4 }, { typ := 16 }, { err := 16 }, { dwcnt := 0 }, { dwcnt := 33 },
      { addr := 2 }, { addr := 2 ^ 32 }, { tag := 1024 }, { crc := 2 ^ 32 }, { data := List.replicate 9 0 }, ({ data := [2 ^ 128] } : Packet)],
    ∀ c ∈ [Instr.cfgRd p, .cfgWr p, .tblRd p, .tblWr p, .rdCpl p, .wrAck p, .event p, .snap p, .nocReturnedRequest p, .nocStall 0 p, .nocFlitArrive 0 p 0 .none], c.wellFormed = false := by
  decide +kernel

theorem test_directory_requests_refused :
    ∀ q ∈ [{ dq 64 0 with tag := 1 }, dq 0 (2 ^ 46), { dq 0 0 with slice := 512 }, { dq 0 0 with tag := 2 ^ 16 }, { dq 0 0 with data := 2 ^ 512 }, { dq 0 0 with be := 2 ^ 64 },
      { dq 0 0 with arg := 2 ^ 128 }, { dq 0 0 with cmp := 2 ^ 128 }, { dq 0 0 with src := .io 64 }, { dq 0 0 with src := .skid 1040 }, { dq 0 0 with src := .xep 64 0 false 0 false },
      { dq 0 0 with src := .xep 0 8 false 0 false }, { dq 0 0 with src := .xep 0 0 true 1040 false }, { dq 0 0 with src := .xep 0 0 false 64 false }, { dq 0 0 with src := .peer 64 0 0 },
      { dq 0 0 with src := .peer 0 8 0 }, { dq 0 0 with src := .peer 0 0 64 }],
    ∀ c ∈ [Instr.rds q, .rda q, .inv q, .wb q, .ncr q, .ncw q, .atomicop q], c.wellFormed = false := by
  decide +kernel

theorem test_commands_refused :
    ∀ c ∈ [{ slot := 4096 }, { opcode := 256 }, { sub := 64 }, { cid := 65536 }, { prin := 8 }, { rsv := 8192 }, { target := 65536 }, { cnt := 2 ^ 64 }, { params := 2 ^ 768 }, ({ mac := 2 ^ 128 } : PyrCmd)],
    ∀ i ∈ [Instr.sliceBind c, .sliceUnbind c, .sliceRebind c, .sliceReset c, .ruleSet c, .extentDefine c, .sliceQos c, .dlogConfig c, .windowSet c, .sqAssign c, .queueQos c, .slotOn c, .slotOff c,
      .nop c, .featSet c, .eventConfig c, .lcChallenge c, .persistArm c, .pairConfig c, .roleChange c, .keyInstall c none, .memIde c true, .lcAuth c true true, .fwStage c none, .fwActivate c],
    i.wellFormed = false := by
  decide +kernel

theorem test_xepin_messages_refused :
    ∀ m ∈ [{ status := 16 }, { op := 256 }, { cls := 8 }, { odev := 8 }, { oidx := 2048 }, { slice := 512 }, { len := 64 }, { mv := 4 }, { hops := 4 }, { tag := 65536 }, { addr := 32 }, { addr := 2 ^ 46 },
      { be := 2 ^ 64 }, ({ data := 2 ^ 512 } : XMsg)], ∀ c ∈ [Instr.xepinReq 0 m, .xepinRsp 0 m, .mapref 0 m 1 1], c.wellFormed = false := by
  decide +kernel

theorem test_values_refused :
    ∀ c ∈ [Instr.bar0Access true 2 0 0, .bar0Access true (2 ^ 26) 0 0, .bar0Access true 0 16 0, .bar0Access true 0 0 (2 ^ 32), .nocFlitArrive 0 {} 9 .none, .nocRequestTimeout .bridge 1024,
      .trainingComplete 0 { maxRate := 6 }, .rateStepComplete 0 11, .lockLoss 0 65536, .partnerPmRequest 0 (.l0p 8), .doeRequest 0 .cmaSpdm (some (2 ^ 256)), .eyeScanComplete 0 256 0 0 0,
      .eyeScanComplete 0 0 256 0 0, .eyeScanComplete 0 0 0 256 0, .eyeScanComplete 0 0 0 0 256, .unitReceive 0 ⟨.flit256, 0, 2, true, 0, false, [], [], []⟩,
      .unitReceive 0 ⟨.flit256, 0, 0, true, 64, false, [], [], []⟩, .memResponse 0 65536 .data 0 false, .memResponse 0 0 .data (2 ^ 32768) false, .snoopData 0 1 ⟨0, 0⟩ false, .snoopData 0 (2 ^ 46) ⟨0, 0⟩ false, .keyInstall {} (some (2 ^ 256)),
      .snoopData 0 0 ⟨2 ^ 512, 0⟩ false, .snoopData 0 0 ⟨0, 2 ^ 64⟩ false, .birsp 0 4096 .i, .biconflict 0 1, .rspTmo 1 .mem, .rspTmo 0 (.bi 64), .bitagReturn 0 256, .returnedRequestPresent 0 65, .dlogCiWrite 0 0 (2 ^ 32),
      .cxlioRequest 0 (some (2 ^ 20)) .cfg, .cxlioRequest 0 none (.memRd 0 0), .cxlioRequest 0 none (.memRd (2 ^ 64) 1), .cxlioRequest 0 none (.memWr 0 4097 0), .cxlioRequest 0 none (.memWr (2 ^ 64) 1 0),
      .cxlioRequest 0 none (.atomic (2 ^ 64) .fadd32 0 0), .cxlioRequest 0 none (.atomic 0 .fadd32 (2 ^ 128) 0), .cxlioRequest 0 none (.atomic 0 .fadd32 0 (2 ^ 128)), .cxlioRequest 0 none (.doorbellRd 2),
      .cxlioRequest 0 none (.doorbellWr 0x200000 0), .cxlioRequest 0 none (.doorbellWr 0 (2 ^ 32)), .cxlioRequest 0 none (.msixRd 2048 0), .cxlioRequest 0 none (.msixWr 0 4 0),
      .cxlioRequest 0 none (.msixWr 0 0 (2 ^ 32)), .tailWrite 0 (2 ^ 32)], c.wellFormed = false := by
  decide +kernel

theorem test_more_values_refused :
    ∀ c ∈ [Instr.fetchReturn 0 .ok [2 ^ 512] [], .fragmentRead 0 65536 true .ok [] false, .fragmentRead 0 0 true .ok [2 ^ 128] false, .burstReadData 0 (2 ^ 32768) false, .skidderReadBack 0 (2 ^ 17) 0 true false 0,
      .skidderReadBack 0 0 0 true false (2 ^ 32768), .witnessReadComplete 0 (2 ^ 512) true, .parityScanVisit 2 true, .curatorBootComplete true true [2 ^ 32], .pairAgreement (2 ^ 64) {},
      .pairAgreement 0 { devId := 8 }, .pairAgreement 0 { cfgSeq := 2 ^ 64 }, .pairAgreement 0 { gpfOk := 2 ^ 64 }, .pairAgreement 0 { gpfMiss := 2 ^ 64 }, .syncEnd { saveTime := 2 ^ 64 },
      .capabilityExchange 0 { version := 256 }, .capabilityExchange 0 { devId := 8 }, .capabilityExchange 0 { fabricId := 256 }, .capabilityExchange 0 { role := 8 }, .capabilityExchange 0 { rxNext := 4096 },
      .capabilityExchange 0 { inst := 65536 }, .frameHalfReceive 0 ⟨0, [], 0⟩, .frameHalfReceive 0 ⟨0, List.replicate 129 0, 0⟩, .frameHalfReceive 0 ⟨1, 256 :: List.replicate 127 0, 0⟩, .mapref 0 {} 32768 0, .mapref 0 {} (-32769) 0,
      .mapref 0 {} 0 (2 ^ 32), .hb ⟨8, true, 0, 0⟩, .hb ⟨0, true, 2 ^ 64, 0⟩, .hb ⟨0, true, 0, 2 ^ 64⟩, .sync 0 0 (2 ^ 64) 0, .sync 0 0 0 (2 ^ 64), .dreq 0 65536 0, .dreq 0 0 (2 ^ 64), .drsp 0 65536 0 0 0,
      .drsp 0 0 (2 ^ 64) 0 0, .drsp 0 0 0 (2 ^ 64) 0, .drsp 0 0 0 0 (2 ^ 64), .fwd 0 65536 0, .fwd 0 0 (2 ^ 32)], c.wellFormed = false := by
  decide +kernel

theorem test_other_values_refused :
    ∀ c ∈ [Instr.mack 65536 0 0, .mack 0 0 256, .prep ⟨65536, 0, 0, true, 0, false, []⟩, .prep ⟨0, 2 ^ 64, 0, true, 0, false, []⟩, .prep ⟨0, 0, 8, true, 0, false, []⟩, .prep ⟨0, 0, 0, true, 2 ^ 64, false, []⟩,
      .prep ⟨0, 0, 0, true, 0, false, [⟨0, 1, 256⟩]⟩, .go 65536 0, .go 0 (2 ^ 64), .cpl 65536 ⟨0, 0, 0, 0, true, 0, 0, 0, true, 0⟩ 0, .cpl 0 ⟨1040, 0, 0, 0, true, 0, 0, 0, true, 0⟩ 0,
      .cpl 0 ⟨0, 65536, 0, 0, true, 0, 0, 0, true, 0⟩ 0, .cpl 0 ⟨0, 0, 2 ^ 32, 0, true, 0, 0, 0, true, 0⟩ 0, .cpl 0 ⟨0, 0, 0, 256, true, 0, 0, 0, true, 0⟩ 0, .cpl 0 ⟨0, 0, 0, 0, true, 0, 0, 0, true, 0⟩ (2 ^ 32),
      .ring 0 { head := 4096 }, .ring 0 { fetch := 4096 }, .syncData 905232 0, .syncData 0 1025, .fenceReadComplete { cnt := 2 ^ 64 }, .faultBitClear 2 0 0,
      .commandDoorbell 0 (2 ^ 32), .evciWrite 0 (2 ^ 32), .fwStage {} (some 65536), .sidebandAccess (.regRead 2), .sidebandAccess (.regWrite 2 0),
      .sidebandAccess (.regWrite 0 (2 ^ 32)), .thermalSample [], .thermalSample (List.replicate 20 128), .thermalSample (List.replicate 20 (-129)), .debugAccess (.pool true (2 ^ 46) 0),
      .debugAccess (.pool true 0 (2 ^ 512)), .debugAccess (.cat 65536), .registerWrite 2 0 0, .registerWrite 0 0 16, .ptmResponse (2 ^ 64)], c.wellFormed = false := by
  decide +kernel

theorem test_commands_accepted :
    ∀ c ∈ [Instr.cfgRd {}, .rds (dq 63 (2 ^ 46 - 1)), .sliceBind { target := 511 }, .xepinReq 63 {}, .bar0Access true (2 ^ 26 - 4) 15 (2 ^ 32 - 1), .syncData 905231 1024, .thermalSample (List.replicate 20 (-128)),
      .debugAccess .keyStore, .pfailNFall], c.wellFormed = true := by
  decide +kernel

/-! ### Worked examples of the spec -/

/-- Table 1 of chapter 1 and R388: 2,612 registers. -/
theorem test_register_count : regCount regMap = 2612 := by decide +kernel

/-- Chapter 1, a register write to DS15: RT00 to RT44 in 8 hops. -/
theorem test_route : routeFrom 8 0 { dstCol := 4, dstRow := 4 } = [0, 1, 2, 3, 4, 10, 16, 22, 28] := by decide +kernel

/-- Chapter 2, a failed lane: L186 is lane 2 of port 46. -/
def failedLane : State :=
  sv [(R.PU.LNKSTS.STATE 46, 4), (R.PU.LNKSTS.LWIDTH 46, 3), (R.PU.CFG.ROLE 46, 2), (R.PU.CFG.LREV_EN 46, 1), (R.PU.CFG.WIDTH 46, 1)] { port := [(46, { ex := true, width := 2, neg := 3, partner := { lrev := true }, unlockAt := [(2, 0)] })] }
theorem test_lane_failure :
    let d := after (.lockLoss 46 4) failedLane
    d.get (R.PU.LNKSTS.LANEFAIL 46) = 4 ∧ d.get (R.PU.LNKSTS.LWIDTH 46) = 2 ∧ d.get (R.PU.LNKSTS.REVERSED 46) = 1 ∧ d.is ((Sts.pu 46).bit puLANE) = true := by
  decide +kernel

/-- Chapter 4: pool address 0xC000_1A80. -/
theorem test_directory_hash : dsOf (0xC0001A80 / 64) = 10 ∧ lineSet (0xC0001A80 / 64) = 198 ∧ tagOf (0xC0001A80 / 64) = 0xC00 ∧ 0xC0001A80 / 2 ^ 30 = 3 := by decide +kernel

/-- Chapter 5: the record of the refused part, and the translation of part B. -/
def readOnlyPage : Dev :=
  dv [] { slices := [(130, { st := 1, port := 20, defRd := true, defWr := true, win0 := { base := 0x100, ext := 0x200, num := 3, en := true } })],
          extents := [(0x202, { valid := true, st := 1, port := 44, dpa := 0xA })],
          rules := [(1040, { en := true, rd := true, src := 7, base := 0x4080000, limit := 0x4080000 })] }
theorem test_region_rule :
    readOnlyPage.regionCheck 130 0x4080000800 2 2 = some { kind := 2, rule := 0, hit := true } ∧ (readOnlyPage.checkPart 130 0x4080001000 2 2).toOption = some 0x8080001000 ∧ readOnlyPage.dpa 0x8080001000 = 0x280001000 := by
  decide +kernel
theorem test_violation_record :
    let d := readOnlyPage.pvRecord 0x70010 130 20 2 { kind := 2, rule := 0, hit := true } 0x4080000800 true false
    d.readWord 0x70014 = some 0x80000800 ∧ d.readWord 0x70018 = some 0x40 ∧ d.readWord 0x7001C = some 0x03092882 := by
  decide +kernel

/-- Chapter 6, gate timing: the list of port 40 at a fabric time. -/
def gates (t : Nat) : Dev :=
  dv [(R.PRS.STATE.SEQ, 1), (R.SCH.GCTL.EN 40, 1)] { time := { ft := t }, gcls := [(80, { base := 1000000000, last := 2, entries := [(0, ⟨3, 40000⟩), (1, ⟨4, 9000⟩), (2, ⟨15, 1000⟩)] })] }
theorem test_gates :
    ((gates 1000139995).gcl 80).cycle = 50000 ∧ (gates 1000139995).gateOpen 40 1 2 = true ∧ (gates 1000139995).gateOpen 40 1 6 = false ∧ (gates 1000139995).gateOpen 40 2 1 = false ∧
      (gates 1000148950).gateOpen 40 2 65 = true ∧ (gates 1000148950).gateOpen 40 2 1051 = false := by
  decide +kernel

/-- Chapter 7, an indirect copy: the descriptor of slot 37 at an offset. Slice 200's windows map the source to extent 1. -/
def indirectCopy (off : Nat) : State :=
  sv [(R.PU.LNKSTS.STATE 16, 4), (R.PU.CFG.ROLE 16, 1)]
    { slices := [(200, { st := 1, port := 16, pasidEn := true, defRd := true, defWr := true, win0 := { base := 0x80, ext := 1, num := 0, en := true } })], extents := [(1, { valid := true, st := 1, port := 44 })],
      buf := { resv := [(200, 256)] }, port := [(16, { ex := true, width := 4 })], queues := [(401, { st := 1, size := 8, en := true })],
      skid := { acts := [{ q := 401, slot := 37, gen := 0, off := off, srcFr := [⟨0x2000000F00, 768, false⟩, ⟨0x2000040000, 8192, false⟩, ⟨0x2000100800, 6144, false⟩],
                           d := { op := 1, srcInd := true, dstSp := true, tag := 0x5A17, len := 15104, dst := 0x7F1000000040, srcNfrag := 3 } }] } }
theorem test_burst_table :
    ∀ x ∈ [(0, 0x2000000F00, 256), (256, 0x2000001000, 512), (768, 0x2000040000, 3264), (4032, 0x2000040CC0, 832), (4864, 0x2000041000, 3264), (8128, 0x2000041CC0, 832), (8960, 0x2000100800, 2048),
      (11008, 0x2000101000, 1216), (12224, 0x20001014C0, 2880)],
    ((indirectCopy x.1).dev.issueBurst 401 37).skid.accs.map (fun b : SkAcc => (b.off, b.src, b.n, b.dst)) = [(x.1, x.2.1, x.2.2, 0x7F1000000040 + x.1)] := by
  decide +kernel

/-- Chapter 8, a missed flush: port 50 has not answered when GPF_WAIT expires. -/
def missedFlush : State := sv [(R.PRS.STATE.SEQ, 4), (R.PRS.GPFOK_H.VALUE, 0x15515000)] { prs := { gpf := [(50, 2)] } }
theorem test_missed_flush :
    let d := after .gpfWaitExpire missedFlush
    d.get R.PRS.GPFOK_H.VALUE = 0x15515000 ∧ d.get R.PRS.GPFMISS_H.VALUE = 0x00040000 := by
  decide +kernel

/-- Chapter 9: slice SL077, pool address 0x28D_C1F2_5000. -/
theorem test_bucket : bucketOf 77 0x28DC1F25000 = 15 ∧ 0x28DC1F25000 / 2 ^ 30 = 0xA37 := by decide +kernel

/-- Chapter 10, loss of the PRIMARY: the fence read shows the count of the last heartbeat, then 0x0012_A4F9. -/
def lostPrimary : State :=
  sv [(R.PAIR.CTL.EN, 1), (R.PAIR.CTL.FENCE_EN, 1), (R.PAIR.STATE.PSTATE, 4), (R.PAIR.STATE.ROLE, 1), (R.PAIR.PHBCNT_L.VALUE, 0x12A4F1)] { pair := { read := true } }
theorem test_loss_of_primary :
    (after (.fenceReadComplete { cnt := 0x12A4F1 }) lostPrimary).pst = 5 ∧ (after (.fenceReadComplete { cnt := 0x12A4F9 }) lostPrimary).pst = 6 := by
  decide +kernel

/-- Chapter 11, a shorted module: the third fast trip of SP10. -/
def shortedModule : State := sv [(R.SLT.STS.STATE 10, 2), (R.SLT.STS.TRIES 10, 2), (R.SLT.CTL.RETRIES 10, 2), (R.SLT.CTL.EN 10, 1), ((Sts.slt 10).bit 0, 1), ((Sts.slt 10).firstF, 1)]
theorem test_shorted_module : (after (.fastTrip 10) shortedModule).readWord 0x90A08 = some 0x000B0C09 := by decide +kernel

/-- Chapter 12: bytes 0 to 16 of SLOT_OFF. -/
def slotOff : PyrCmd := { opcode := 0x21, crit := true, irq := true, cid := 0x58, prin := 3, target := 10, cnt := 0x100021C41, params := 1 }
theorem test_command_bytes :
    leBytes slotOff.header 16 ++ leBytes (slotOff.par 16 1) 1 = [0x21, 0x03, 0x58, 0, 3, 0, 0x0A, 0, 0x41, 0x1C, 2, 0, 1, 0, 0, 0, 1] := by
  decide +kernel

/-- FIPS 180-4's "abc", and RFC 4231's second case, of the algorithms R330 names. -/
theorem test_sha256 :
    ofLe (sha256 [0x61, 0x62, 0x63]).reverse = 0xba7816bf8f01cfea414140de5dae2223b00361a396177a9cb410ff61f20015ad := by decide +kernel
theorem test_hmac :
    ofLe (hmacSha256 [74, 101, 102, 101] ("what do ya want for nothing?".toList.map Char.toNat)).reverse = 0x5bdcc146bf60754e6a042426089575c75a003f089d2739839dec58b964ec3843 := by decide +kernel

/-- RFC 3394's example 4.6, of the key wrap KEY_INSTALL names. -/
theorem test_key_unwrap :
    keyUnwrap (ofLe (List.range 32)) 4 (ofLe (beBytes 0x28C9F404C4B810F4CBCCB35CFB87F8263F5786E2D80ED326CBC7F0E71A99F43BFB988B9B7A02DD21 40)) =
      some (ofLe (beBytes 0x00112233445566778899AABBCCDDEEFF000102030405060708090A0B0C0D0E0F 32)) := by decide +kernel

/-- Chapter 15: the registers of PU46, event source 184, counter 195. -/
theorem test_port46 :
    (R.PU.LNKSTS.STATE 46).key / 32 = 0x12E008 ∧ (Sts.pu 46).off = 0x12E018 ∧ (dv [((Sts.pu 46).bit puLANE, 1)]).active 184 = true ∧ (dv [((Sts.pu 46).bit puLANE, 1)]).readWord 0x20054 = some (2 ^ 24) ∧
      (dv [] { ctrvals := [(195, 2 ^ 32 + 5)] }).readWord 0x10A0618 = some 5 := by
  decide +kernel

/-- The table gives no row bits: no word spells a command. -/
theorem test_no_word_spells_a_command : decodeTableWord 32 0 = none ∧ State.reset.withFetchWord 32 0 = State.reset := by decide +kernel

/-! ### What the statements' hypotheses allow -/

/-- The first five statements: packets, requests, quiescing, domains. -/
theorem meets_routes :
    let s := sv []
    s.live ∧ s.dev.inj = [] ∧ routeFrom 10 35 {} = [35, 34, 33, 32, 31, 30, 24, 18, 12, 6, 0] ∧ s.dev.quiesced 34 = false ∧
      (sv [] { noc := { transit := [(35, 35, {})] } }).dev.arrivalOf 35 {} = some (35, 35, {}) := by
  decide +kernel
def waitsAt1 : Dev := { noc := { locals := [(0, { typ := 4 })], waiting := [(0, { dstCol := 1, typ := 4 }), (0, { dstCol := 1, srcCol := 5 }), (0, { dstCol := 1 })], bridge := [{ dstCol := 1 }], reqs := [⟨.bridge, 1023, false, 0, 0⟩], held := [(31, { typ := 4 })] } }
theorem meets_flits :
    let s := sv [(R.NOC.CTL.QUIESCE 1, 1), (R.NOC.CTL.LOCAL_EN 35, 3)] waitsAt1
    let p : Packet := { dstCol := 5, dstRow := 5, dstPort := 1, typ := 7, data := List.replicate 8 0 }
    s.live ∧ nextHop 0 { dstCol := 1 } = some 1 ∧ s.dev.quiesced 1 = true ∧ nextHop 35 p = none ∧ hasBit (s.dev.get (R.NOC.CTL.LOCAL_EN 35)) 1 = true ∧ s.dev.dom = [] ∧ p.data.length = 8 := by
  decide +kernel
/-- Two packets of one path (R29), four held for DS15 (R33), a request of the Curator that enters at RT05 (R31, R32). -/
theorem meets_arrivals :
    let a : Packet := { dstCol := 1 }
    let b : Packet := { dstCol := 1, tag := 1 }
    let s := sv [(R.NOC.CTL.E2E_GEN 5, 1)] { noc := { transit := [(0, 1, a), (0, 1, b)], held := List.replicate 4 (31, { typ := 1 }) }, dom := [(31, .waking)] }
    let c : Packet := { dstCol := 4, dstRow := 4, addr := 0x20F008 }
    let e : Packet := { srcCol := 5, srcPort := 0, typ := 1, data := [0] }
    s.live ∧ s.dev.arrivalOf 1 a = some (0, 1, a) ∧ s.dev.arrivalOf 1 b = none ∧ s.dev.backedUp 1 a = false ∧ (sv [] { noc := { transit := [(22, 28, c)], held := List.replicate 4 (31, {}) }, dom := [(31, .waking)] }).dev.backedUp 28 c = true ∧
      sourceOf e = some .curator ∧ e.src = 5 ∧ e.isReq = true ∧ s.dev.findReq .curator 0 = none ∧ nextHop 5 e = some 4 ∧ s.dev.quiesced 4 = false ∧ s.dev.quiesced 5 = false ∧ s.dev.inj = [] ∧
      (sv [(R.NOC.CTL.QUIESCE 5, 1)]).dev.quiesced 5 = true := by
  decide +kernel
theorem meets_bar0 :
    (sv []).live ∧ bar0Target 0x3FFFFFC = none ∧ bar0Target 0x90A08 = some (35, 1) ∧ (sv []).dev.quiesced 0 = false ∧ (sv [(R.NOC.CTL.QUIESCE 0, 1)]).dev.quiesced 0 = true := by
  decide +kernel
theorem meets_answers :
    let s := sv [] waitsAt1
    let p : Packet := { dstPort := 0, typ := 4, tag := 1023 }
    s.live ∧ srcOf p = some .bridge ∧ s.dev.findReq .bridge 1023 = some ⟨.bridge, 1023, false, 0, 0⟩ ∧ srcOf { p with ret := true, err := 15 } = some .bridge ∧
      (0, { dstCol := 1, typ := 4 }) ∈ s.dev.noc.waiting ∧ ({ dstCol := 1, typ := 4 } : Packet).isReq = false ∧ (0, { dstCol := 1, srcCol := 5 }) ∈ s.dev.noc.waiting ∧ ({ dstCol := 1, srcCol := 5 } : Packet).isReq = true ∧
      nextHop 0 (({ dstCol := 1, srcCol := 5 } : Packet).returned 1) = some 1 ∧ s.dev.quiesced 1 = false ∧ s.dev.inj = [] := by
  decide +kernel
theorem meets_quiesce_and_gate :
    let s := sv [(R.NOC.CTL.QUIESCE 35, 1)] { waitsAt1 with dom := [(30, .gated), (31, .waking), (29, .entering), (15, .waking)] }
    s.live ∧ s.writable ∧ s.dev.settled ∧ s.dev.quiesced 35 = true ∧ s.dev.routerEmpty 35 = true ∧ s.dev.domSt 30 = .gated ∧ s.dev.domSt 31 = .waking ∧ s.dev.domSt 29 = .entering ∧ s.dev.domSt 15 = .waking ∧
      (∀ e ∈ s.dev.noc.held, e.1 = 15 → e.2.isReq = false) ∧ s.dev.domSt 28 = .on ∧ (∃ k, k < 32 ∧ s.dev.domSt k = .on ∧ s.dev.mayGate k = true) ∧ (∃ k, k < 32 ∧ (sv [(R.PU.CFG.ROLE 0, 1)] { port := [(0, { ex := true })] }).dev.mayGate k = false) := by
  decide +kernel
theorem meets_local_en :
    let s := sv []
    let t := sv [(R.NOC.STS.QUIESCED 35, 1)]
    s.live ∧ s.writable ∧ bits (0 : Word).toNat 2 2 ≠ s.dev.get (R.NOC.CTL.LOCAL_EN 35) ∧ s.dev.is (R.NOC.STS.QUIESCED 35) = false ∧ t.live ∧ t.writable ∧ t.dev.is (R.NOC.STS.QUIESCED 35) = true := by
  decide +kernel

/-- Clocks, rails, temperature, MODE. -/
theorem meets_clocks :
    let s := sv []
    let t : State := State.reset
    s.dev.clk.refclk = true ∧ s.dev.clk.locked = true ∧ s.dev.clk.holdover = false ∧ s.dev.is (Sts.ctp.bit 2) = false ∧
      t.dev.pins.perstN = true ∧ t.dev.clk.locked = false ∧ t.dev.clk.pllFail = false ∧ t.dev.clk.refclk = true ∧ t.dev.clk.aon = true ∧ t.dev.clk.coreLow = [] := by
  decide +kernel
theorem meets_rails_and_mode :
    let s := sv []
    let t := st [(R.PRS.STATE.SEQ, 1), (R.TOP.DSTATE.MODE, 2)]
    0 < (railRange 6).1 ∧ (railRange 0).1 ≤ (railRange 0).2 ∧ s.live ∧ s.writable ∧ (List.replicate 20 (112 : Int)).length = 20 ∧ 112 ≤ (hottest (List.replicate 20 112)).1 ∧ s.dev.saving = false ∧
      s.dev.is R.TOP.THRSTS.ENGAGED = false ∧ (s.dev.get R.TOP.THRCTL.THROTTLE_C : Int) ≤ (hottest (List.replicate 20 112)).1 ∧ (hottest (List.replicate 20 (-128))).1 ≤ (s.dev.get R.TOP.THRCTL.THROTTLE_C : Int) - 5 ∧
      s.dev.get R.TOP.DSTATE.MODE = 1 ∧ t.live ∧ t.writable ∧ t.dev.get R.TOP.DSTATE.MODE = 2 := by
  decide +kernel

/-- A port in a state of bring-up. -/
def port (p role state : Nat) : List (Fld × Nat) := [(R.PU.CFG.ROLE p, role), (R.PU.LNKSTS.STATE p, state)]

/-- Ports, links, lanes. -/
theorem meets_link_enable :
    let s := sv [(R.PU.CFG.ROLE 63, 1)]
    s.live ∧ s.configurable ∧ s.dev.committing = false ∧ s.dev.is (R.PU.LNKCTL.ENABLE 63) = false ∧ s.dev.cfgLegal 63 = true ∧ s.dev.cfgLegal 62 = false ∧ s.dev.is (R.PU.LNKCTL.ENABLE 62) = false ∧
      (sv [(R.PU.LNKCTL.ENABLE 63, 1)]).dev.is (R.PU.LNKCTL.ENABLE 63) = true := by
  decide +kernel
def training (state rate target : Nat) : State :=
  sv (port 63 2 state ++ [(R.PU.LNKSTS.RATE 63, rate), (R.PU.CFG.MAX_RATE 63, 5)]) { port := [(63, { ex := true, target := target })] }
theorem meets_training :
    let s := training 2 0 0
    s.live ∧ (s.dev.prt 63).ex = true ∧ s.dev.linkSt 63 = 2 ∧ s.dev.refused39 63 { cxl := false } = true ∧ s.dev.refused39 63 { maxRate := 0 } = false ∧ s.dev.targetRate 63 { maxRate := 0 } = 0 ∧
      s.dev.refused39 63 {} = false ∧ s.dev.targetRate 63 {} ≠ 0 ∧ (training 3 4 5).live ∧ (training 3 4 5).dev.linkSt 63 = 3 ∧ (training 3 4 5).dev.nextRate 63 = 5 ∧ eqBit 5 = some 3 ∧ (training 3 3 5).dev.nextRate 63 = 4 ∧
      (training 3 3 5).dev.linkSt 63 = 3 := by
  decide +kernel
def upLink (p role : Nat) (regs : List (Fld × Nat)) (r : PortRt) : State := sv (port p role 4 ++ regs) { port := [(p, { r with ex := true })] }
theorem meets_lane_loss :
    let s := upLink 63 2 [] { neg := 2, unlockAt := [(0, 0), (1, 0), (2, 0), (3, 0)] }
    s.live ∧ s.writable ∧ (s.dev.prt 63).ex = true ∧ s.dev.linkSt 63 = 4 ∧ s.dev.role 63 ≠ 3 ∧ s.dev.role 63 ≠ 4 ∧ s.dev.lostLanes 63 8 = [3] ∧ s.dev.lostLanes 63 0 = [] ∧ laneCount 1 = 4 ∧ s.dev.legalWidth 63 3 (s.dev.marked 63 ++ [3]) = some (1, false) ∧
      s.dev.lostLanes 63 15 ≠ [] ∧ s.dev.legalWidth 63 3 (s.dev.marked 63 ++ s.dev.lostLanes 63 15) = none ∧ s.dev.portOf 63 = some 63 := by
  decide +kernel
theorem meets_link_power :
    let s := upLink 63 1 [(R.PU.PMCTL.L1_EN 63, 1), (R.PU.LNKSTS.PM 63, 1), (R.PU.LNKSTS.FLIT 63, 2)] { neg := 4 }
    let t := upLink 62 2 [(R.PU.PMCTL.L1_EN 62, 1)] {}
    s.live ∧ s.configurable ∧ s.dev.committing = false ∧ s.dev.isHost 63 = true ∧ s.dev.isUp 63 = true ∧ s.dev.is (R.PU.PMCTL.L1_EN 63) = true ∧ s.dev.get (R.PU.LNKSTS.PM 63) < 2 ∧ 2 ≤ s.dev.get (R.PU.LNKSTS.FLIT 63) ∧
      4 - 1 < (s.dev.prt 63).neg ∧ s.dev.get (R.PU.PMCTL.L0P_WIDTH 63) ≠ 7 ∧ s.dev.get (R.PU.LNKSTS.PM 63) ≠ 0 ∧ t.live ∧ t.dev.isMem 62 = true ∧ t.dev.isUp 62 = true ∧ t.dev.is (R.PU.PMCTL.L1_EN 62) = true := by
  decide +kernel
theorem meets_ide :
    let s := upLink 63 1 [(R.PU.IDECTL.CM_EN 63, 1), (R.PU.IDECTL.IO_EN 63, 1), (R.PU.IDECTL.CONTAIN 63, 1)] {}
    s.live ∧ s.dev.isUp 63 = true ∧ s.dev.isHost 63 = true ∧ s.dev.is (R.PU.IDECTL.CM_EN 63) = true ∧ s.dev.is (R.PU.IDECTL.IO_EN 63) = true ∧ s.dev.is (R.PU.IDECTL.CONTAIN 63) = true := by
  decide +kernel
theorem meets_diagnostics :
    let s := sv (port 63 1 5 ++ [(R.PU.PRBSCTL.RATE 63, 6)]) { port := [(63, { ex := true, scan := some 3 })] }
    let t := sv (port 63 1 5 ++ [(R.PU.PRBSCTL.RUN 63, 1), (R.PU.EYECTL.START 63, 1)]) { port := [(63, { ex := true, scan := some 3 })] }
    s.live ∧ s.writable ∧ s.dev.is (R.PU.PRBSCTL.RUN 63) = false ∧ s.dev.get (R.PU.PRBSCTL.RATE 63) = 6 ∧ xepStand 63 = false ∧ s.dev.is (R.PU.PRBSCTL.RUN 51) = false ∧ xepStand 51 = true ∧ s.dev.is (R.PU.EYECTL.START 63) = false ∧
      t.live ∧ t.writable ∧ t.dev.is (R.PU.PRBSCTL.RUN 63) = true ∧ t.dev.portOf 63 = some 63 ∧ t.dev.linkSt 63 = 5 ∧ t.dev.is (R.PU.EYECTL.START 63) = true ∧ (t.dev.prt 63).scan = some 3 := by
  decide +kernel

/-- The switch core: units, credits, selection, hold, requests, policers, gates. -/
def ioMsg : Msg := { kind := .ioRead, dataIn := false, egress := 2, bytes := 16 }
def unit63 (good carries : Bool) (heads : List Msg) : RxUnit := ⟨.flit256, 1, 0, good, 63, carries, heads, [], []⟩
theorem meets_units :
    let s := upLink 63 2 [] { seq := some (0, 1), saf := [[1], []] }
    let full : State := { s with dev := { s.dev with buf := { opens := (List.range 128).map (fun i => (100 + i, (4096 * (i / 2) + i % 2, 1))) } } }
    s.live ∧ s.dev.settled ∧ s.dev.portOf 63 = some 63 ∧ s.dev.isUp 63 = true ∧ s.dev.isMem 63 = true ∧ s.dev.ideOk 63 = true ∧ (unit63 true false []).isNext (s.dev.prt 63).seq = true ∧
      (unit63 true false []).isNext (some (1, 1)) = false ∧ s.dev.role 63 = 2 ∧ s.dev.lost 2 = false ∧ (s.dev.buf.startFlit 63 (unit63 true true [ioMsg])).cellFor 63 4 63 = some (63 * 4096, s.dev.buf) ∧
      (s.dev.prt 63).saf = [1] :: [[]] ∧ full.live ∧ full.dev.settled ∧ full.dev.portOf 63 = some 63 ∧ (full.dev.buf.startFlit 63 (unit63 true true [])).cellFor 63 4 63 = none := by
  decide +kernel
theorem meets_credits :
    let s := upLink 63 1 [] {}
    let full : State := { s with dev := { s.dev with slices := [(511, { st := 1, port := 63 })], buf := { charge := [(511, 262144)] } } }
    let mem := fun (n : Nat) => upLink 62 2 [] {} |> fun (x : State) => { x with dev := { x.dev with buf := { sysUse := [(62, n)] } } }
    (∀ n ∈ [(55, false), (56, true)], (mem n.1).live ∧ (mem n.1).dev.isMem 62 = true ∧ (mem n.1).dev.isUp 62 = true ∧ (mem n.1).dev.ideOk 62 = true ∧ (mem n.1).dev.reserveFull 62 = n.2) ∧ CreditKind.isIo .ioPHdr = true ∧
      s.live ∧ s.dev.isHost 63 = true ∧ s.dev.isUp 63 = true ∧ s.dev.ideOk 63 = true ∧ CreditKind.granted .memReq (s.dev.get R.PRS.STATE.SEQ) = true ∧ s.dev.is R.PAIR.SYNCSTS.JOINER = false ∧
      (let j := upLink 63 1 [(R.PAIR.SYNCSTS.JOINER, 1)] {}
       j.live ∧ j.dev.isHost 63 = true ∧ j.dev.isUp 63 = true ∧ j.dev.ideOk 63 = true ∧ CreditKind.granted .memData (j.dev.get R.PRS.STATE.SEQ) = true ∧ j.dev.is R.PAIR.SYNCSTS.JOINER = true) ∧
      s.dev.mayGrant 63 1 s.dev.slicesOf = true ∧ full.live ∧ full.dev.isHost 63 = true ∧ full.dev.mayGrant 63 1 full.dev.slicesOf = false ∧ (s.dev.sl 511).st = slFree ∧ s.dev.buf.chg 511 = 0 := by
  decide +kernel
theorem meets_selection :
    let s := upLink 63 1 [(R.SCH.PSHP.RATE 63, 1)] {}
    let m : Msg := { id := 9, cls := .scp, kind := .cpl, egress := 63, bytes := 16, op := .cmp }
    let t : State := { s with dev := { s.dev with buf := { msgs := [m] } } }
    let u : State := { s with dev := { s.dev with sched := { prt := [(63, ⟨-1000, 0⟩)] } } }
    (sv []).live ∧ (sv []).dev.mayTransmit 63 = false ∧ t.live ∧ t.dev.mayTransmit 63 = true ∧ t.dev.buf.msgs.find? (fun m => m.cls == .scp && t.dev.eligible 63 m) = some m ∧ m.readErr .none = .none ∧ t.dev.isXep 63 = false ∧ t.dev.tagged 63 m = false ∧ t.dev.stale m = false ∧
      (let o := { m with slice := some 511, gen := 1 }
       let v : State := { s with dev := { s.dev with buf := { msgs := [o] } } }
       v.live ∧ v.dev.mayTransmit 63 = true ∧ v.dev.buf.msgs.find? (fun m => m.cls == .scp && v.dev.eligible 63 m) = some o ∧ v.dev.stale o = true) ∧
      u.live ∧ u.dev.mayTransmit 63 = true ∧ u.dev.buf.msgs = [] ∧ u.dev.saving = false ∧ u.dev.get (R.SCH.PSHP.RATE 63) ≠ 0 ∧ (u.dev.portLevel 63).level < 0 := by
  decide +kernel
theorem meets_hold :
    let s := upLink 63 2 [(R.PU.EPOCH.EPOCH 63, 255)] { hold := 1, outs := [⟨4095, 15, { kind := .memRead, src := .host 62 }, false⟩] }
    let t := sv [(R.PU.CFG.ROLE 1, 4)] { port := [(1, { ex := true, hold := 1 })] }
    s.live ∧ (s.dev.prt 63).hold = holdHold ∧ s.dev.role 63 ≠ 4 ∧ t.live ∧ (t.dev.prt 1).hold = holdHold ∧ t.dev.role 1 = 4 ∧ s.dev.isUp 63 = true ∧ s.dev.isMem 63 = true ∧ s.dev.settled ∧
      (∀ o ∈ (s.dev.prt 63).outs, o.idx ≠ 0 % 4096) ∧ (∃ o ∈ (s.dev.prt 63).outs, o.idx = 65535 % 4096) ∧ 65535 / 4096 % 16 = s.dev.get (R.PU.EPOCH.EPOCH 63) % 16 ∧ 0x7FFF / 4096 % 16 ≠ s.dev.get (R.PU.EPOCH.EPOCH 63) % 16 ∧ s.dev.ideOk 63 = true ∧
      s.dev.arrival (fun m => m.kind == .data && m.tag == 65535 && s.dev.portOf m.pu == some 63) = none ∧ s.dev.buf.room (cellsFor 80) = true ∧
      (let o : OutReq := ⟨4095, 15, { kind := .memRead, src := .host 62 }, false⟩
       (s.dev.prt 63).outs.find? (fun o => o.idx == 65535 % 4096) = some o ∧ o.msg.kind = .memRead ∧ o.msg.home = false ∧ o.msg.src = .host 62 ∧ s.dev.stale o.msg = false ∧ s.dev.broughtBy o.msg.asReq = none ∧ s.dev.lost 62 = false) := by
  decide +kernel
theorem meets_host_io :
    ∀ q < 9, let s := upLink 63 1 [(R.PRS.STATE.SEQ, q)] {}
      s.live ∧ s.dev.isHost 63 = true ∧ s.dev.isUp 63 = true ∧ s.dev.ideOk 63 = true ∧ s.dev.settled ∧ s.dev.lost 63 = false ∧ s.dev.buf.msgs = [] ∧ s.dev.buf.room (cellsFor (IoReq.memRd 0 4096).bytes) = true ∧ s.dev.get R.PRS.STATE.SEQ = q := by
  decide +kernel
theorem meets_policers :
    let m : Msg := { id := 9, slice := some 511, stage := 0, kind := .memRead, egress := 63 }
    let s := sv [] { buf := { msgs := [m] }, port := [(63, { ex := true })] }
    let t : State := { s with dev := { s.dev with polices := [(511, { pir := 1 })], sched := { peak := [(511, ⟨-1, 0⟩)] } } }
    s.live ∧ s.configurable ∧ s.dev.committing = false ∧ s.dev.settled ∧ s.dev.buf.msgs.find? (fun m => m.stage == 0 && m.slice == some 511) = some m ∧ s.dev.stale m = false ∧ m.kind ≠ .memInv ∧ (s.dev.policeTry 511 m.cost).2 = true ∧ s.dev.needsDir m = false ∧
      s.dev.lost 63 = false ∧ t.live ∧ t.dev.settled ∧ t.dev.stale m = false ∧ t.dev.buf.msgs.find? (fun m => m.stage == 0 && m.slice == some 511) = some m ∧ (t.dev.policeTry 511 m.cost).2 = false ∧ unpackClass (packClass { weight := 255, burst := 1 }) = { weight := 255, burst := 1 } ∧ (s.dev.prt 63).ex = true := by
  decide +kernel
theorem meets_gate_lists :
    let on := fun (r : List (Fld × Nat)) => sv r { port := [(63, { ex := true })], gcls := [(126, { last := 63, entries := (List.range 64).map (fun i => (i, { dur := 1000000 })) })] }
    let s := on []
    let t := on [(R.SCH.GCTL.EN 63, 1), (R.SCH.GCTL.OPER 63, 1)]
    s.live ∧ s.configurable ∧ s.dev.committing = false ∧ (s.dev.prt 63).ex = true ∧ s.dev.is (R.SCH.GCTL.EN 63) = false ∧ (s.dev.gcl (s.dev.operBank 63)).legal = true ∧
      ((on [(R.SCH.GCTL.OPER 63, 1)]).dev.gcl ((on [(R.SCH.GCTL.OPER 63, 1)]).dev.operBank 63)).legal = false ∧ s.dev.is (R.SCH.GCTL.SWAP 63) = false ∧ (s.dev.gcl 127).legal = false ∧
      t.live ∧ t.configurable ∧ t.dev.is (R.SCH.GCTL.SWAP 63) = false ∧ t.dev.is (R.SCH.GCTL.EN 63) = true ∧ (t.dev.gcl (2 * 63 + (1 - t.dev.get (R.SCH.GCTL.OPER 63)))).legal = true ∧
      (let w := fun (at_ : Nat) => sv [(R.SCH.GCTL.SWAP 63, 1)] { port := [(63, { ex := true })], sched := { swap := [(63, at_)] } }
       ∀ n ∈ [0, 1], (w n).live ∧ ((w n).dev.prt 63).ex = true ∧ (w n).dev.is (R.SCH.GCTL.SWAP 63) = true ∧ ((w n).dev.ft < Tbl.get (w n).dev.sched.swap 0 63 ↔ n = 1) ∧ (w n).dev.inPair = false) := by
  decide +kernel

/-- The coherent home: hosts on 63 and 62, memory on 44, extent 3 in window 255. The line is chapter 4's. -/
def home (cw : Bool) (atomOk : Bool) (r : DirRt) (buf : Buf := {}) : State :=
  sv (port 63 1 4 ++ port 62 1 4 ++ port 44 2 4)
    { port := [(44, { ex := true }), (62, { ex := true }), (63, { ex := true })], extents := [(3, { valid := true, st := 1, port := 44, atomOk := atomOk })],
      cwins := if cw then [(255, { first := 3, en := true, elig := 2 ^ 64 - 1 })] else [], dirs := [(10, r)], buf := buf }
/-- The request of the example, from port 63. -/
def rq : DirReq := dq 63 0xC0001A80
/-- Its slice with the line's entry in way 15. -/
def held (st : DirSt) (owner sharers : Nat) : DirRt := { ents := [(16 * 198 + 15, { tag := 0xC00, st := st, owner := owner, sharers := sharers, win := 255 })] }
theorem meets_private_memory :
    let s := home false true {}
    let t := home false false {}
    s.live ∧ s.dev.settled ∧ rq.src = .host 63 ∧ s.dev.reaches rq.pool ∧ s.dev.winOf (rq.pool / 2 ^ 30) = none ∧ s.dev.lost 63 = false ∧ s.dev.lost (s.dev.memPort rq.slice rq.pool) = false ∧ s.dev.fresh ∧
      (s.dev.ext (rq.pool / 2 ^ 30)).atomOk = true ∧ t.live ∧ t.dev.settled ∧ t.dev.reaches rq.pool ∧ (t.dev.ext (rq.pool / 2 ^ 30)).atomOk = false ∧ t.dev.lineFree rq.pool ∧
      t.dev.lost (t.dev.memPort rq.slice (rq.pool / 64 * 64)) = false ∧ s.dev.admits rq ∧ t.dev.admits rq ∧ ((t.dev.dirAt rq.pool).trks.filter (fun t => t.bt == .atom)).length < 64 ∧
      (let m : Msg := { src := .host 63, tag := 7, pool := 0xC0001A80, bytes := 16, stage := 2, slice := some 0, gen := 1 }
       let o := home false true {} { msgs := [m] }
       o.live ∧ o.dev.settled ∧ o.dev.reaches rq.pool ∧ o.dev.winOf (rq.pool / 2 ^ 30) = none ∧ o.dev.lost 63 = false ∧ (o.dev.brought rq).sliceOf.any (fun x => o.dev.gen x != (o.dev.brought rq).gen) = true) := by
  unfold Dev.reaches Dev.lineFree Dev.admits; decide +kernel
def homeOk (s : State) : Prop :=
  s.live ∧ s.dev.settled ∧ s.dev.reaches rq.pool ∧ s.dev.admits rq ∧ s.dev.lineFree rq.pool ∧ s.dev.inWindow 63 rq.pool 255 { first := 3, en := true, elig := 2 ^ 64 - 1 } ∧ s.dev.lost 63 = false ∧ s.dev.lost (s.dev.memPort rq.slice rq.pool) = false ∧
    s.dev.lost (s.dev.memPort rq.slice (rq.pool / 64 * 64)) = false ∧ s.dev.paired = false ∧ (s.dev.dirAt rq.pool).fresh < 256 ∧ s.dev.fresh ∧ ((s.dev.dirAt rq.pool).trks.filter (fun t => t.bt == .atom)).length < 64
theorem meets_home : homeOk (home true false {}) ∧ homeOk (home true false (held .m 62 (2 ^ 62))) ∧ homeOk (home true false (held .m 63 (2 ^ 63))) ∧
    homeOk (home true false { held .s 0 (2 ^ 62 + 2 ^ 63) with fresh := 255 }) := by
  unfold homeOk Dev.reaches Dev.admits Dev.lineFree Dev.inWindow; refine ⟨?_, ?_, ?_, ?_⟩ <;> decide +kernel
theorem meets_coherent_requests :
    let find := fun (r : DirRt) => r.find 198 0xC00
    let x := fun (r : DirRt) => ((find r).getD (0, {})).2
    find {} = none ∧ DirRt.freeOne {} 198 = some 0 ∧ find (held .m 62 (2 ^ 62)) = some (15, x (held .m 62 (2 ^ 62))) ∧ (x (held .m 62 (2 ^ 62))).owner = 62 ∧ (home true false (held .m 62 (2 ^ 62))).dev.lost 62 = false ∧
      (x (held .s 0 (2 ^ 62 + 2 ^ 63))).holders (some 63) = [62] ∧ (x (held .m 63 (2 ^ 63))).holders (some 63) = [] ∧ (x (held .m 63 (2 ^ 63))).lists { rq with cls := .wb, mv := .i } = true ∧
      clrB (x (held .m 63 (2 ^ 63))).sharers 63 = 0 ∧ (x (held .m 63 (2 ^ 63))).ac = false ∧ (x (held .m 63 (2 ^ 63))).st ≠ .b := by
  decide +kernel
/-- The line is busy for port 62. -/
def busyTrk (waits : List Nat) (bitag : Option Nat) (memWait : Bool) : Tracker := { line := 0x300006A, bt := .inv, req := { dq 62 0xC0001A80 with cls := .inv }, waits := waits, bitag := bitag, memWait := memWait }
def parked (n m : Nat) : DirRt :=
  { trks := [busyTrk [61] (some 0) false], park := (List.range n).map (fun i => ⟨dq 62 (64 * i), true, 62, .line, false⟩) ++ (List.range m).map (fun i => ⟨dq 63 (64 * i), false, 63, .line, false⟩) }
theorem meets_parking :
    (∀ n ∈ [(255, 0), (256, 1), (256, 2)], let s := home true false (parked n.1 n.2)
      s.live ∧ s.dev.settled ∧ s.dev.reaches rq.pool ∧ s.dev.admits rq ∧ s.dev.inWindow 63 rq.pool 255 { first := 3, en := true, elig := 2 ^ 64 - 1 } ∧ (s.dev.dirAt rq.pool).trk (rq.pool / 64) = some (busyTrk [61] (some 0) false) ∧
        ((s.dev.dirAt rq.pool).park.filter (fun k => k.shared && !k.rcl)).length = n.1 ∧ ((s.dev.dirAt rq.pool).park.filter (fun k => !k.shared && !k.rcl && k.key == 63)).length = n.2) ∧
      (63 ∉ (busyTrk [61] (some 0) false).waits) ∧ ({ first := 3, en := true, elig := 2 ^ 64 - 1 } : CWinE).predEn = false := by
  unfold Dev.reaches Dev.admits Dev.inWindow; decide +kernel
theorem meets_snoop_answers :
    let s := home true false { trks := [busyTrk [62, 63] (some 255) true] }
    let t := home true false { trks := [busyTrk [63] (some 255) false], back := [(254, [1], 0)] }
    s.live ∧ s.dev.settled ∧ s.dev.mirrorPort = none ∧ s.dev.ideOk 63 = true ∧ t.live ∧ t.dev.settled ∧ t.dev.mirrorPort = none ∧ t.dev.ideOk 63 = true ∧ (s.dev.dir (2815 / 256 % 16)).trks.find? (fun t => t.bitag == some (2815 % 256) && t.waits.contains 63) = some (busyTrk [62, 63] (some 255) true) ∧
      [62, 63].erase 63 ≠ [] ∧ (busyTrk [62, 63] (some 255) true).owner ≠ some 63 ∧ (busyTrk [62, 63] (some 255) true).expired = false ∧ (busyTrk [63] (some 255) false).bcast = false ∧ (busyTrk [63] (some 255) false).ue = false ∧
      t.dev.reqStale (busyTrk [63] (some 255) false).req = false ∧ (t.dev.dir (2815 / 256 % 16)).trks.find? (fun t => t.bitag == some (2815 % 256) && t.waits.contains 63) = some (busyTrk [63] (some 255) false) ∧ t.dev.lost 62 = false ∧
      (∀ x ∈ (t.dev.dir 10).trks, x.line ≠ 0x300006A → x.bitag ≠ none ∨ x.waits = []) ∧ (∀ t ∈ (s.dev.dir 0).trks, t.bitag ≠ some 0 ∨ 63 ∉ t.waits) ∧ (∀ b ∈ (s.dev.dir 0).back, b.1 ≠ 0) ∧
      (s.dev.dirAt rq.pool).trk (rq.pool / 64) = some (busyTrk [62, 63] (some 255) true) ∧ s.dev.lost 63 = false ∧ s.dev.lost (s.dev.memPort 0 rq.pool) = false ∧ s.dev.fresh ∧
      (t.dev.dir 10).back.any (fun b => b.1 == 254) = true ∧ (∀ x ∈ (t.dev.dir 10).trks, x.bitag ≠ some 254 ∧ (x.bitag ≠ none ∨ x.waits = [])) := by
  decide +kernel
/-- A request of the line that waits for it. -/
def waits : Park := ⟨{ rq with cls := .ncr, age := 5, ord := 1 }, true, 63, .line, false⟩
def retryOk (s : State) : Prop :=
  s.live ∧ s.dev.settled ∧ s.dev.reaches rq.pool ∧ s.dev.inWindow 63 rq.pool 255 { first := 3, en := true, elig := 2 ^ 64 - 1 } ∧ (s.dev.dirAt rq.pool).trk (rq.pool / 64) = none ∧ (s.dev.dirAt rq.pool).inUse < 128 ∧
    (s.dev.dirAt rq.pool).find (lineSet (rq.pool / 64)) (tagOf (rq.pool / 64)) = none ∧ s.dev.reqStale waits.req = false ∧ s.dev.lost (s.dev.memPort 0 (rq.pool / 64 * 64)) = false
theorem meets_retries :
    let s := home true false { trks := [busyTrk [61] none false], park := [waits] }
    retryOk (home true false { park := [waits] }) ∧ retryOk (home true false { retd := [waits] }) ∧ dsOf (waits.req.pool / 64) = 10 ∧
      s.live ∧ s.dev.settled ∧ s.writable ∧ ∀ k ∈ (s.dev.dir 10).park, k.why = .line ∧ (s.dev.dir 10).trk (k.req.pool / 64) ≠ none := by
  unfold retryOk Dev.reaches Dev.inWindow; decide +kernel
theorem meets_recalls :
    let r : Recall := { mode := 1, win := 255, port := 63, lines := 9, pos := 16384 }
    let s := home true false { rcl := some r, ents := [(16383, {})] }
    let f := home true false { rcl := some r, trks := [{ busyTrk [61] none false with rcl := true }] }
    let c := fun (k : Nat) (busy : Bool) => (home true false (if busy then { rcl := some { r with who := rclWin 255 } } else {})) |> fun (x : State) => { x with dev := { x.dev with winchg := [(255, ⟨k, { first := 3, en := true }⟩)] } }
    s.live ∧ s.writable ∧ s.dev.settled ∧ (s.dev.dir 10).rcl.isSome = true ∧ (s.dev.dir 15).rcl = none ∧ (s.dev.dir 15).ents = [] ∧ (s.dev.dir 10).rclFlight = 0 ∧ (s.dev.dir 10).rclQ = [] ∧ (s.dev.dir 10).rcl = some r ∧ r.who = 0 ∧ (∀ e ∈ (s.dev.dir 10).ents, e.1 < 16384) ∧
      f.live ∧ f.dev.settled ∧ (f.dev.dir 10).rclFlight ≠ 0 ∧ (f.dev.dir 10).rcl = some r ∧ (f.dev.dir 10).ents = [] ∧
      (∀ k ∈ [1, 2, 3], (c k false).live ∧ (c k false).dev.settled ∧ Tbl.get? (c k false).dev.winchg 255 = some ⟨k, { first := 3, en := true }⟩ ∧ (c k false).dev.recalling (rclWin 255) = false ∧
        (∀ ds, ds < 16 → (c k false).dev.domSt (16 + ds) = .on) ∧ ((c k false).dev.flushWin ((c k false).dev.cwin 255)).winWritten ((c k false).dev.cwin 255) = true ∧ ((c k false).dev.cwin 255).acacheEn = false) ∧
      (c 3 true).live ∧ (c 3 true).dev.settled ∧ (c 3 true).dev.recalling (rclWin 255) = true ∧ ((c 3 true).dev.cwin 255).acacheEn = false := by
  decide +kernel

/-- Commands of principal 7, whose key is 77, in slot 4095. `ps`: octet and value. -/
def cmd (op target sub : Nat) (ps : List (Nat × Nat)) (mac : Nat := 0) : PyrCmd :=
  { slot := 4095, opcode := op, crit := isCrit op, sub := sub, cid := 5, prin := 7, target := target, cnt := if isCrit op then 1 else 0, params := ps.foldl (fun n x => n + x.2 * 2 ^ (8 * (x.1 - 16))) 0, mac := mac }
/-- The Curator has fetched it. -/
def posed (regs : List (Fld × Nat)) (d : Dev) (feat : Option Nat := some 0xFF) : State :=
  sv regs { d with mgmt := { cur := some (7, 4095), rings := [(7, { feat := feat, nonce := some 3 })], keys := [(7, { key := some 77, rights := 31 })] } }
/-- What `admitted` and `allows` ask, as a test. -/
def fits (s : State) (op : Nat) (c : PyrCmd) (x : Nat) : Bool :=
  let d := s.dev
  !d.heldReset && d.flaws == [] && d.buf.msgs == [] && d.mgmt.cur == some (7, c.slot) && !d.mgmt.down && !d.mgmt.dead && d.commit.mapCmd == none && d.commit.queue == [] && d.commit.change == none &&
    d.get R.PRS.STATE.SEQ < 3 && c.opcode == op && c.headerOk 7 && d.featureOk 7 c && d.permitted 7 c &&
    (!c.crit || ((d.keyOf 7).key == some 77 && c.tag 77 == c.mac && c.cnt == ((d.keyOf 7).cnt + 1) % 2 ^ 64)) && d.paramsOk c x && d.cmdConflict 7 c == none && d.needRefs c == [] && !d.committing
theorem fits_meets (s : State) (op : Nat) (c : PyrCmd) (x : Nat) (h : fits s op c x = true) : s.live ∧ s.dev.settled ∧ s.dev.admitted 7 op c ∧ s.dev.allows 7 c x := by
  simp only [fits, Bool.and_eq_true, Bool.not_eq_true', beq_iff_eq, decide_eq_true_eq, Bool.or_eq_true] at h
  obtain ⟨⟨⟨⟨⟨⟨⟨⟨⟨⟨⟨⟨⟨⟨⟨⟨⟨⟨h1, h0⟩, h2⟩, h3⟩, h4⟩, h5⟩, h6⟩, h7⟩, h8⟩, h9⟩, h10⟩, h11⟩, h12⟩, h13⟩, h14⟩, h15⟩, h16⟩, h17⟩, h18⟩ := h
  refine ⟨⟨h1, h0⟩, by simp [Dev.settled, h2], ⟨⟨h3, h4, h5, h6, h7, h8, h9⟩, h10, h11, h12, h13, fun hc => ?_⟩, h15, h16, h17, h18⟩
  rcases h14 with h | h
  · simp [hc] at h
  · exact ⟨⟨77, h.1.1, h.1.2⟩, h.2⟩

def hosts : Dev := { port := [(44, { ex := true, cmSets := 1, partner := { gpf := true } }), (46, { ex := true, partner := { gpf := true } }), (62, { ex := true }), (63, { ex := true })],
                     slices := [(510, { st := 1, port := 63, pasidEn := true })], extents := [(16, { valid := true, port := 44 }), (17, { valid := true, port := 46 }), (18, { valid := true, cat := true, altEn := true, altPartner := true, port := 44, altPort := 46 })],
                     cwins := [(254, { first := 3, en := true })], nor := { staged := true } }
def roles : List (Fld × Nat) := port 63 1 4 ++ port 62 1 4 ++ port 44 2 4 ++ port 46 2 4
theorem meets_ring_commands :
    fits (posed [] {}) 0x00 (cmd 0 0 0 []) 0 ∧ fits (posed [] {} none) 0x01 (cmd 1 0 0 [(16, 255)]) 0 ∧ fits (posed [] {}) 0x02 (cmd 2 0 0 [(16, 4096), (24, 16), (25, 1), (32, 2 ^ 575)]) 0 ∧
      fits (posed [] {}) 0x03 (cmd 3 0 0 []) 0 := by
  decide +kernel
theorem meets_slice_commands :
    fits (posed roles hosts) 0x10 (cmd 0x10 511 0 [(16, 63), (17, 31), (20, 2 ^ 20 - 1), (24, 15)] 0x62e38535133ec54af83ae49cb69753e4) 0 ∧ ((posed roles hosts).dev.sl 511).st = slFree ∧ fits (posed roles hosts) 0x11 (cmd 0x11 510 0 [(16, 7)] 0xed56d7d4f4d93407b59b150b1c31fb49) 0 ∧
      fits (posed roles hosts) 0x12 (cmd 0x12 510 0 [(16, 62), (24, 2 ^ 22 - 1)] 0x640a4da022726dd34fdc91e075460aed) 0 ∧ fits (posed roles hosts) 0x13 (cmd 0x13 510 0 []) 0 := by
  decide +kernel
theorem meets_table_commands :
    fits (posed roles hosts) 0x14 (cmd 0x14 511 0 [(16, 0x0F)] 0xc6d29e351a848328f653da3439477ea5) 0 ∧ fits (posed roles hosts) 0x15 (cmd 0x15 65535 0 [(16, 1 + 128 * 44)]) 0 ∧ ((posed roles hosts).dev.ext 65535).st ≠ 3 ∧
      fits (posed roles hosts) 0x16 (cmd 0x16 510 0 [(16, 2 ^ 20 - 1)]) 0 ∧ fits (posed roles hosts) 0x17 (cmd 0x17 510 0 [(16, 4096), (24, 16), (25, 1)]) 0 ∧
      fits (posed roles hosts) 0x18 (cmd 0x18 255 0 [(16, 65535 + 2 ^ 32), (24, 2 ^ 63)]) 0 ∧ ((posed roles hosts).dev.cwin 255).en = false ∧ (winNew (cmd 0x18 255 0 [(16, 65535 + 2 ^ 32), (24, 2 ^ 63)])).en = true ∧
      (posed roles hosts).dev.dom = [] ∧ (posed roles hosts).dev.winBusy 255 = false ∧ fits (posed roles hosts) 0x18 (cmd 0x18 254 0 [(16, 3)]) 0 ∧ ((posed roles hosts).dev.cwin 254).en = true ∧
      (winNew (cmd 0x18 254 0 [(16, 3)])).en = false ∧ fits (posed roles hosts) 0x19 (cmd 0x19 15 0 [(16, 8)]) 0 ∧ fits (posed roles hosts) 0x1A (cmd 0x1A 1039 0 [(16, 15), (17, 64)]) 0 := by
  decide +kernel
theorem meets_power_and_pair_commands :
    fits (posed [] {}) 0x20 (cmd 0x20 31 0 []) 0 ∧ fits (posed [(R.SLT.STS.STATE 31, 4)] {}) 0x21 (cmd 0x21 31 0 [(16, 1)] 0x357edd499740a7e633c1059f4ac69f1f) 0 ∧
      fits (posed roles hosts) 0x22 (cmd 0x22 0 0 [(16, 3), (18, 7500), (20, 16), (22, 127), (24, 17), (26, 127)] 0x7f19043b78197c940b7bec6b98423fa1) 0 ∧ (cmd 0x22 0 0 [(16, 3)] 0x8da109119a0f6bde20b665540b3e12e5).parBit 16 0 = true ∧ fits (posed roles hosts) 0x22 (cmd 0x22 0 0 [] 0x5fd61580125c38545867c41a632ad2ad) 0 ∧
      fits (posed roles hosts) 0x28 (cmd 0x28 0 0 [(16, 3), (18, 18), (20, 2 ^ 30 - 64)]) 0 ∧ (posed roles hosts).dev.is R.PAIR.CTL.EN = false ∧ fits (posed [(R.PAIR.CTL.EN, 1)] hosts) 0x28 (cmd 0x28 0 0 []) 0 ∧
      (posed [(R.PAIR.CTL.EN, 1)] hosts).dev.is R.PAIR.CTL.EN = true := by
  decide +kernel
theorem meets_role_change :
    (posed [(R.PAIR.STATE.PSTATE, 3)] {}).live ∧ (posed [(R.PAIR.STATE.PSTATE, 3)] {}).dev.settled ∧ (posed [(R.PAIR.STATE.PSTATE, 3)] {}).dev.inPair = true ∧ (posed [] {}).dev.committing = false ∧
      ∀ s ∈ [posed [(R.PAIR.STATE.PSTATE, 3)] {}, posed [] {}], s.dev.mgmt.cur = some (7, 4095) ∧ (cmd 0x29 0 0 [] 0x31f7820425f3f21d3248ae42e89bc70a).headerOk 7 = true ∧ s.dev.featureOk 7 (cmd 0x29 0 0 [] 0x31f7820425f3f21d3248ae42e89bc70a) = true ∧ s.dev.permitted 7 (cmd 0x29 0 0 [] 0x31f7820425f3f21d3248ae42e89bc70a) = true ∧
        (s.dev.keyOf 7).key = some 77 ∧ (cmd 0x29 0 0 [] 0x31f7820425f3f21d3248ae42e89bc70a).tag 77 = (cmd 0x29 0 0 [] 0x31f7820425f3f21d3248ae42e89bc70a).mac ∧ s.dev.commit = {} ∧ s.dev.get R.PRS.STATE.SEQ < 3 := by
  decide +kernel
theorem meets_key_and_firmware_commands :
    let k := cmd 0x30 7 0 [(16, 0xddac8f0f95bcce73f8e18cd991c5945c800eb6fe40db09d716df465ae139e731b4e51e81fb61f88e), (56, 7)] 0xc2911578903bfeae0110c4b2f56f70ed
    let b := cmd 0x30 7 0 [(16, 5)] 0x57a28cd83f827e0ef8fefd7a82bb57dd
    fits (posed [] {}) 0x30 k ((posed [] {}).dev.newKey 7 k) ∧ b.opcode = 0x30 ∧ b.headerOk 7 = true ∧ (posed [] {}).dev.featureOk 7 b = true ∧ (posed [] {}).dev.permitted 7 b = true ∧ b.tag 77 = b.mac ∧ b.cnt = 1 ∧ b.target < 8 ∧ (posed [] {}).dev.newKey 7 b = 0 ∧
      (posed [] {}).dev.settled ∧ (posed [] {}).dev.committing = false ∧ fits (posed roles hosts) 0x31 (cmd 0x31 44 0 [(16, 1)] 0x5c61001cc3b6d52e310b750437aacf0d) 1 ∧ fits (posed roles hosts) 0x31 (cmd 0x31 44 0 [] 0x56f8fed3e4c60208cf33d577312b847c) 0 ∧
      fits (posed [(R.SEC.LCSTS.STATE, 2)] {}) 0x32 (cmd 0x32 0 0 [(16, 1)]) 0 ∧ fits (posed [(R.SEC.LCSTS.STATE, 0)] {}) 0x32 (cmd 0x32 0 1 []) 0 ∧ fits (posed [(R.SEC.LCSTS.STATE, 1)] {}) 0x32 (cmd 0x32 0 2 []) 0 ∧
      fits (posed [(R.SEC.LCSTS.STATE, 2)] {}) 0x32 (cmd 0x32 0 3 []) 0 ∧ ((posed [] {}).dev.ring 7).nonce = some 3 ∧ fits (posed [] {}) 0x38 (cmd 0x38 0 0 [(16, 2 ^ 96 - 1)]) 0 ∧
      fits (posed roles hosts) 0x39 (cmd 0x39 0 0 [] 0xac120e5651719ccd5ca72d15536ccf94) 0 ∧ (sv [] { mgmt := { prog := [65535] } }).dev.mgmt.prog = [65535] := by
  decide +kernel
theorem meets_first_key :
    let c := cmd 0x30 0 0 []
    let s := sv []
    s.live ∧ s.dev.settled ∧ s.dev.committing = false ∧ s.dev.mgmt.down = false ∧ s.dev.mgmt.dead = false ∧ (s.dev.keyOf 0).key = none ∧ c.opcode = 0x30 ∧ c.target = 0 ∧
      ((sv [] { mgmt := { keys := [(0, { key := some 1 })] } }).dev.keyOf 0).key ≠ none := by
  decide +kernel
theorem meets_refusals :
    let c := cmd 0x21 31 0 [] 0x917aed3fdd797d1fb938a978d017f9f2
    let s := posed [] {}
    let t : State := { s with dev := { s.dev with mgmt := { s.dev.mgmt with keys := [(7, { key := some 77 })] } } }
    s.live ∧ s.dev.settled ∧ s.dev.mgmt.cur = some (7, 4095) ∧ s.dev.commit = {} ∧ ({ c with rsv := 1 } : PyrCmd).headerOk 7 = false ∧ c.headerOk 7 = true ∧ s.dev.featureOk 7 c = true ∧ (s.dev.keyOf 7).key = some 77 ∧
      c.tag 77 = c.mac ∧ ({ c with mac := 0 } : PyrCmd).mac ≠ c.tag 77 ∧ (cmd 0x21 31 0 [] 0x917aed3fdd797d1fb938a978d017f9f2).cnt = ((s.dev.keyOf 7).cnt + 1) % 2 ^ 64 ∧ t.live ∧ t.dev.permitted 7 c = false ∧ t.dev.committing = false ∧
      (posed [(R.PRS.STATE.SEQ, 8)] {}).live ∧ 3 ≤ (posed [(R.PRS.STATE.SEQ, 8)] {}).dev.get R.PRS.STATE.SEQ := by
  decide +kernel
/-- A stale counter: the same command against a stored counter of 1. -/
theorem meets_stale :
    let s : State := { posed [] {} with dev := { (posed [] {}).dev with mgmt := { (posed [] {}).dev.mgmt with keys := [(7, { key := some 77, cnt := 1, rights := 31 })] } } }
    s.live ∧ (cmd 0x21 31 0 [] 0x917aed3fdd797d1fb938a978d017f9f2).cnt ≠ ((s.dev.keyOf 7).cnt + 1) % 2 ^ 64 ∧ (cmd 0x21 31 0 [] 0x917aed3fdd797d1fb938a978d017f9f2).tag 77 = (cmd 0x21 31 0 [] 0x917aed3fdd797d1fb938a978d017f9f2).mac := by
  decide +kernel

/-- The Curator, rings, events, management. -/
def ringOf (r : RingE) (regs : List (Fld × Nat)) : State := sv regs { mgmt := { rings := [(7, r)] } }
theorem meets_curator_and_rings :
    let s := ringOf { attached := true, fetch := 15 } [(R.PRIN.RCTL.SIZE 7, 4), (R.PRIN.RCTL.EN 7, 1)]
    let a := sv [(R.PRIN.RCTL.SIZE 7, 12)]
    let b := sv [(R.PRIN.CRBL.VALUE 7, 4095)]
    let m := sv [(R.SEC.LCSTS.DBG_EN, 1)] { mgmt := { down := true } }
    s.live ∧ s.writable ∧ s.configurable ∧ s.dev.mgmt.dead = false ∧ s.dev.mgmt.down = false ∧ s.dev.mgmt.cur = none ∧ s.dev.inService = true ∧ s.dev.posted 7 = true ∧ (s.dev.mgmt.rr + 1 + 7) % 8 = 7 ∧
      (∀ j, j < 7 → s.dev.posted ((s.dev.mgmt.rr + 1 + j) % 8) = false) ∧ s.dev.is (R.PRIN.RCTL.EN 7) = true ∧ a.live ∧ a.writable ∧ a.dev.is (R.PRIN.RCTL.EN 7) = false ∧ a.dev.attachStatus 7 = 0 ∧ b.live ∧ b.writable ∧
      b.dev.is (R.PRIN.RCTL.EN 7) = false ∧ b.dev.attachStatus 7 = 1 ∧ m.live ∧ m.writable ∧ m.dev.is R.SEC.LCSTS.DBG_EN = true ∧ m.dev.mgmt.down = true ∧ s.dev.is R.SEC.LCSTS.DBG_EN = false ∧
      (sv [(R.PRS.STATE.SEQ, 2)]).live ∧ (sv [(R.PRS.STATE.SEQ, 2)]).dev.saving = true := by
  decide +kernel
theorem meets_events :
    let r : RingE := { attached := true, evEn := true, feat := some 2, evSub := 2 ^ 184, evSize := 8, evPi := 255 }
    let s := ringOf r [((Sts.pu 46).bit puLANE, 1), (R.PRIN.DB.EVCI 7, 1)]
    let q := ringOf { r with evSub := 0, evSq := [15] } [(R.PRIN.DB.EVCI 7, 1)]
    s.live ∧ s.configurable ∧ s.dev.ring 7 = r ∧ s.dev.active 184 = true ∧ r.evLast.contains 184 = false ∧ (r.evPi + 1) % 2 ^ r.evSize ≠ s.dev.get (R.PRIN.DB.EVCI 7) % 2 ^ r.evSize ∧
      (r.evPi + 1) % 2 ^ r.evSize = (ringOf r []).dev.get (R.PRIN.DB.EVCI 7) % 2 ^ r.evSize ∧ (ringOf r []).dev.active 184 = false ∧ (ringOf r [((Sts.pu 46).bit puLANE, 1)]).dev.active 184 = true ∧ q.live ∧
      q.dev.ring 7 = { r with evSub := 0, evSq := [15] } ∧ ((sv []).dev.ring 7).attached = false := by
  decide +kernel
theorem meets_management :
    let s := upLink 63 1 [] {}
    s.live ∧ s.dev.mgmt.down = false ∧ s.dev.mgmt.dead = false ∧ s.dev.isHost 63 = true ∧ s.dev.isUp 63 = true ∧ (s.dev.keyOf 0).key = none ∧ s.dev.committing = false ∧ s.dev.dom = [] ∧ s.dev.flaws = [] ∧
      s.dev.readWord 0x12E008 = some 0 ∧ s.dev.readWord 0x3FFFFFC = none := by
  decide +kernel

/-- Slices, doorbell pages, the debug master. -/
theorem meets_slice_states :
    let rs : List CommitRec := [{ prin := 7, cmd := cmd 0x11 511 0 [] 0xf51b0f8db8aec34bd9249666ab2ea0f3 }, { prin := 7, cmd := { cmd 0x12 511 0 [] with slot := 3 } }, { prin := 7, cmd := { cmd 0x13 511 0 [] with slot := 4 } }]
    let one := fun (e : SliceE) (d : Dev) => sv [] { d with slices := [(511, e)], extents := [(65535, { st := 2 }), (0, { st := 1 })], mgmt := { recs := rs } }
    let adv := fun (n : Nat) (d : Dev) => one { st := 4, pend := n, pWin := 3, gen := 255, pPort := 63, port := 63 } d
    let w := one { st := 2, win0 := { ext := 3, en := true } } { cwins := [(255, { first := 3, en := true })] }
    let wb := one { st := 4, win0 := { ext := 3, en := true } } { buf := { msgs := [{ home := true, kind := .memWrite, pool := 3 * 2 ^ 30 }] } }
    let scrub := fun (st : Option Nat) => one {} { skid := { acts := [{ q := 1027, slot := scrubSlot 65535, d := {}, gen := 0, status := st }] } }
    (one { st := 2 } {}).live ∧ (one { st := 2 } {}).dev.settled ∧ ((one { st := 2 } {}).dev.sl 511).st = slDrain ∧ (one { st := 2 } {}).dev.outstanding 511 = false ∧ (one { st := 2 } {}).dev.cwins = [] ∧ w.live ∧ w.dev.settled ∧
      (w.dev.sl 511).st = slDrain ∧ w.dev.outstanding 511 = false ∧ (∃ x ∈ w.dev.cwins, x.2.en = true ∧ ∃ v ∈ (w.dev.sl 511).wins, v.en = true ∧ meets v.ext v.num x.2.first x.2.num = true) ∧ w.dev.dirs = [] ∧
      (∀ n ∈ [1, 2, 3, 4], ∀ m ∈ [true, false], let d : Dev := { msix := [(2048 * 63 + 4 * 511 + 3, { addr := 64, data := 9, mask := m })] }
        (adv n d).live ∧ (adv n d).dev.settled ∧ ((adv n d).dev.sl 511).st = slAdvance ∧ (adv n d).dev.wbPending 511 = false ∧ ((adv n d).dev.sl 511).pend = n ∧ (adv n d).dev.lost 63 = false ∧ (Tbl.get (adv n d).dev.msix {} (2048 * 63 + 4 * 511 + 3)).mask = m) ∧
      wb.live ∧ wb.dev.settled ∧ (wb.dev.sl 511).st = slAdvance ∧ wb.dev.wbPending 511 = true ∧
      (∀ o ∈ [0x11, 0x12, 0x13], ∃ r ∈ rs, (adv 1 {}).dev.mgmt.recs.find? (fun r => r.names [o] 511) = some r ∧ (adv 1 {}).dev.inCommit r.prin r.cmd = false) ∧ (adv 1 {}).dev.mgmt.down = false ∧
      (∀ st ∈ [some 0, some 4, none], ∃ a, (scrub st).dev.act (1024 + 65535 % 4) (scrubSlot 65535) = some a ∧ a.status = st ∧ ((scrub st).dev.ext 65535).st = 2) := by
  refine ⟨by decide +kernel, by decide +kernel, by decide +kernel, by decide +kernel, by decide +kernel, by decide +kernel, by decide +kernel, by decide +kernel, by decide +kernel, by decide +kernel, by decide +kernel, by decide +kernel, by decide +kernel,
    by decide +kernel, by decide +kernel, by decide +kernel, by decide +kernel, by decide +kernel, ?_⟩
  intro st _
  exact ⟨{ q := 1027, slot := scrubSlot 65535, d := {}, gen := 0, status := st }, rfl, rfl, rfl⟩
theorem meets_doorbell_pages :
    let pg := fun (e : SliceE) (regs : List (Fld × Nat)) => sv (port 63 1 4 ++ regs) { port := [(63, { ex := true })], slices := [(511, e)] }
    let vio : Fld := .mk3 0x18F040 0 1 0
    (pg {} []).live ∧ (pg {} []).writable ∧ (sv []).dev.takesIo 63 = false ∧ (∀ e ∈ [{ st := 1, port := 63 }, { st := 2, port := 63 }, { st := 3, port := 63 }, { st := 4, port := 63 }, ({ st := 1, port := 62 } : SliceE), {}],
      (pg e []).live ∧ (pg e []).dev.takesIo 63 = true ∧ (pg e []).dev.sl 511 = e ∧ (pg e []).dev.forwards = false ∧ (pg e []).dev.is vio = false ∧ (pg e [(vio, 1)]).live ∧ (pg e [(vio, 1)]).dev.takesIo 63 = true ∧ (pg e [(vio, 1)]).dev.is vio = true) ∧
      slBound = 1 ∧ slDrain = 2 ∧ slRecall = 3 ∧ slAdvance = 4 ∧ slFree = 0 := by
  decide +kernel
/-- The debug master: slice 511 reads and writes extent 8; extent 7 is the Catalogue's. -/
def dbg (en lc : Nat) (e : SliceE) (rules : Tbl RuleE := []) (regs : List (Fld × Nat) := []) : State :=
  sv (port 9 2 4 ++ [(R.SEC.LCSTS.DBG_EN, en), (R.SEC.LCSTS.STATE, lc), (R.SEC.DAPCTL.SLICE, 511)] ++ regs)
    { port := [(9, { ex := true })], slices := [(511, e)], extents := [(7, { valid := true, cat := true, port := 9, st := 3 }), (8, { valid := true, port := 9, st := 1, mapcnt := 1 })], rules := rules }
/-- A recorded refusal of a kind. -/
def refusedAs (r : Except Deny Nat) (k : Nat) : Bool :=
  match r with
  | .error y => y.kind == k && !y.quiet
  | .ok _ => false
theorem meets_debug :
    let e : SliceE := { st := 1, port := 63, defRd := true, defWr := true, win0 := { ext := 8, en := true } }
    let lock : Tbl RuleE := [(8 * 511, { en := true, lock := true, rd := true, wr := true, src := 15, base := 0, limit := 1 })]
    (∀ n ∈ [(1, 3), (0, 3), (1, 1), (0, 1)], (dbg n.1 n.2 e).live ∧ (dbg n.1 n.2 e).dev.settled ∧ (dbg n.1 n.2 e).dev.is R.SEC.LCSTS.DBG_EN = (n.1 == 1) ∧ (dbg n.1 n.2 e).dev.get R.SEC.LCSTS.STATE = n.2 ∧ ((dbg n.1 n.2 e).dev.ext 7).cat = true) ∧
      (dbg 1 1 e [] [(.mk3 pvDbg 0 1 0, 1)]).dev.is (.mk3 pvDbg 0 1 0) = true ∧ (dbg 1 1 e).dev.is (.mk3 pvDbg 0 1 0) = false ∧ (dbg 1 1 e).dev.get R.SEC.DAPCTL.SLICE = 511 ∧ ((dbg 1 1 e).dev.sl 511).st ≠ slFree ∧
      (∀ n ∈ [0, 1], ∀ k ∈ [1, 2], ((dbg n 1 e).dev.checkPart 511 68 3 k).toOption = some (8 * 2 ^ 30 + 68)) ∧ (dbg 1 1 e).dev.reaches (8 * 2 ^ 30 + 68) ∧ (dbg 1 1 e).dev.winOf 8 = none ∧ (dbg 1 1 e).dev.lost ((dbg 1 1 e).dev.memPort 511 (8 * 2 ^ 30 + 68)) = false ∧
      (∀ n ∈ [0, 1], refusedAs ((dbg n 1 e lock).dev.checkPart 511 68 3 1) 4 = true) ∧ refusedAs ((dbg 1 1 e).dev.checkPart 511 (2 ^ 40) 3 1) 0 = true ∧ ((dbg 1 1 {}).dev.sl 511).st = slFree := by
  unfold Dev.reaches; decide +kernel

/-- Slots: slot 31 in a state. -/
def slot (state : Nat) (regs : List (Fld × Nat)) (r : SlotRt) : State := sv ((R.SLT.STS.STATE 31, state) :: regs) { slot := [(31, r)] }
/-- Slot 31 feeds port 63. -/
def fed (state role link : Nat) (regs : List (Fld × Nat)) (r : SlotRt) : State :=
  let s := slot state (port 63 role link ++ [(R.PU.CFG.SLOT_EN 63, 1), (R.PU.CFG.SLOT 63, 31), (R.PU.LNKCTL.ENABLE 63, 1)] ++ regs) r
  { s with dev := { s.dev with port := [(63, { ex := true })] } }
theorem meets_slot_bring_up :
    (∀ n ∈ [1, 2, 3, 4, 5, 7], (slot n [] {}).live ∧ (slot n [] {}).dev.rowNow 31 = none ∧ (slot n [] {}).dev.saving = false ∧ (slot n [] {}).dev.slotSt 31 = n) ∧ ((slot 1 [] { vinOk := true }).dev.slt 31).vinOk = true ∧ ((slot 5 [] {}).dev.slt 31).vinOk = false ∧
      ((slot 3 [] { timer := true }).dev.slt 31).timer = true ∧ ((slot 3 [] { pgDue := true }).dev.slt 31).pgDue = true ∧ (slot 3 [] {}).dev.slotPort 31 = none ∧ (fed 3 1 1 [] {}).live ∧ (fed 3 1 1 [] {}).dev.rowNow 31 = none ∧ (fed 3 1 1 [] {}).dev.slotPort 31 = some 63 ∧
      (fed 3 1 1 [] {}).dev.linkSt 63 = 1 ∧ ((fed 3 1 1 [] {}).dev.prt 63).held = false ∧ (fed 3 1 1 [] {}).dev.is (R.PU.LNKCTL.DIAG 63) = false ∧ (sv [(R.PRS.STATE.SEQ, 6)]).live ∧ (sv [(R.PRS.STATE.SEQ, 6)]).dev.saving = true ∧
      (slot 7 [] {}).dev.mgmt.recs.find? (fun x => x.names [0x21] 31) = none ∧
      (let s : State := { slot 7 [] {} with dev := { (slot 7 [] {}).dev with mgmt := { recs := [{ prin := 7, cmd := cmd 0x21 31 0 [] }] } } }
       s.live ∧ s.dev.mgmt.recs.find? (fun x => x.names [0x21] 31) = some { prin := 7, cmd := cmd 0x21 31 0 [] } ∧ s.dev.mgmt.down = false ∧ s.dev.inCommit 7 (cmd 0x21 31 0 []) = false) := by
  decide +kernel
theorem meets_slot_trips :
    let a := slot 4 [(R.SLT.CTL.RETRIES 31, 7)] { timer := true }
    let b := fed 4 2 4 [(R.SLT.STS.PG 31, 1), (R.PU.EPOCH.HOLD_US 63, 1)] {}
    let c := slot 2 [(R.SLT.STS.PG 31, 1), (R.SLT.CTL.AUTO_OFF 31, 1), (R.SLT.CTL.RETRIES 31, 0)] {}
    a.live ∧ (∀ x ∈ [a, b, c], x.dev.rowNow 31 = none) ∧ (∃ t, exec (.supplyWindowLost 31 true) a = .next t) ∧ a.dev.slotSt 31 = 4 ∧ (a.dev.slt 31).timer = true ∧ a.dev.is (R.SLT.STS.PG 31) = false ∧ a.dev.get (R.SLT.STS.TRIES 31) < a.dev.get (R.SLT.CTL.RETRIES 31) ∧ a.dev.is (R.SLT.CTL.AUTO_OFF 31) = false ∧
      b.live ∧ b.dev.slotSt 31 = 4 ∧ b.dev.is (R.SLT.STS.PG 31) = true ∧ b.dev.slotPort 31 = some 63 ∧ b.dev.linkSt 63 = 4 ∧ b.dev.role 63 = 2 ∧ (b.dev.prt 63).hold = 0 ∧ b.dev.get (R.PU.EPOCH.HOLD_US 63) ≠ 0 ∧ b.dev.saving = false ∧
      c.live ∧ c.dev.slotSt 31 = 2 ∧ c.dev.is (R.SLT.STS.PG 31) = true ∧ c.dev.slotPort 31 = none ∧ ¬c.dev.get (R.SLT.STS.TRIES 31) < c.dev.get (R.SLT.CTL.RETRIES 31) ∧ c.dev.is (R.SLT.CTL.AUTO_OFF 31) = true ∧ c.dev.saving = false ∧
      (slot 7 [] {}).dev.slotSt 31 = 7 ∧ (99 : Nat) < 100 ∧ (slot 4 [(R.SLT.STS.PG 31, 1), (R.SLT.CTL.AUTO_OFF 31, 1)] {}).dev.slotSt 31 = 4 ∧
      (let x : SlotRow := { sample := 0, rank := 0, dest := 7, sts := [3], timer := false, pgDue := false }
       (slot 7 [] { row := some x }).live ∧ (slot 7 [] { row := some x }).dev.rowNow 31 = some x ∧ (slot 7 [] { row := some x }).dev.slotSt 31 = 7) := by
  refine ⟨by decide +kernel, by decide +kernel, ⟨_, rfl⟩, ?_⟩
  decide +kernel

/-- Registers: slot 31's mask, dump entry 511, fault status registers, injection channels. -/
def pkt (typ addr port : Nat) (data : List Nat) : Packet := { dstCol := 5, dstRow := 5, dstPort := port, srcCol := 0, srcRow := 0, typ := typ, addr := addr, data := data }
theorem meets_register_packets :
    let s := sv []
    let r := pkt 0 0x91F0C 1 []
    let w := pkt 1 0x91F0C 1 [2 ^ 32 - 1 + 15 * 2 ^ 32]
    let t := pkt 3 0x1073FF4 0 [2 ^ 32 - 1 + 15 * 2 ^ 32]
    s.live ∧ s.dev.settled ∧ s.dev.flaws = [] ∧ s.dev.committing = false ∧ s.configurable ∧ r.dst = 35 ∧ s.dev.serves r = true ∧ r.dwcnt = 1 ∧ s.dev.readWord (r.addr / 4 * 4) = some 0 ∧ s.dev.serves { r with addr := 0x91F3C } = false ∧
      s.dev.serves (pkt 2 0x1073FF4 0 []) = true ∧ ({ w with poison := true } : Packet).poison = true ∧ w.poison = false ∧ ({ w with e2e := true } : Packet).crc ≠ ({ w with e2e := true } : Packet).crc32 ∧ w.e2e = false ∧
      s.dev.serves { w with addr := 0x91F3C } = false ∧ w.addr = 0x9000C + 0x100 * 31 ∧ w.dst = 35 ∧ w.dstPort = 1 ∧ t.addr = 0x1072000 + 16 * 511 + 4 * 1 ∧ t.dst = 35 ∧ t.dstPort = 0 ∧ (Tbl.get s.dev.sdumps {} 511).addr ≠ 2 ^ 64 - 2 ^ 32 ∧
      (Tbl.get s.dev.sdumps {} 511).addr = 0 := by
  decide +kernel
theorem meets_register_writes :
    let s := sv []
    s.live ∧ s.dev.settled ∧ s.dev.flaws = [] ∧ s.dev.committing = false ∧ s.dev.dom = [] ∧ s.writable ∧ s.configurable ∧ (65535 : Nat) ≠ s.dev.get R.SEC.CTL.SEC_THRESH + 256 * s.dev.get R.SEC.CTL.CUR_THRESH ∧
      (sv [(R.PRS.STATE.SEQ, 2)]).dev.saving = true ∧ s.dev.readWord 0x3FFFFFC = none ∧ 7 ≤ (sv [(R.PRS.STATE.SEQ, 8)]).dev.get R.PRS.STATE.SEQ ∧ 16 % 16 = 0 := by
  decide +kernel
theorem meets_fault_bits :
    let s := sv [(R.INJ.CTL.CHK 3, 3), (R.INJ.TGT.INST 3, 35), (R.INJ.CTL.MODE 3, 1), (R.INJ.CNT.N 3, 1)]
    let t := sv [] { inj := [(3, { armed := true })] }
    s.live ∧ s.writable ∧ s.dev.flaws = [] ∧ stsAt 0x91F08 = some (.slt 31) ∧ (s.dev.injCh 3).armed = false ∧
      injLegal (s.dev.get (R.INJ.CTL.CHK 3)) (s.dev.get (R.INJ.TGT.INST 3)) (s.dev.get (R.INJ.CTL.MODE 3)) (s.dev.get (R.INJ.TGT.PART 3)) (s.dev.get (R.INJ.CNT.N 3)) = true ∧ injLegal 3 36 1 0 1 = false ∧ injLegal 0 3 0 0 0 = false ∧
      t.live ∧ t.writable ∧ t.dev.flaws = [] ∧ (t.dev.injCh 3).armed = true := by
  decide +kernel

/-- A queue with its running part: system queue 1039, owned by principal 7, or tenant queue 1023 of slice 511. -/
def skid (q : Nat) (e : QueueE) (r : QRt) (k : Skid := {}) (regs : List (Fld × Nat) := []) : State :=
  sv ((R.DMV.SQOWN1.OWN, 0x7FFFFFFF) :: port 63 1 4 ++ port 9 2 4 ++ regs)
    { port := [(63, { ex := true }), (9, { ex := true })], slices := [(511, { st := 1, port := 63, pasidEn := true, defRd := true, defWr := true, gen := 5, win0 := { ext := 8, en := true } })],
      extents := [(8, { valid := true, port := 9, st := 1, mapcnt := 1 })], queues := [(q, e)], skid := { k with rt := [(q, r)] } }
def ringQ (st : Nat) : QueueE := { st := st, size := 6, ring := 0x10000, cpl := 0x20000, hwb := 0x30000, head := 63, tail := 5, en := true }
/-- The window's first byte, as a tenant queue and as a system queue names it. -/
def base8 (q : Nat) : Nat := if q < 1024 then 0 else 8 * 2 ^ 30
def copy (q : Nat) (f : Desc → Desc := id) : Desc := f { op := 1, len := 8192, src := base8 q + 64, dst := base8 q + 4096 + 128 }
def genOf (q : Nat) : Nat := if q < 1024 then 5 else 0
def fdesc (q : Nat) (f : Desc → Desc := id) : FDesc := { slot := 63, d := copy q f, gen := genOf q }
def acc (q : Nat) (kind : AccKind) : SkAcc := { id := 40, q := q, slot := 63, kind := kind, n := 64, gen := genOf q, cells := 3 }
theorem meets_skidder_queues :
    ∀ q ∈ [1023, 1039],
      let s := fun (st : Nat) (r : QRt) (k : Skid) => skid q (ringQ st) r k
      let ring : SkAcc := { acc q .ring with slot := 0, src := 0x10000, here := true }
      let frag : SkAcc := { acc q (.frag true) with here := true, sPool := some (8 * 2 ^ 30), data := 64 + 2 ^ 64 * 128 }
      let f := fdesc q (fun d => { d with dstInd := true, dstNfrag := 4 })
      (∀ n ∈ [0, 1, 2, 3], (s n {} {}).live ∧ (s n {} {}).dev.settled ∧ (s n {} {}).dev.inPair = false ∧ ((s n {} {}).dev.qe q).st = n) ∧ (s 0 {} {}).dev.sqOwner 1039 < 8 ∧ ((s 0 {} {}).dev.sl 511).st = slBound ∧ ((s 0 {} {}).dev.sl 511).pasidEn = true ∧
        (ringQ 0).size = 6 ∧ (ringQ 0).ring % 4096 = 0 ∧ (ringQ 0).cpl % 4096 = 0 ∧ (ringQ 0).hwb % 64 = 0 ∧ (skid q { ringQ 0 with cpl := 5 } {}).live ∧ ((skid q { ringQ 0 with cpl := 5 } {}).dev.qe q).cpl % 4096 ≠ 0 ∧
        (s 1 {} {}).dev.saving = false ∧ (s 1 {} {}).dev.heldDescs q = 0 ∧ min (min ((5 % 64 + 64 - 0) % 64) (64 - 0)) (min 8 (16 - 0)) = 5 ∧ (s 1 {} {}).dev.admitAcc q (accCells (64 * 5) true false) = true ∧ ((s 1 { reading := 1 } {}).dev.qr q).reading = 1 ∧
        (let x := s 1 { fetch := 63, reading := 1 } { accs := [ring] }
         x.live ∧ x.dev.settled ∧ x.dev.skid.accs.find? (fun b => b.q == q && b.kind == .ring && x.dev.accReady b) = some ring ∧ ring.void = false ∧ x.dev.inj = [] ∧ ring.n = 64 ∧ x.dev.accBad ring = 0 ∧ (unpackDesc 0).readsSrc = false ∧ (unpackDesc 0).readsDst = false) ∧
        (let x := s 1 { reading := 1 } { accs := [{ ring with bad := 2 }] }
         x.live ∧ x.dev.skid.accs.find? (fun b => b.q == q && b.kind == .ring && x.dev.accReady b) = some { ring with bad := 2 } ∧ x.dev.accBad { ring with bad := 2 } ≠ 0) ∧
        (∀ n ∈ [0, 1], let y := { frag with bad := n }
         let x := s 1 { fetched := [f] } { accs := [y] }
         x.live ∧ x.dev.settled ∧ (x.dev.qr q).fetched = [f] ∧ x.dev.skid.accs.filter (fun b => b.q == q && b.slot == f.slot && b.kind == .frag true) = [y] ∧ y.void = false ∧ y.off = 0 ∧ x.dev.accReady y = true ∧ x.dev.inj = [] ∧ x.dev.accBad y = n) := by
  decide +kernel
theorem meets_skidder_stops :
    let stop := fun (r : QRt) => skid 1023 (ringQ 2) r
    (∀ n ∈ [1, 2, 3], (stop { stop := n, why := n - 1 }).live ∧ (stop { stop := n }).dev.settled ∧ ((stop { stop := n }).dev.qe 1023).st = 2 ∧ (stop { stop := n }).dev.bursts = [] ∧ (stop { stop := n }).dev.skid.acts = [] ∧ ((stop { stop := n, why := n - 1 }).dev.qr 1023).stop = n ∧
      ((stop { stop := n }).dev.qr 1023).dis = false) ∧ ((stop { stop := 3, dis := true }).dev.qr 1023).dis = true ∧ ((stop { stop := 3, why := 2 }).dev.qr 1023).why ≠ 0 ∧ ((stop { stop := 2 }).dev.qr 1023).why = 0 ∧ (stop {}).dev.is R.DMV.ERRQ.VALID = false ∧ (stop {}).configurable ∧
      (stop {}).dev.committing = false ∧ (let v : Word := BitVec.ofNat 32 (2 ^ 30 + 512 * 2 ^ 20 + 1000000)
       v.toNat % 2 ^ 20 = 1000000 ∧ v.toNat / 2 ^ 20 % 2 ^ 10 = 512) ∧ (sv [(R.TMR.CFG.EN 15, 1)]).dev.is (R.TMR.CFG.EN 15) = true ∧ (sv []).dev.is (R.TMR.CFG.EN 15) = false ∧ (let w := skid 1039 (ringQ 1) {} { acts := [{ q := 1039, slot := 0, gen := 0, d := copy 1039, waits := true }] }
       w.live ∧ w.dev.settled ∧ w.dev.inPair = false ∧ ∃ a ∈ w.dev.skid.acts, 1024 ≤ a.q ∧ a.waits = true) ∧ (stop {}).dev.skid.acts = [] := by
  decide +kernel
theorem meets_descriptors :
    ∀ q ∈ [1023, 1039],
      let s := fun (f : FDesc) (k : Skid) => skid q (ringQ 1) { fetched := [f] } k [(R.TMR.CFG.EN 15, 1), (R.TMR.CFG.ONESHOT 15, 1), (R.TMR.CFG.OWNER 15, if q < 1024 then 511 else 512)]
      (∀ t ∈ [0, 1], let f := fdesc q (fun d => { d with trig := t, timer := 15 })
        (s f {}).live ∧ (s f {}).dev.settled ∧ (s f {}).dev.inPair = false ∧ (s f {}).dev.saving = false ∧ ((s f {}).dev.qr q).fetched = [f] ∧ (s f {}).dev.mayStart q f = true ∧ f.gen = (s f {}).dev.qGen q ∧ (s f {}).dev.descCheck q f = none ∧ 0 < f.d.len ∧
          (s f {}).dev.skid.acts = [] ∧ (s f {}).dev.skid.rt = [(q, (s f {}).dev.qr q)] ∧ (s f {}).dev.is (R.TMR.CFG.EN 15) = true ∧ (s f {}).dev.is (R.TMR.CFG.ONESHOT 15) = true ∧ (s f {}).dev.triggered q f.d = (t == 0)) ∧
        (∀ x ∈ [(1, some 3), (0, none)], let f := fdesc q (fun d => if x.1 = 0 then { op := 0, tag := 9 } else { d with len := 0 })
         (s f {}).live ∧ (s f {}).dev.mayStart q f = true ∧ f.gen = (s f {}).dev.qGen q ∧ ((s f {}).dev.descCheck q f).isSome = x.2.isSome ∧ (s f {}).dev.triggered q f.d = true ∧ f.ue = false ∧ f.slot = ((s f {}).dev.qe q).head ∧ (s f {}).dev.skid.accs = [] ∧ (s f {}).dev.lost 63 = false) := by
  decide +kernel
/-- A started descriptor with accesses in flight. -/
def runs (q : Nat) (a : ADesc) (l : List SkAcc) : State := skid q (ringQ 1) {} { acts := [a], accs := l }
def adesc (q : Nat) (f : Desc → Desc := id) : ADesc := { q := q, slot := 63, d := copy q f, gen := genOf q }
/-- What every clause about a started descriptor asks. -/
abbrev runsOk (q : Nat) (a : ADesc) (l : List SkAcc) : Prop :=
  let s := runs q a l
  s.live ∧ s.dev.settled ∧ s.dev.inPair = false ∧ s.dev.saving = false ∧ s.dev.skid.acts = [a] ∧ a.gen = s.dev.qGen q ∧ a.status = none ∧ a.verify = [] ∧ s.dev.fresh ∧ s.dev.lost (s.dev.memPort (if q < 1024 then q / 2 else 0) (8 * 2 ^ 30)) = false
theorem meets_turns :
    ∀ q ∈ [1023, 1039], let a := adesc q
      let s := runs q a []
      runsOk q a [] ∧ s.dev.skid.ready = [] ∧ s.dev.skid.scrubs = [] ∧ (∀ x ∈ s.dev.skid.rt, x.2.fetched = []) ∧ a.stopped = false ∧ a.off < a.d.len ∧ s.dev.bursts.length < 64 ∧ (s.dev.burstSide q (a.d.src + a.off) 1).toOption = some (8 * 2 ^ 30 + 64) ∧
        (s.dev.burstSide q (a.d.dst + a.off) 2).toOption = some (8 * 2 ^ 30 + 4096 + 128) ∧ s.dev.admitAcc q (accCells 3968 true true) = true := by
  decide +kernel
theorem meets_bursts :
    ∀ q ∈ [1023, 1039], let a := { adesc q with off := 4096 }
      let r : SkAcc := { acc q .read with here := true, data := 77, dPool := some (8 * 2 ^ 30 + 4096) }
      let w : SkAcc := { acc q .write with here := true, dPool := some (8 * 2 ^ 30 + 4096) }
      let o : SkAcc := { w with id := 41, here := false }
      runsOk q a [r] ∧ runsOk q a [w, o] ∧ (runs q a [r]).dev.burst 40 .read = some r ∧ (runs q a [r]).dev.accBad r = 0 ∧ a.fail = none ∧ (runs q a [w, o]).dev.burst 40 .write = some w ∧ w.bad = 0 ∧ a.off < a.d.len ∧
        (runs q a [w, o]).dev.skid.accs.find? (fun x => x.id == 40 && x.isBurst) = some w ∧ (runs q a [r]).dev.skid.accs.find? (fun x => x.id == 40 && x.isBurst) = some r ∧ o.isBurst = true ∧ o.slot = a.slot := by
  decide +kernel
theorem meets_read_backs :
    ∀ q ∈ [1023, 1039], ∀ n ∈ [0, 2], let o : SkAcc := { acc q .write with id := 41 }
          let c : SkAcc := { acc q .check with here := true, sPool := some (8 * 2 ^ 30 + 4096), bad := n }
          let v := adesc q (fun d => { d with op := 3 })
          let z := { adesc q with off := 8192, wrote := true, top := 8192 }
          let find := fun (s : State) => s.dev.skid.accs.find? (fun (x : SkAcc) => x.id == c.id && x.q == q && x.slot == 63 && x.kind == .check && s.dev.accReady x)
          runsOk q v [c, o] ∧ find (runs q v [c, o]) = some c ∧ (runs q v [c, o]).dev.accBad c = n ∧ c.bytes 0 = 0 ∧ c.gen = v.gen ∧ runsOk q z [c] ∧ find (runs q z [c]) = some c ∧ z.slot = ((runs q z [c]).dev.qe q).head ∧ z.off = z.d.len ∧
            ((runs q z [c]).dev.qe q).st = 1 ∧ (runs q z [c]).dev.lost 63 = false ∧ (runs q z [c]).dev.accBad c = n := by
  decide +kernel

/-- The save sequence in a state; port 63 is memory with extent 3, which both homes lie in. -/
def save (seq : Nat) (regs : List (Fld × Nat)) (p : Prs) (pins : Pins := { pfailN := false }) (d : Dev := {}) : State :=
  st ([(R.PRS.STATE.SEQ, seq), (R.PRS.HOMEA.EXT, 3), (R.PRS.HOMEA.SLOT, 0), (R.PRS.HOMEA.VALID, 1), (R.PRS.HOMEB.EXT, 3), (R.PRS.HOMEB.SLOT, 127), (R.PRS.HOMEB.VALID, 1)] ++ port 63 2 4 ++ regs)
    { d with port := [(63, { ex := true, partner := { gpf := true } })], extents := [(3, { valid := true, st := 1, port := 63 })], prs := p, pins := pins }
def armed : List (Fld × Nat) := [(R.PRS.CTL.ARMED, 1)]
theorem meets_save_begins :
    let s := save 1 [] { filt := true }
    let r := save 0 [] { filt := true }
    (save 1 [] {} {}).dev.pins.pfailN = true ∧ s.dev.pins.pfailN = false ∧ s.dev.prs.filt = true ∧ s.dev.pins.perstN = true ∧ s.dev.settled ∧ s.dev.is R.PAIR.CTL.EN = false ∧ s.dev.get R.PRS.STATE.SEQ = 1 ∧
      (∀ k, k < 64 → (s.dev.prt k).hold ≠ 1) ∧ r.dev.get R.PRS.STATE.SEQ = 0 ∧ r.dev.prs.t0.isSome = true ∧ r.dev.settled ∧ (save 2 [] {}).dev.get R.PRS.STATE.SEQ = 2 ∧ (save 2 [] {}).dev.settled ∧
      (∀ ds, ds < 16 → ((save 2 [] {}).dev.dir ds).ac = [] ∧ ((save 2 [] {}).dev.dir ds).ents = [] ∧ ((save 2 [] {}).dev.dir ds).trks = []) ∧ (save 3 [] {}).dev.get R.PRS.STATE.SEQ = 3 ∧ (save 3 [] {}).dev.drainDone = true ∧
      (∀ k, k < 64 → ((save 3 [] {}).dev.prt k).ex = true → (save 3 [] {}).dev.isMem k = true) ∧ (63 < 64 ∧ (save 3 [] {}).dev.capable 63 = true) := by
  decide +kernel
theorem meets_flush :
    let s := fun (k : Nat) (w : Tbl Witness) => (save 4 [] { gpf := [(62, 2), (63, k)], witness := w }).dev
    let a := (save 4 armed { gpf := [(63, 2)] }).dev
    (s 0 []).get R.PRS.STATE.SEQ = 4 ∧ (∀ k ∈ [0, 1, 2, 3], Tbl.get? (s k []).prs.gpf 63 = some k) ∧ (s 0 []).buf.msgs = [] ∧ ((s 0 []).prt 63).outs = [] ∧ (∀ k ∈ [2, 3], ∃ w, Tbl.get? (s k [(63, { addr := 2 ^ 48, n := 8, data := 7, be := 1 })]).prs.witness 63 = some w ∧ (∀ i, i < w.n → hasBit w.be i = true → bits 7 (8 * i) 8 = bits w.data (8 * i) 8) ∧ 0 < w.n ∧ hasBit w.be 0 = true ∧ bits 8 0 8 ≠ bits w.data 0 8) ∧
      Tbl.get? (s 2 []).prs.witness 63 = none ∧ (62 : Nat) ≠ 63 ∧ (Tbl.get? (s 2 []).prs.gpf 62).isSome = true ∧ (s 2 []).is R.PRS.CTL.ARMED = false ∧ a.is R.PRS.CTL.ARMED = true ∧ a.isUp (a.homePort false) = true ∧
      a.prs.gpf = [(63, 2)] ∧ Tbl.get? a.prs.witness 63 = none ∧ a.get R.PRS.STATE.SEQ = 4 := by
  refine ⟨by decide +kernel, by decide +kernel, by decide +kernel, by decide +kernel, fun k hk => ⟨{ addr := 2 ^ 48, n := 8, data := 7, be := 1 }, ?_, by decide +kernel, by decide, by decide, by decide⟩, by decide +kernel⟩
  simp only [List.mem_cons, List.not_mem_nil, or_false] at hk
  rcases hk with rfl | rfl <;> decide +kernel
theorem meets_homes :
    (∀ n ∈ [1, 2, 3, 4], (save 5 armed { home := n, img := some {} }).dev.get R.PRS.STATE.SEQ = 5 ∧ (save 5 armed { home := n, img := some {} }).dev.prs.home = n ∧ (save 5 armed { home := n, img := some {} }).dev.prs.img = some {} ∧
      (save 5 armed { home := n, img := some {} }).dev.isUp ((save 5 armed { home := n, img := some {} }).dev.homePort true) = true) ∧
      (∀ l ∈ [[], [0], [1], [0, 1]], (save 6 armed { home := 5, bad := l }).dev.get R.PRS.STATE.SEQ = 6 ∧ (save 6 armed { home := 5, bad := l }).dev.is R.PRS.CTL.ARMED = true) := by
  decide +kernel
theorem meets_parity_scan :
    let s := fun (seq : Nat) (en : Nat) => save seq [(R.FLT.CTL.SCAN_EN, en)] {} {}
    (∀ n ∈ [0, 1, 7], (s n 1).live ∧ (s n 1).dev.get R.PRS.STATE.SEQ = n ∧ (s n 1).dev.is R.FLT.CTL.SCAN_EN = true ∧ (s n 1).dev.settled ∧ (s n 0).dev.is R.FLT.CTL.SCAN_EN = false) ∧ hasParity 0x82304 = true := by
  decide +kernel
theorem meets_resets :
    let s := fun (p : Pins) (c : Clk) => save 4 [] {} p { clk := c }
    let low : Clk := { coreLow := [3] }
    (s {} {}).dev.pins.perstN = true ∧ (2 ≤ (s {} {}).dev.get R.PRS.STATE.SEQ ∧ (s {} {}).dev.get R.PRS.STATE.SEQ ≤ 6) ∧ (s {} {}).dev.clk.coreLow = [] ∧ 10 * 0 < 9 * railNominal 3 ∧ 9 * railNominal 3 ≤ 10 * 2000 ∧ (s {} low).dev.clk.coreLow = [3] ∧
      (s {} low).dev.pins.pfailN = true ∧ (s {} low).dev.clk.aon = true ∧ (s { perstN := false } low).dev.pins.perstN = false ∧ (s { perstN := false } { aon := false }).dev.clk.aon = false ∧ (s { pfailN := false } {}).dev.pins.pfailN = false := by
  decide +kernel

/-- A restore, with memory on ports 63 and 9, which hold the homes. -/
def rest (regs : List (Fld × Nat)) (p : Prs) (n : Nor) (d : Dev := {}) : State :=
  st ([(R.PRS.STATE.SEQ, 0)] ++ port 63 2 4 ++ port 9 2 4 ++ [(R.PRS.HOMEA.EXT, 8), (R.PRS.HOMEA.VALID, 1), (R.PRS.HOMEB.EXT, 9), (R.PRS.HOMEB.VALID, 1), (R.PRS.CTL.ARMED, 1)] ++ regs)
    { d with time := { cclk := 300000000 }, port := [(63, { ex := true }), (9, { ex := true })] ++ d.port, extents := [(8, { valid := true, port := 63, st := 1 }), (9, { valid := true, cat := true, port := 9, st := 3 })], prs := p, nor := n }
/-- The image of that device, and one change to it. -/
def image5 (f : Image → Image := id) : Image := f { ((rest [] {} {}).dev.drawImage 0).1 with iv := 7, cfgSeq := 5, rules := [(3, { en := true, limit := 5 })] }
def change6 : CatChg := { seq := 6, after := image5 (fun i => { i with cfgSeq := 6, polices := [(3, { cir := 4 })] }) }
def record6 : JrnRec := { chg := change6, iv := 7, items := catDiff image5 change6.after true }
def journal (recs : List JrnRec) : Nor := { base := some image5, recs := recs, fill := 905232 + (recs.map (fun (r : JrnRec) => recordLen r.items)).sum }
def homes (i : Image) : Prs := { stage := 2, hold := [63, 9], stored := [(128 * 8, i)] }
theorem meets_boot_and_journal_read :
    let s := fun (n : Nat) (nor : Nor) => rest [] { stage := n } nor
    (∀ n ∈ [0, 1, 2, 4, 5], (s n {}).live ∧ (s n {}).dev.get R.PRS.STATE.SEQ = 0 ∧ (s n {}).dev.prs.t0.isSome = true ∧ (s n {}).dev.prs.stage = n ∧ (s n {}).dev.settled ∧ (s n {}).dev.buf.msgs = [] ∧ (s n {}).dev.is R.PAIR.CTL.EN = false) ∧ (s 0 {}).dev.mgmt.dead = false ∧
      (s 0 {}).dev.nor.fwBank = false ∧ (s 0 {}).dev.get R.TOP.SECVER.VER ≤ (s 0 {}).dev.nor.ver0 ∧ (s 0 {}).dev.get R.TOP.SECVER.VER ≤ (s 0 {}).dev.nor.ver1 ∧ (s 1 {}).dev.nor.base = none ∧ (s 1 (journal [])).live ∧ (s 1 (journal [])).dev.settled ∧ (s 1 (journal [])).dev.nor.base = some image5 ∧
      image5.devId = (s 1 {}).dev.pins.devId ∧ image5.sealed = true ∧ image5.tablesOk = true ∧ HomeRead.why .tag ≠ 0 ∧ (image5 (fun i => { i with devId := 3 })).devId ≠ (s 1 {}).dev.pins.devId ∧
      (let e := image5 (fun i => { i with regs := [] })
       e.tablesOk = true ∧ e.sealed = true ∧ ((s 1 { base := some e }).dev.nor.cutAt 0).jrn = some e ∧ e.regs = []) ∧ (s 2 {}).dev.isMem 63 = true ∧ (s 2 {}).dev.isUp 63 = true := by
  decide +kernel
theorem meets_home_reads :
    let w := (rest [] (homes image5) {}).dev
    let n := (rest [] { stage := 2, hold := [63, 9] } (journal [])).dev
    let z := (rest [] { stage := 2 } {}).dev
    w.choose (w.homeWhy false .asWritten) (w.homeWhy true .asWritten) (w.get R.PRS.RSTSTS.N_WHY) = some (1, image5) ∧ portsDiffer w.regs image5.regs = [] ∧ slotsDiffer w.regs image5.regs = [] ∧ w.prs.stage = 2 ∧ w.get R.PRS.STATE.SEQ = 0 ∧ w.is R.PAIR.CTL.EN = false ∧
      n.choose (n.homeWhy false .tag) (n.homeWhy true .tag) (n.get R.PRS.RSTSTS.N_WHY) = some (3, image5) ∧ portsDiffer n.regs image5.regs = [] ∧ slotsDiffer n.regs image5.regs = [] ∧
      z.choose (z.homeWhy false .asWritten) (z.homeWhy true .tag) (z.get R.PRS.RSTSTS.N_WHY) = none := by
  decide +kernel
theorem meets_pair_agreement :
    let s := fun (q : Nat) => rest ((R.PAIR.CTL.EN, 1) :: (R.PRS.CFGSEQ_L.VALUE, q) :: port 46 4 4) { stage := 3 } {} { port := [(46, { ex := true })] }
    (∀ q ∈ [0, 7], (s q).live ∧ (s q).dev.get R.PRS.STATE.SEQ = 0 ∧ (s q).dev.prs.t0.isSome = true ∧ (s q).dev.prs.stage = 3 ∧ (s q).dev.is R.PAIR.CTL.EN = true ∧ (s q).dev.buf.msgs = [] ∧ (s q).dev.mirrorPort.any (s q).dev.isUp = true ∧ (s q).dev.cfgSeq = q ∧
      portsDiffer (s q).dev.regs ((s q).dev.ownView { regs := Tbl.keep (s q).dev.regs isCat }).regs = [] ∧ slotsDiffer (s q).dev.regs ((s q).dev.ownView { regs := Tbl.keep (s q).dev.regs isCat }).regs = []) := by
  decide +kernel
theorem meets_consistency_and_resume :
    let c := rest [] { stage := 4, img := some (image5 (fun i => { i with source := 1 })) } {} { slices := [(511, { st := 1 })] }
    c.live ∧ c.dev.get R.PRS.STATE.SEQ = 0 ∧ c.dev.prs.t0.isSome = true ∧ c.dev.prs.stage = 4 ∧ c.dev.buf.msgs = [] ∧ c.dev.is R.PAIR.CTL.EN = false ∧ (∀ x ∈ c.dev.slices, x.2.st ≤ 1) ∧ (∀ x ∈ c.dev.slices, ∀ e ∈ x.2.exts, c.dev.role (c.dev.ext e).port ≠ 3) ∧
      (c.dev.sl 511).st = 1 ∧ (rest [] { stage := 5 } {}).dev.prs.asked = [] ∧ ((rest [] {} {}).dev.prt 63).hold = 0 := by
  decide +kernel
theorem meets_journal :
    let s := fun (c : CatChg) (n : Nor) => rest [(R.PRS.STATE.SEQ, 1), (R.TOP.DSTATE.MODE, 1)] { chg := [c] } n
    let fits := fun (c : CatChg) (n : Nor) => c.seq = 5 + 1 ∧ n.fill + recordLen (catDiff image5 c.after true) ≤ 0x1000000
    (∀ n ∈ [{}, journal []], (s change6 n).live ∧ (s change6 n).dev.prs.chg = [change6] ∧ (s change6 n).dev.nor.op = 0 ∧ (s change6 n).dev.inService = true ∧ (s change6 n).dev.mgmt.down = false ∧ (s change6 n).dev.mgmt.dead = false) ∧ (s change6 {}).dev.nor.jrn = none ∧
      (journal []).jrn = some image5 ∧ image5.cfgSeq = 5 ∧ fits change6 (journal []) ∧ ¬fits { change6 with seq := 7 } (journal []) ∧ ¬fits change6 { journal [] with fill := 0x1000000 } := by
  decide +kernel
theorem meets_nor_operations :
    let s := fun (n : Nor) => rest [(R.PRS.STATE.SEQ, 1), (R.TOP.DSTATE.MODE, 1)] { chg := [change6] } n
    let p := s { journal [] with op := 1, adds := some record6, took := 1 }
    p.live ∧ p.dev.nor.op = 1 ∧ p.dev.nor.adds = some record6 ∧ p.dev.nor.base = some image5 ∧ p.dev.nor.tgt = p.dev.nor.bank ∧
      (∀ t ∈ [true, false], let b := s { journal [] with op := 2, busy := some change6.after, took := 1, tgt := t }
        b.live ∧ b.dev.nor.op = 2 ∧ b.dev.nor.busy = some change6.after ∧ b.dev.nor.adds = none ∧ (b.dev.nor.tgt = b.dev.nor.bank ↔ t = false)) ∧ (s { journal [] with op := 3 }).live ∧ (s { journal [] with op := 3 }).dev.nor.op = 3 ∧ (s {}).dev.nor.op = 0 := by
  decide +kernel

/-- Xepin: port 63 on a link group. Its station is 15. -/
def xep (state : Nat) (regs : List (Fld × Nat)) (x : XepRt) (r : PortRt := {}) (d : Dev := {}) : State :=
  sv (port 63 3 state ++ port 44 2 4 ++ regs)
    { d with port := [(44, { ex := true }), (63, { r with ex := true })], xep := [(63, x)], extents := [(3, { valid := true, st := 1, port := 44, mapcnt := 1, atomOk := true }), (4, { valid := true, st := 0, port := 44 }), (5, { valid := true, st := 1, port := 63 })] }
theorem meets_capability_exchange :
    let s := xep 2 [] { seen := some 5, inst := some 6, next := 4095 }
    let t := xep 3 [] { seen := some 5 }
    s.live ∧ s.dev.isXep 63 = true ∧ s.dev.linkSt 63 = 2 ∧ s.dev.settled ∧ s.dev.capBad 63 {} = true ∧ s.dev.capBad 63 { devId := 7, inst := 5, rxValid := true, rxNext := 4095 } = false ∧ (s.dev.xl 63).inst.isSome = true ∧
      (s.dev.xl 63).resumes { devId := 7, inst := 5, rxValid := true, rxNext := 4095 } = true ∧ t.live ∧ t.dev.isXep 63 = true ∧ t.dev.linkSt 63 = 3 ∧ t.dev.settled ∧ t.dev.capBad 63 { devId := 7, inst := 4 } = false ∧
      (t.dev.xl 63).resumes { devId := 7, inst := 4 } = false ∧ t.dev.role 63 = 3 ∧ (t.dev.prt 63).hold ≠ 1 := by
  decide +kernel
/-- A frame's header, and its halves with these slots. -/
def hdr5 : FHdr := { seq := 5, ack := 7, ftype := 1 }
def half (n : Nat) (h : FHdr) (slots : List Nat) (stomp : Bool := false) : List Nat :=
  let f := frameBytes h slots false stomp true
  if n = 0 then f.take 128 else f.drop 128
/-- A half of zeros: its code word is right and its CRC wrong. -/
def zeros : List Nat := List.replicate 128 0
def readMsg : XMsg := { op := 1, odev := 3, oidx := 63, tag := 9, addr := 3 * 2 ^ 30 + 64, slice := 2 }
def link5 : XepRt := { exp := 5, unack := [{ seq := 6 }, { seq := 7 }, { seq := 8, slots := [5] }], next := 9, rplyMax := 2, nbr := some 3 }
def compat : List (Fld × Nat) := [(R.PU.CFG.XCOMPAT 63, 1)]
/-- What every clause about a frame half asks. -/
abbrev frameOk (s : State) : Prop := s.live ∧ s.dev.settled ∧ s.dev.isXep 63 = true ∧ s.dev.isUp 63 = true ∧ (s.dev.prt 63).recov = false ∧ (s.dev.xl 63).wait = []
def walked (s : State) (h : FHdr) (l : List Nat) : Option (List Nat) := (rxWalk (h.ftype == 2) (s.dev.role 63 == 4) (slotsOf l) (if h.ftype = 2 then (s.dev.xl 63).rspIn else (s.dev.xl 63).reqIn) s.dev.buf.nextArr).map (fun x => x.1.map (·.arr))
theorem meets_first_halves :
    let s := xep 4 [] link5
    let c := xep 4 compat link5
    let full := xep 4 [] link5 {} { buf := { opens := (List.range 64).flatMap (fun k => [(100 + 2 * k, 4096 * k, 0), (101 + 2 * k, 4096 * k + 1, 0)]) } }
    frameOk s ∧ frameOk c ∧ frameOk full ∧ s.dev.xcompat 63 = false ∧ c.dev.xcompat 63 = true ∧ check0 zeros = .bad ∧ check0 (half 0 { hdr5 with crReq := 3 } []) = .good ∧
      advance256 (frameHdr (half 0 { hdr5 with crReq := 3 } [])).crReq (c.dev.xl 63).tReq > (c.dev.xl 63).uReq ∧ (∀ t ∈ [0, 1, 2, 3, 5], check0 (half 0 { hdr5 with ftype := t } []) = .good ∧ frameHdr (half 0 { hdr5 with ftype := t } []) = { hdr5 with ftype := t }) ∧ hdr5.nak = false ∧
      hdr5.seq = (s.dev.xl 63).exp ∧ (s.dev.xl 63).expHalf = 0 ∧ (frameHdr (half 0 { hdr5 with seq := 4 } [])).seq ≠ (s.dev.xl 63).exp ∧ (s.dev.xl 63).unack.any (fun f => f.seq == 7) = true ∧ walked s hdr5 ((half 0 hdr5 [5]).drop 8) = none ∧ walked s hdr5 ((half 0 hdr5 []).drop 8) = some [] ∧
      walked s hdr5 ((half 0 hdr5 readMsg.slots).drop 8) = some [s.dev.buf.nextArr, s.dev.buf.nextArr] ∧ (({ full.dev.buf with opens := Tbl.erase full.dev.buf.opens 63 } : Buf).cellFor 63 2 63).isNone = true ∧ (({ s.dev.buf with opens := Tbl.erase s.dev.buf.opens 63 } : Buf).cellFor 63 2 63).isSome = true ∧
      s.dev.buf.msgs = [] := by
  decide +kernel
/-- Half 0 received, half 1 to come. -/
def mid5 (a : List Nat) (ok : Bool) (r : List (Fld × Nat)) : State := xep 4 r { link5 with half0 := some a, ok0 := ok, expHalf := 1 }
theorem meets_second_halves :
    (∀ ok ∈ [true, false], ∀ r ∈ [[], compat], frameOk (mid5 (half 0 hdr5 []) ok r) ∧ ((mid5 (half 0 hdr5 []) ok r).dev.xl 63).half0 = some (half 0 hdr5 []) ∧ ((mid5 (half 0 hdr5 []) ok r).dev.xl 63).ok0 = ok ∧ (mid5 (half 0 hdr5 []) ok r).dev.xcompat 63 = !r.isEmpty) ∧
      ((xep 4 [] link5).dev.xl 63).half0 = none ∧ frameHdr (half 0 hdr5 []) = hdr5 ∧ hdr5.seq = ((mid5 [] true []).dev.xl 63).exp ∧ ((mid5 [] true []).dev.xl 63).expHalf = 1 ∧ walked (mid5 [] true []) hdr5 (half 1 hdr5 []) = some [] := by
  decide +kernel
theorem meets_second_half_checks :
    check1 (half 0 hdr5 []) (half 1 hdr5 []) = .good ∧ check1 (half 0 hdr5 []) (half 1 hdr5 [] true) = .stomped ∧
      (∀ h ∈ [{ hdr5 with ftype := 0 }, { hdr5 with seq := 4 }], (check1 (half 0 h []) (half 1 h []) ≠ .bad) ∧ frameHdr (half 0 h []) = h) ∧ check1 (half 0 { hdr5 with seq := 4 } []) (half 1 { hdr5 with seq := 4 } [] true) = .stomped := by
  decide +kernel
theorem meets_broken_formats :
    walked (mid5 [] true []) hdr5 (half 1 hdr5 (List.replicate 7 0 ++ [5])) = none ∧ check1 (half 0 hdr5 (List.replicate 7 0 ++ [5])) (half 1 hdr5 (List.replicate 7 0 ++ [5])) ≠ .bad := by
  decide +kernel
theorem meets_uncorrected_halves :
    let f := fecFix zeros zeros
    check0 zeros = .bad ∧ check1 zeros zeros = .bad ∧ check0 f.1 = .bad ∧ check1 f.1 f.2 = .bad ∧ ∀ ok ∈ [true, false], frameOk (mid5 zeros ok []) ∧ ((mid5 zeros ok []).dev.xl 63).half0 = some zeros ∧ ((mid5 zeros ok []).dev.xl 63).ok0 = ok := by
  decide +kernel
theorem meets_replays :
    let s := xep 4 [] link5
    s.live ∧ s.dev.settled ∧ s.dev.isXep 63 = true ∧ s.dev.isUp 63 = true ∧ (s.dev.xl 63).unack ≠ [] ∧ (s.dev.xl 63).tries < max 1 (s.dev.xl 63).rplyMax ∧ max 1 ((xep 4 [] { link5 with tries := 2 }).dev.xl 63).rplyMax ≤ ((xep 4 [] { link5 with tries := 2 }).dev.xl 63).tries ∧
      ((xep 4 [] {}).dev.xl 63).unack = [] := by
  decide +kernel
theorem meets_xepin_requests :
    let s := xep 4 [] {}
    let v := xep 4 [(R.PRS.STATE.SEQ, 2)] {}
    let m := fun (e op : Nat) => ({ op := op, addr := e * 2 ^ 30 + 0xFFC0, odev := 7, tag := 0xFFFF } : XMsg)
    s.live ∧ s.dev.isXep 63 = true ∧ s.dev.isUp 63 = true ∧ s.dev.role 63 = 3 ∧ s.dev.settled ∧ s.dev.lost 63 = false ∧ v.live ∧ v.dev.settled ∧ v.dev.isXep 63 = true ∧ v.dev.isUp 63 = true ∧ v.dev.role 63 = 3 ∧ v.dev.saving = true ∧ (xKind 1).asksData = true ∧
      (∀ e ∈ [3, 5, 65535], ∀ op ∈ [1, 3, 5, 7, 8, 0x0E, 0x10, 0x11], s.dev.xArrival 63 (m e op) = none ∧ s.dev.buf.room (cellsFor (s.dev.xMsg 63 (m e op)).bytes) = true ∧ s.dev.lost (s.dev.linkFor 63 ((m e op).sliceOf.getD 0) (m e op).addr) = false ∧
        s.dev.lost (s.dev.memPort ((m e op).sliceOf.getD 0) (m e op).addr) = false ∧ (m e op).addr / 2 ^ 30 = e) ∧ v.dev.xArrival 63 (m 3 1) = none ∧ v.dev.lost (v.dev.linkFor 63 ((m 3 1).sliceOf.getD 0) (m 3 1).addr) = false ∧ v.dev.buf.room (cellsFor (v.dev.xMsg 63 (m 3 1)).bytes) = true ∧
      s.dev.saving = false ∧ (s.dev.ext 65535).valid = false ∧ (s.dev.ext 5).valid = true ∧ s.dev.role (s.dev.ext 5).port = 3 ∧ ({ m 5 1 with hops := 2 } : XMsg).hops = 2 ∧ s.dev.xArrival 63 { m 5 1 with hops := 2 } = none ∧
      (s.dev.ext 3).valid = true ∧ s.dev.role (s.dev.ext 3).port = 2 ∧ (s.dev.ext 3).atomOk = true ∧ s.dev.winOf 3 = none ∧ (∀ c, c < 4 → s.dev.is (R.LD.LCTL.EN c) = false) := by
  decide +kernel
theorem meets_xepin_responses :
    let q : Msg := { kind := .memWrite, home := true }
    let o : OutReq := { idx := 4095, epoch := 15, msg := q }
    let s := xep 4 [(R.PU.EPOCH.EPOCH 63, 15)] {} { outs := [o] }
    let m : XMsg := { op := 0x85, tag := 0xFFFF, odev := 7 }
    s.live ∧ s.dev.isXep 63 = true ∧ s.dev.isUp 63 = true ∧ s.dev.role 63 = 3 ∧ s.dev.settled ∧ s.dev.xArrival 63 m = none ∧ s.dev.buf.room (cellsFor (16 + 64 * xLines m.op m.status m.len)) = true ∧ (s.dev.prt 63).outs = [o] ∧ o.idx = m.tag % 4096 ∧ (∀ x ∈ (s.dev.prt 63).outs, x.idx ≠ 0x0FFE) ∧
      m.tag / 4096 % 16 = s.dev.get (R.PU.EPOCH.EPOCH 63) % 16 ∧ 0x7FFF / 4096 % 16 ≠ s.dev.get (R.PU.EPOCH.EPOCH 63) % 16 ∧ o.msg.kind = .memWrite ∧ o.msg.home = true ∧ o.msg.slice = none ∧ m.status = 0 := by
  decide +kernel
theorem meets_mapref :
    let s := xep 4 [] {} {} { xgrp := { applied := [(7, 3)] } }
    let m := fun (e : Nat) => ({ op := 0x0F, addr := e * 2 ^ 30, odev := 7 } : XMsg)
    s.live ∧ s.dev.isXep 63 = true ∧ s.dev.isUp 63 = true ∧ s.dev.xcompat 63 = false ∧ s.dev.role 63 = 3 ∧ s.dev.settled ∧ (∀ e ∈ [3, 4, 5, 65535], ∀ k ∈ [(0, 4), (1, 3), (1, 4), (1, 5), (-1, 4)], s.dev.xArrival 63 (mapMsg (m e) k.1 k.2) = none) ∧ s.dev.buf.room 1 = true ∧
      s.dev.lost (s.dev.linkFor 63 ((m 3).sliceOf.getD 0) (m 3).addr) = false ∧ (s.dev.ext 65535).valid = false ∧ (s.dev.ext 3).valid = true ∧ s.dev.prs.img = none ∧
      s.dev.role (s.dev.ext 3).port = 2 ∧ Tbl.get s.dev.xgrp.applied 0 7 = 3 ∧ (s.dev.ext 3).st = 1 ∧ ((s.dev.ext 3).mapcnt : Int) + 1 > 0 ∧ ((s.dev.ext 3).mapcnt : Int) + -1 = 0 ∧ (s.dev.ext 4).st = 0 ∧
      ((s.dev.ext 4).mapcnt : Int) + 1 > 0 ∧ s.dev.role (s.dev.ext 5).port = 3 ∧ s.dev.lost (s.dev.memPort 0 (5 * 2 ^ 30)) = false := by
  decide +kernel
theorem meets_mapref_timeout_and_buckets :
    let s := xep 4 [] {} {} { commit := { maps := [{ ext := 5, delta := 1, mseq := some 3, cmd := true }], mapCmd := some (7, cmd 0x16 511 0 []) } }
    let t := xep 4 [] {} {} { commit := { maps := [{ ext := 5, delta := 2, mseq := some 3 }] } }
    let b := fun (r : Bool) => (xep 4 [(R.PU.CFG.ROLE 62, 3)] {} {} { xgrp := { rebal := r, buckets := [(64 * 7 + 63, some 63)], members := [(7, 2 ^ 63 + 2 ^ 62)] } }).dev
    let c := fun (r : Bool) => (xep 4 [(R.PU.CFG.ROLE 62, 3)] {} {} { xgrp := { rebal := r, buckets := [(64 * 7 + 62, some 63)], members := [(7, 2 ^ 63 + 2 ^ 62)] } }).dev
    s.live ∧ s.dev.settled ∧ s.dev.commit.maps = [{ ext := 5, delta := 1, mseq := some 3, cmd := true }] ∧ s.dev.commit.mapCmd = some (7, cmd 0x16 511 0 []) ∧ s.dev.committing = false ∧ t.live ∧ t.dev.settled ∧
      t.dev.commit.maps = [{ ext := 5, delta := 2, mseq := some 3 }] ∧ Tbl.get (c true).xgrp.buckets none (64 * 7 + 62) = some 63 ∧ ((c true).groupMembers 7)[62 % ((c true).groupMembers 7).length]? = some 62 ∧ (c true).xgrp.rebal = true ∧
      (c true).bucketIdle 7 62 63 = true ∧ (c false).xgrp.rebal = false ∧ Tbl.get (b true).xgrp.buckets none (64 * 7 + 63) = some 63 := by
  decide +kernel

/-- Fabric time: the parent's kind, and its link, port 63 of group 7. -/
def ftm (parent : Nat) (regs : List (Fld × Nat)) (f : FtRt) (d : Dev := {}) : State :=
  sv ([(R.TOP.FTCTL.PARENT, parent), (R.TOP.FTCTL.PDEV, 7)] ++ port 63 3 4 ++ regs) { d with port := [(63, { ex := true })], xep := [(63, { byp := true })], xgrp := { members := [(7, 2 ^ 63)] }, ftr := f }
theorem meets_fabric_time :
    let s := ftm 1 [(R.TOP.FTCTL.SERVE, 1)] { delay := some 40, t3 := some 9, reqId := 65535, once := true }
    let u := ftm 3 [(R.TOP.FTCTL.PPORT, 62)] { ptm := true, miss := 3 }
    (∀ n ∈ [0, 1, 2, 3], (ftm n [] {}).live ∧ (ftm n [] {}).writable ∧ (ftm n [] {}).dev.ftParent = n) ∧ s.live ∧ s.dev.parentPort = some 63 ∧ s.dev.bypUp 63 = true ∧ s.dev.ftr.delay = some 40 ∧ s.dev.is R.TOP.FTCTL.SERVE = true ∧
      (ftm 1 [] {}).dev.ftr.delay = none ∧ s.dev.ftr.t3 = some 9 ∧ 0x1FFFF % 2 ^ 16 = s.dev.ftr.reqId ∧ (ftm 1 [] {}).dev.ftr.t3 = none ∧ (ftm 1 [] {}).dev.parentPort ≠ some 62 ∧ (ftm 1 [(R.TOP.FTCTL.SERVE, 0)] {}).dev.is R.TOP.FTCTL.SERVE = false ∧ u.dev.ftr.ptm = true ∧
      (ftm 3 [] {}).dev.ftr.ptm = false ∧ (ftm 2 [] { setTo := some 5, miss := 3 }).dev.ftr.setTo = some 5 ∧ (ftm 2 [] {}).dev.ftr.setTo = none ∧ (ftm 0 [(R.TOP.FTCTL.PPS_OUT, 1)] {}).dev.is R.TOP.FTCTL.PPS_OUT = true ∧
      (ftm 0 [] {}).dev.pins.tsyncOut = false ∧ (ftm 0 [] {} { pins := { tsyncOut := true } }).dev.pins.tsyncOut = true ∧
      (let h := sv ([(R.TOP.FTCTL.PARENT, 3), (R.TOP.FTCTL.PPORT, 62)] ++ port 62 1 4) { port := [(62, { ex := true })] }; h.live ∧ h.dev.ftParent = 3 ∧ h.dev.isHost (h.dev.get R.TOP.FTCTL.PPORT) = true ∧ h.dev.isUp (h.dev.get R.TOP.FTCTL.PPORT) = true) := by
  decide +kernel

/-- Tally. -/
def tly (regs : List (Fld × Nat)) (t : Tally) (d : Dev := {}) : State := sv regs { d with tally := t, slices := [(511, { st := 1, port := 63, pasidEn := true, gen := 2 })], port := [(63, { ex := true })] }
theorem meets_telemetry :
    let s := tly [] {}
    let e := tly [(R.TLY.CTL.SNAP_EN, 1), (R.LD.LCTL.EN 3, 1), (R.TLY.SAMPCTL.EN, 1), (R.CP.SCHCTL.STARVE_US 3, 1)] { visit := 131071 } { buf := { msgs := [{ egress := 63, slice := some 511, cls := .sc3 }] }, time := { cclk := 64000 } }
    let good := 0x41 + 2 ^ 15 + 2 ^ 16
    s.live ∧ s.configurable ∧ s.dev.committing = false ∧ packCtrSel (unpackCtrSel 0x35) = 0x35 ∧ (unpackCtrSel 0x35).event ∈ ctrCodes 10271 ∧ (unpackCtrSel 0x35).ovr = false ∧ packCtrSel (unpackCtrSel (good * 2 ^ 40)) ≠ good * 2 ^ 40 ∧
      s.dev.is R.TLY.CTL.SNAP_EN = false ∧ e.live ∧ e.configurable ∧ e.dev.committing = false ∧ e.dev.is R.TLY.CTL.SNAP_EN = true ∧ e.dev.saving = false ∧ s.dev.is (R.LD.LCTL.EN 3) = false ∧ s.dev.is (R.LD.LCTL.DEST 3) = false ∧
      e.dev.is (R.LD.LCTL.EN 3) = true ∧ (tly [(R.LD.LCTL.DEST 3, 1), (R.LD.LSLICE.SLICE 3, 511)] {}).dev.is (R.LD.LCTL.DEST 3) = true ∧ ((tly [(R.LD.LSLICE.SLICE 3, 511)] {}).dev.sl 511).pasidEn = true ∧
      ((tly [] {}).dev.sl 511).st = 1 ∧ (s.dev.sl 0).st ≠ 1 ∧ (tly [(R.TLY.SAMPCTL.EN, 0)] {}).dev.is R.TLY.SAMPCTL.EN = false ∧ (let z := tly [(R.TLY.SAMPCTL.EN, 1), (R.CP.SCHCTL.STARVE_US (cpOf 63), 0)] { visit := 2048 * 63 + 4 * 511 }; z.live ∧ z.dev.is R.TLY.SAMPCTL.EN = true ∧ z.dev.saving = false ∧ z.dev.tally.visit = 2048 * 63 + 4 * 511 + 0 ∧
        (z.dev.prt 63).ex = true ∧ z.dev.get (R.CP.SCHCTL.STARVE_US (cpOf 63)) = 0 ∧ z.dev.tally.visit ≠ 131071) ∧ e.dev.is R.TLY.SAMPCTL.EN = true ∧ e.dev.tally.visit = 2048 * 63 + 4 * 511 + 3 ∧ (e.dev.prt 63).ex = true ∧
      e.dev.queueOf 63 (some 511) 3 = [{ egress := 63, slice := some 511, cls := .sc3 }] ∧ e.dev.get (R.CP.SCHCTL.STARVE_US (cpOf 63)) ≠ 0 ∧ e.dev.get (R.CP.SCHCTL.STARVE_US (cpOf 63)) * 1000 < min (2 ^ 24 - 1) ((e.dev.time.cclk - 0) / 32) * 16 := by
  decide +kernel
theorem meets_snapshots :
    let sn : Snap := ⟨5, 6, 1, [7]⟩
    let u : Dump := ⟨511, 2, 4096, 1, 2, [3]⟩
    let w := fun (ci : Nat) => tly [(R.TLY.CTL.SNAP_EN, 1), (R.TLY.SNAPCTL.SIZE, 4), (R.TLY.SNAPIDX.CI, ci), (R.TLY.SNAPIDX.PI, 15)] { snap := some sn }
    (tly [(R.TLY.CTL.SNAP_EN, 1)] {}).dev.tally.snap = none ∧ (tly [] {}).dev.tally.dumps = [] ∧ (w 1).live ∧ (w 1).dev.saving = false ∧ (w 1).dev.settled ∧ (w 0).dev.settled ∧ (w 1).dev.tally.snap = some sn ∧ (w 1).dev.tally.dumps = [] ∧
      ((w 1).dev.get R.TLY.SNAPIDX.PI + 1) % 2 ^ (w 1).dev.get R.TLY.SNAPCTL.SIZE ≠ (w 1).dev.get R.TLY.SNAPIDX.CI % 2 ^ (w 1).dev.get R.TLY.SNAPCTL.SIZE ∧
      ((w 0).dev.get R.TLY.SNAPIDX.PI + 1) % 2 ^ (w 0).dev.get R.TLY.SNAPCTL.SIZE = (w 0).dev.get R.TLY.SNAPIDX.CI % 2 ^ (w 0).dev.get R.TLY.SNAPCTL.SIZE ∧ (tly [] { dumps := [u] }).live ∧ (tly [] { dumps := [u] }).dev.tally.dumps = [u] ∧
      ((tly [] { dumps := [u] }).dev.sl u.slice).gen = u.gen ∧ (tly [] { dumps := [u] }).dev.settled ∧ (tly [] { dumps := [u] }).dev.lost ((tly [] { dumps := [u] }).dev.sl u.slice).port = false ∧ ((tly [] { dumps := [u] }).dev.sl u.slice).st ≠ 0 ∧ ((tly [] { dumps := [u] }).dev.sl u.slice).dlogEn = false ∧
      ((tly [] { dumps := [{ u with gen := 1 }] }).dev.sl 511).gen ≠ 1 := by
  decide +kernel
theorem meets_landing_records :
    let x : LandRec := { point := 0, port := 63, slice := some 511, cls := 0, matched := 0, time := 5, gen := 1, data := 3 }
    let w := fun (dest ci : Nat) (x : LandRec) => tly [(R.LD.LCTL.SIZE 3, 4), (R.LD.LIDX.CI 3, ci), (R.LD.LIDX.PI 3, 15), (R.LD.LCTL.DEST 3, dest), (R.LD.LSLICE.SLICE 3, 511)] { land := [(3, { fifo := [x] })] }
    (∀ n ∈ [(0, 0), (0, 1), (1, 0)], (w n.1 n.2 x).live ∧ (w n.1 n.2 x).dev.saving = false ∧ (w n.1 n.2 x).dev.settled ∧ ((w n.1 n.2 x).dev.land 3).fifo = [x] ∧ (w n.1 n.2 x).dev.is (R.LD.LCTL.DEST 3) = (n.1 == 1)) ∧ (15 + 1) % 16 = (w 0 0 x).dev.get (R.LD.LIDX.CI 3) % 16 ∧
      (15 + 1) % 16 ≠ (w 0 1 x).dev.get (R.LD.LIDX.CI 3) % 16 ∧ ((w 1 0 x).dev.sl 511).gen ≠ x.gen ∧ ((tly [] {}).dev.land 3).fifo = [] ∧ (w 0 0 x).dev.is (R.LD.LCTL.EN 3) = false ∧
      (let y := { x with gen := 2 }; let z := (w 1 1 y).dev; (w 1 1 y).live ∧ z.saving = false ∧ z.settled ∧ (z.land 3).fifo = [y] ∧ z.is (R.LD.LCTL.DEST 3) = true ∧ z.get (R.LD.LSLICE.SLICE 3) = 511 ∧ (z.sl 511).gen = y.gen ∧
        (z.sl 511).dlogEn = false ∧ z.lost (z.sl 511).port = false ∧ (z.get (R.LD.LIDX.PI 3) + 1) % 2 ^ z.get (R.LD.LCTL.SIZE 3) ≠ z.get (R.LD.LIDX.CI 3) % 2 ^ z.get (R.LD.LCTL.SIZE 3)) := by
  decide +kernel

/-- The pair: the mirror link on port 46. -/
def pair (pst : Nat) (regs : List (Fld × Nat)) (p : PairRt) (c : Commit := {}) (d : Dev := {}) : State :=
  sv ([(R.PAIR.CTL.EN, 1), (R.PAIR.STATE.PSTATE, pst)] ++ port 46 4 4 ++ regs) { d with port := [(46, { ex := true })], pair := p, commit := c }
theorem meets_heartbeats :
    let s := pair 3 [(R.PAIR.CTL.FENCE_EN, 1)] { miss := 7 }
    (∀ n ∈ [0, 1, 2, 3, 4, 5, 6], (pair n [] {}).live ∧ (pair n [] {}).dev.settled ∧ (pair n [] {}).dev.pst = n ∧ (pair n [] {}).dev.mirrorUp = true ∧ ((pair n [] {}).dev.beats = true ↔ n ≠ 0 ∧ n ≠ 4)) ∧ s.dev.beats = true ∧
      (pair 3 [] { miss := 6 }).dev.pair.miss = 6 ∧ s.dev.pair.miss = 7 ∧ s.dev.pair.got = false ∧ s.dev.get R.PAIR.COMMIT.STATE = 0 ∧ s.dev.buf.msgs = [] ∧ s.dev.is R.PAIR.CTL.FENCE_EN = true ∧ s.dev.skid.cplWait = [] ∧
      (pair 2 [] { miss := 7, left := 6 }).dev.pst = 2 ∧ (pair 2 [] { miss := 7, left := 6 }).dev.pair.miss = 7 ∧ s.dev.mirrorPort = some 46 ∧ (sv []).dev.mirrorUp = false ∧ (pair 1 [] {}).dev.pair.hbN = 0 ∧
      (∀ r ∈ [0, 1], let d := (pair 1 [(R.PAIR.STATE.ROLE, r), (R.PRS.CFGSEQ_L.VALUE, 5)] { hbN := 1 }).dev
        d.pst = 1 ∧ d.pair.hbN = 1 ∧ d.is R.PAIR.STATE.ROLE = (r == 1) ∧ d.cfgSeq = 5 ∧ d.cwins = []) ∧ (pair 6 [] { hbN := 1 }).dev.pair.hbN = 1 := by
  decide +kernel
theorem meets_heartbeat_links :
    let o := (pair 3 [] {}).dev
    let b := (pair 3 [] {} {} { xep := [(46, { byp := true })] }).dev
    o.mirrorPort = some 46 ∧ o.mirrorByp = false ∧ b.mirrorByp = true ∧ o.linkOpen 46 = true ∧ (o.xl 46).wait = [] ∧ (o.xl 46).unack = [] ∧ (o.xl 46).unack.length < 4095 ∧ o.xcompat 46 = false ∧
      (∀ s ∈ [pair 3 [(R.PAIR.CTL.FENCE_EN, 1)] { miss := 7 }, pair 2 [] { miss := 7, left := 6 }, pair 1 [] { hbN := 1 }, pair 6 [] { hbN := 1 }, pair 5 [] { stage := 3 }, pair 2 [] { synced := true }, pair 3 [(R.PRS.CTL.PAIR_SAVE, 1)] {}], s.live ∧ s.dev.settled) ∧
      (∀ k, k < 64 → ((pair 2 [] { synced := true }).dev.prt k).held = false) ∧ (pair 2 [] { synced := true }).dev.pst = 2 ∧ (pair 2 [] { synced := true }).dev.is R.PAIR.SYNCSTS.SOURCE = false := by
  decide +kernel
def quietState (s : State) : Prop :=
  s.dev.buf.msgs = [] ∧ (∀ ds, ds < 16 → (s.dev.dir ds).ac = [] ∧ (s.dev.dir ds).ents = [] ∧ (s.dev.dir ds).trks = []) ∧ (∀ k, k < 64 → (s.dev.prt k).outs = [] ∧ (s.dev.xl k).unack = [] ∧ (s.dev.xl k).wait = []) ∧
    s.dev.skid.stored = [] ∧ (∀ x ∈ s.dev.queues, x.2.st ≠ 1 ∧ x.2.st ≠ 2)
theorem meets_fence :
    let s := fun (role : Nat) (p : PairRt) => pair 4 [(R.PAIR.STATE.ROLE, role)] { p with read := true }
    (∀ r ∈ [0, 1], quietState (s r {}) ∧ (s r {}).live ∧ (s r {}).dev.settled ∧ (s r {}).dev.pst = 4 ∧ (s r {}).dev.pair.read = true ∧ (s r {}).dev.is R.PAIR.STATE.ROLE = (r == 1)) ∧ (s 0 {}).dev.pair.wait = false ∧
      (0 : Nat) ≤ (s 0 {}).dev.hbLast + 1 ∧ (s 0 {}).dev.hbLast + 1 < 2 ∧ (s 0 { att := 1 }).dev.pair.att < 2 ∧ 2 ≤ (s 1 { att := 2 }).dev.pair.att ∧ (s 0 { wait := true, cnt := 9, same := 2 }).dev.pair.wait = true ∧
      (s 0 { wait := true, cnt := 9, same := 2 }).dev.pair.cnt = 9 ∧ 2 ≤ (s 0 { wait := true, cnt := 9, same := 2 }).dev.pair.same ∧ (s 0 { wait := true, same := 1 }).dev.pair.same < 2 ∧ (pair 4 [] { wait := true }).dev.pair.read = false := by
  unfold quietState; decide +kernel
theorem meets_joining :
    let j := fun (rx : Nat) => pair 2 [(R.PAIR.SYNCSTS.JOINER, 1)] { rx := rx }
    let b := pair 2 [(R.PAIR.SYNCSTS.SOURCE, 1), (R.PAIR.SYNCSTS.HANDBACK, 1)] {}
    let n := pair 3 [(R.PRS.CTL.PAIR_SAVE, 1)] {}
    (pair 5 [] { stage := 3 }).dev.pair.stage = 3 ∧ (pair 5 [] { stage := 2 }).dev.recalling rclTake = false ∧ (j 0).dev.is R.PAIR.SYNCSTS.JOINER = true ∧ (j 0).dev.mirrorUp = true ∧ (1024 : Nat) ≤ 1024 ∧ (j 1024).dev.pair.rx = 1024 ∧
      905232 ≤ (j 905232).dev.pair.rx ∧ (j 905232).dev.pst = 2 ∧ (j 905231).dev.pair.rx < 905232 ∧ portsDiffer (j 905232).dev.regs ((j 905232).dev.ownView { regs := Tbl.keep (j 905232).dev.regs isCat }).regs = [] ∧
      slotsDiffer (j 905232).dev.regs ((j 905232).dev.ownView { regs := Tbl.keep (j 905232).dev.regs isCat }).regs = [] ∧ b.dev.is R.PAIR.SYNCSTS.SOURCE = true ∧ b.dev.is R.PAIR.SYNCSTS.HANDBACK = true ∧ b.dev.recalling rclBack = false ∧
      (∀ k, k < 64 → (b.dev.prt k).held = false) ∧ (pair 2 [] { synced := true }).dev.pair.synced = true ∧ n.dev.mirrorUp = true ∧ n.dev.is R.PAIR.CTL.EN = true ∧ n.dev.is R.PRS.CTL.PAIR_SAVE = true ∧ n.dev.inService = true ∧
      (∀ k, k < 64 → (n.dev.prt k).hold ≠ 1) ∧ (pair 3 [(R.PRS.CTL.PAIR_SAVE, 0)] {}).dev.is R.PRS.CTL.PAIR_SAVE = false := by
  decide +kernel
theorem meets_pair_commits :
    let it : Item := { loc := 0x1010000 + 16 * 4095, len := 16, bytes := 2 ^ 104 - 1 }
    let m : PrepMsg := { mid := 65535, cfgSeq := 1, prin := 8, dev := true, cnt := 0, more := false, items := [it] }
    let q : Commit := { queue := [.dev [it]] }
    let s := pair 3 [] {} q
    let p := fun (role eng : Nat) (c : Commit) => (pair 3 [(R.PAIR.STATE.ROLE, role), (R.PAIR.COMMIT.STATE, eng)] {} c).dev
    s.live ∧ s.dev.settled ∧ s.dev.commit.queue = [.dev [it]] ∧ s.dev.get R.PAIR.COMMIT.STATE = 0 ∧ s.dev.inService = true ∧ s.dev.inPair = true ∧ (pair 5 [] {} q).dev.inPair = false ∧ (pair 5 [] {} q).dev.pst ≠ 2 ∧ (4095 : Nat) < 4096 ∧
      m.items = [it] ∧ m.cnt = 0 ∧ m.more = false ∧ s.dev.mirrorUp = true ∧ s.dev.givenMack m.mid = none ∧ s.dev.commit.part = [] ∧ m.cfgSeq = (s.dev.cfgSeq + 1) % 2 ^ 64 ∧ ({ m with cfgSeq := 2 } : PrepMsg).cfgSeq ≠ (s.dev.cfgSeq + 1) % 2 ^ 64 ∧
      (∀ r ∈ [0, 1], (p r 1 { change := some (.dev [it]) }).get R.PAIR.COMMIT.STATE = 1 ∧ (p r 1 { change := some (.dev [it]) }).is R.PAIR.STATE.ROLE = (r == 1) ∧ (p r 1 { change := some (.dev [it]) }).commit.change = some (.dev [it])) ∧
      (p 0 3 { held := some m }).commit.held = some m ∧ (p 0 3 { held := some m }).get R.PAIR.COMMIT.STATE = 3 ∧ (p 0 2 { change := some (.dev [it]) }).get R.PAIR.COMMIT.STATE = 2 ∧ (p 0 1 {}).skid.cplWait = [] ∧
      (p 0 1 { change := some (.reg 0x3FFFFFC 0 15) }).commit.change = some (.reg 0x3FFFFFC 0 15) ∧ (p 0 0 { given := [(65535, 0, 0)] }).givenMack m.mid = some (m.mid, 0, 0) ∧ (1 : Nat) ≠ (p 0 1 {}).get R.PAIR.COMMIT.MID := by
  decide +kernel
theorem meets_waiting_completions :
    let c : SCpl := { q := 1022, slot := 63, tag := 4, status := 0, phase := true, srcCrc := 0, residue := 0, failOff := 0, irq := false, gen := 0 }
    let s := pair 3 [] {} {} { skid := { cplWait := [(7, c)], acts := [{ q := 1022, slot := 63, d := {}, gen := 0, status := some 0 }] }, queues := [(1022, { st := 1, size := 6, head := 63, cpl := 4096 })], slices := [(511, { st := 1, port := 63 })] }
    s.live ∧ s.dev.settled ∧ s.dev.mirrorUp = true ∧ s.dev.skid.cplWait = [(7, c)] ∧ (∀ a ∈ s.dev.skid.acts, a.q = c.q → a.slot = c.slot) ∧ s.dev.saving = false ∧ c.q < 1024 ∧ c.gen = s.dev.qGen c.q ∧ s.dev.lost (s.dev.sl (c.q / 2)).port = false ∧
      (∀ w ∈ s.dev.skid.cplWait, w.1 ≠ 8) ∧ s.dev.mirrorPort = some 46 ∧ s.dev.linkOpen 46 = true ∧ (s.dev.xl 46).wait = [] ∧ (s.dev.xl 46).unack.length < 4095 ∧ s.dev.xcompat 46 = false ∧
      (∀ t ∈ [pair 3 [(R.PAIR.COMMIT.STATE, 1)] {} { change := some (.reg 0x3FFFFFC 0 15) }, pair 3 [(R.PAIR.COMMIT.STATE, 2)] {} { change := some (.dev []) }], t.live ∧ t.dev.settled ∧ t.dev.mirrorUp = true ∧ t.dev.givenMack 7 = none) := by
  decide +kernel
theorem meets_pair_messages :
    let r := (pair 3 [(R.PAIR.STATE.ROLE, 1)] {} {} { mgmt := { rings := [(6, { attached := true })] } }).dev
    r.mirrorUp = true ∧ r.inPair = true ∧ r.is R.PAIR.CTL.EN = true ∧ r.is R.PAIR.STATE.ROLE = true ∧ r.givenMack 65535 = none ∧ (r.ring 6).attached = true ∧ (r.ring 7).attached = false ∧ (pair 3 [] {}).dev.is R.PAIR.STATE.ROLE = false := by
  decide +kernel

/-- The queue, and reset. -/
theorem meets_steps : ({ sv [] with pending := [.hb ⟨0, false, 0, 0⟩] } : State).pending = .hb ⟨0, false, 0, 0⟩ :: [] ∧ (sv []).pending = [] ∧ (sv []).live ∧ State.reset.dev.heldReset = true := by decide +kernel
theorem meets_reset_invariant : State.reset.resetInv ∧ step State.reset = .next State.reset := by
  unfold State.resetInv; exact ⟨fun _ => by decide +kernel, rfl⟩
theorem meets_table_entries : (2 : Nat) ^ 104 - 1 < 2 ^ 104 ∧ bits (2 ^ 104 - 1 - 127 * 2 ^ 9 - 255 * 2 ^ 56) 9 7 = 0 ∧ bits (2 ^ 104 - 1 - 127 * 2 ^ 9 - 255 * 2 ^ 56) 56 8 = 0 := by decide +kernel
theorem test_runs_are_safe : State.safe 3 { State.reset with pending := [.rootPllLock, .resumeReady] } = true := by decide +kernel


end Sys2Proof.Tests
end

section
/-! PROOFS. Register writes: how a BAR0 write reaches its register, what byte enables let through, and the change of configuration it makes (O45). -/
namespace Sys2Proof.Machine

/-! ### A word under byte enables (R6, R390) -/

/-- Where the mask is the low `k` of `w` bits, those come from the written value and the others stay. -/
theorem mixBits_low (a b : Nat) {k w : Nat} (h : k ≤ w) : mixBits a b (2 ^ k - 1) w = a % 2 ^ w / 2 ^ k * 2 ^ k + b % 2 ^ k := by
  have high : a &&& ((2 ^ k - 1) ^^^ (2 ^ w - 1)) = 2 ^ k * (a % 2 ^ w / 2 ^ k) := by
    refine Nat.eq_of_testBit_eq fun i => ?_
    simp only [Nat.testBit_and, Nat.testBit_xor, Nat.testBit_two_pow_sub_one, Nat.testBit_two_pow_mul, Nat.testBit_div_two_pow, Nat.testBit_mod_two_pow]
    by_cases hk : i < k
    · simp [hk, Nat.lt_of_lt_of_le hk h, Nat.not_le.2 hk]
    · have : i - k + k = i := by omega
      simp [hk, this, Nat.not_lt.1 hk, Bool.and_comm]
  rw [mixBits, high, Nat.and_two_pow_sub_one_eq_mod, ← Nat.two_pow_add_eq_or_of_lt (Nat.mod_lt _ (Nat.two_pow_pos k)), Nat.mul_comm]

/-! ### The way of a register write (R6, R214, R221, R389) -/

/-- An access to a unit whose domain is on wakes nothing. -/
theorem Dev.wakeFor_of_on {d : Dev} (on : ∀ k, d.domSt k = .on) (off : Nat) : d.wakeFor off = d := by
  unfold Dev.wakeFor
  split
  · rfl
  · simp [Dev.wake, on]

/-- Where no parity is wrong, a write's parity check finds nothing. -/
theorem Dev.writeWord_of_sound {d : Dev} (sound : d.flaws = []) (off v be : Nat) : d.writeWord off v be = d.bar0Write off v be := by
  simp [Dev.writeWord, Dev.parityCheck, sound]

/-- In SAVED and SAFE, or with no byte enabled, a write has no effect. -/
theorem Dev.bar0Write_ignored {d : Dev} {be : Nat} (h : 7 ≤ d.get R.PRS.STATE.SEQ ∨ be % 16 = 0) (off v : Nat) : d.bar0Write off v be = d := if_pos h

/-- A device that commits alone takes at once what the sequencer lets through: CAT state outside a save only. -/
theorem Dev.bar0Write_alone {d : Dev} {off be : Nat} (w : d.get R.PRS.STATE.SEQ < 7) (hbe : be % 16 ≠ 0) (hsq : isSqBlock off = false) (hc : d.committing = false) (v : Nat) :
    d.bar0Write off v be = d.writePart off v be (fun x => x != .cat || !d.saving) := by
  simp [Dev.bar0Write, Nat.not_le.2 w, hbe, hsq, hc]

/-- A register without a field the write may act on stays. -/
theorem Dev.writePart_untouched {d : Dev} {off : Nat} {pass : Dom → Bool} (ht : isTable off = false) (h : touches off pass = false) (v be : Nat) :
    d.writePart off v be pass = d := by
  simp [Dev.writePart, ht, h]

/-- A write that advances CFG_SEQ in no way of its own counts as one change where a CAT bit of the register differs. -/
theorem Dev.counted_of_cfgSeq {d n : Dev} (h : n.cfgSeq = d.cfgSeq) (changed : Bool) : d.counted n changed = if changed then n.cfgChange else n := by
  simp [Dev.counted, h]

/-- A register in the map whose offset decodes reads a word. -/
theorem Dev.readWord_isSome {off : Nat} (ht : (bar0Target off).isSome) (hr : (findReg off).isSome) (d : Dev) : (d.readWord off).isSome := by
  unfold Dev.readWord
  rw [if_neg (by simpa [Option.isSome_iff_ne_none] using ht)]
  simp only [hr, if_true]
  split
  · rfl
  · split
    · rfl
    · split <;> rfl

/-- REGISTER_WRITE of a word that decodes, on a sound device whose domains are on, is the write of that word. -/
theorem Dev.regWrite_word {d : Dev} {off : Nat} (on : ∀ k, d.domSt k = .on) (sound : d.flaws = []) (h : (d.readWord (off / 4 * 4)).isSome) (v be : Nat) :
    d.regWrite off v be = d.bar0Write (off / 4 * 4) v (be % 16) := by
  have : (d.readWord (off / 4 * 4)).isNone = false := by simpa [Option.isSome_iff_ne_none] using h
  simp [Dev.regWrite, this, Dev.wakeFor_of_on on, Dev.writeWord_of_sound sound]

/-- So a write that acts on no word, or is not let through, changes nothing. -/
theorem Dev.regWrite_ignored {d : Dev} (on : ∀ k, d.domSt k = .on) (sound : d.flaws = []) {off v be : Nat}
    (h : (d.readWord (off / 4 * 4)).isSome → d.bar0Write (off / 4 * 4) v (be % 16) = d) : d.regWrite off v be = d := by
  cases r : d.readWord (off / 4 * 4) with
  | none => simp [Dev.regWrite, r]
  | some x => exact (Dev.regWrite_word on sound (by simp [r]) v be).trans (h (by simp [r]))

/-- REGISTER_WRITE that acts on nothing. -/
theorem registerWrite_idle {s : State} {off be : Nat} {v : Word} (live : s.live) (settled : s.dev.settled) (h : s.dev.regWrite off v.toNat be = s.dev) :
    Gives (.registerWrite off v be) s (fun d => Keeps (oneOf []) [] s.dev d) :=
  Gives.core (f := fun d => (d.regWrite off v.toNat be).settle) rfl live (by
    simp only [h, Dev.settle_id _ settled]
    exact (Keeps.refl _ _ s.dev).inject s.dev)

/-- REGISTER_WRITE whose write keeps all but fields other than a ROLE, and the list of changes: nothing waits for an expired port after it either. -/
theorem registerWrite_gives {s : State} {off be : Nat} {v : Word} {n : Dev} {F : Fld → Prop} {ps : List Part} {P : Dev → Prop} (live : s.live) (settled : s.dev.settled)
    (h : s.dev.regWrite off v.toNat be = n) (k : Keeps F ps s.dev n) (hF : ∀ p f, F f → f.key ≠ (R.PU.CFG.ROLE p).key) (hps : ∀ q ∈ ps, q = Part.prs)
    (p : P (inject s.dev n)) : Gives (.registerWrite off v be) s P :=
  Gives.core (f := fun d => (d.regWrite off v.toNat be).settle) rfl live (by
    have out : ∀ q : Part, q ≠ .prs → q ∉ ps := fun q hq hm => hq (hps q hm)
    have hn : n.settled := k.settled hF (out _ (by decide)) (out _ (by decide)) (out _ (by decide)) (out _ (by decide)) settled
    simpa only [h, Dev.settle_id _ hn] using p)

/-! ### A change of configuration (R229) -/

theorem Dev.get64_set64 (d : Dev) {l u : Fld} (hl : l.w = 32) (hu : u.w = 32) (h : u.key ≠ l.key) (v : Nat) : (d.set64 l u v).get64 l u = v % 2 ^ 64 := by
  simp only [Dev.get64, Dev.set64, Dev.get_set, Dev.get_set_ne _ _ _ _ h, hl, hu]
  omega

/-- CFG_SEQ is what its two registers hold. -/
theorem Dev.cfgSeq_congr {d e : Dev} (l : e.get R.PRS.CFGSEQ_L.VALUE = d.get R.PRS.CFGSEQ_L.VALUE) (u : e.get R.PRS.CFGSEQ_H.VALUE = d.get R.PRS.CFGSEQ_H.VALUE) :
    e.cfgSeq = d.cfgSeq := by
  rw [Dev.cfgSeq, Dev.get64, l, u, Dev.cfgSeq, Dev.get64]

/-- It advances CFG_SEQ by one. -/
theorem Dev.changedOnce_cfgChange (d : Dev) : d.changedOnce d.cfgChange := by
  have kept : d.cfgChange.cfgSeq = (d.setCfgSeq (d.cfgSeq + 1)).cfgSeq :=
    Dev.cfgSeq_congr (Dev.get_addSat_ne _ R.PRS.JRNSTS.PEND _ _ (by decide)) (Dev.get_addSat_ne _ R.PRS.JRNSTS.PEND _ _ (by decide))
  exact kept.trans (Dev.get64_set64 d (l := R.PRS.CFGSEQ_L.VALUE) (u := R.PRS.CFGSEQ_H.VALUE) rfl rfl (by decide) (d.cfgSeq + 1))

theorem Dev.changedOnce_inject (a x d : Dev) : a.changedOnce (inject x d) ↔ a.changedOnce d := by
  simp only [Dev.changedOnce, Dev.cfgSeq, Dev.get64, Dev.get_inject]

/-- A field outside CFG_SEQ and the pending count stays. -/
theorem Dev.get_cfgChange_ne (d : Dev) (f : Fld) (h : f.key ∉ cmdRegs.map Fld.key) : d.cfgChange.get f = d.get f := by
  have k : Keeps (oneOf cmdRegs) [.prs] d d.cfgChange :=
    (Keeps.refl _ _ d).cfgChange (by simp [oneOf, cmdRegs]) (by simp [oneOf, cmdRegs]) (by simp [oneOf, cmdRegs]) (by simp)
  exact k.1 f fun g hg e => h (List.mem_map.2 ⟨g, hg, e⟩)

/-! ### Three registers: a slot's mask, CMDCNT and SEC.CTL (R321, R349) -/

theorem findReg_slotMask (n : Fin 32) : findReg (0x9000C + 0x100 * n.val) = some ⟨0xc, [⟨0, 10, .rw, 0, .core⟩]⟩ := by
  revert n; decide

theorem findReg_cmdCnt : findReg 0x10014 = some ⟨0x14, [⟨0, 32, .ro, 0, .core⟩]⟩ := by decide

theorem findReg_secCtl : findReg 0x1000C = some ⟨0xc, [⟨0, 8, .rw, 0x10, .cat⟩, ⟨8, 8, .rw, 0x10, .cat⟩]⟩ := by decide

/-- A slot's registers beside its status go to the slot's own rules. -/
theorem Dev.specialWrite_slot {off : Nat} (lo : 0x90000 ≤ off) (hi : off < 0x92000) (hs : stsAt off = none) (d : Dev) (w : Nat) :
    d.specialWrite off w = d.sltWrite ((off - 0x90000) / 0x100) off w := by
  simp only [Dev.specialWrite, hs]
  repeat rw [if_neg (by omega)]
  rw [if_pos ⟨lo, hi⟩]

theorem stsAt_slotMask (n : Fin 32) : stsAt (0x9000C + 0x100 * n.val) = none := by revert n; decide

/-- A write of a slot's mask register is the plain write. -/
theorem Dev.specialWrite_slotMask (d : Dev) (n : Fin 32) (w : Nat) : d.specialWrite (0x9000C + 0x100 * n.val) w = d.set (R.SLT.MASK.MASK n) (bits w 0 10) := by
  rw [Dev.specialWrite_slot (by omega) (by omega) (stsAt_slotMask n), Dev.sltWrite, if_neg (by omega), Dev.putWord, findReg_slotMask]
  rfl

theorem Dev.specialWrite_secCtl (d : Dev) (w : Nat) :
    d.specialWrite 0x1000C w = (d.set R.SEC.CTL.SEC_THRESH (bits w 0 8)).set R.SEC.CTL.CUR_THRESH (bits w 8 8) := by
  have : d.specialWrite 0x1000C w = d.putWord 0x1000C w := rfl
  rw [this, Dev.putWord, findReg_secCtl]
  rfl

/-- A slot's mask takes the enabled bytes, at any time: the field is not CAT, and no change of configuration is counted. -/
theorem Dev.writePart_slotMask {d : Dev} (n : Fin 32) {be k : Nat} (hk : k ≤ 10) (hm : bits (beMask be) 0 10 = 2 ^ k - 1) {pass : Dom → Bool} (hp : pass .core = true) (v : Nat) :
    ∃ x, x % 2 ^ 10 = (d.get (R.SLT.MASK.MASK n) % 2 ^ 10 / 2 ^ k * 2 ^ k + v % 2 ^ k) % 2 ^ 10 ∧
      d.writePart (0x9000C + 0x100 * n.val) v be pass = d.set (R.SLT.MASK.MASK n) x := by
  have reg := findReg_slotMask n
  have table : isTable (0x9000C + 0x100 * n.val) = false := by simp only [isTable, decide_eq_false_iff_not]; omega
  have touch : touches (0x9000C + 0x100 * n.val) pass = true := by simp [touches, reg, hp]
  have given : d.given32 (0x9000C + 0x100 * n.val) v be pass = d.get (R.SLT.MASK.MASK n) % 2 ^ 10 / 2 ^ k * 2 ^ k + v % 2 ^ k := by
    have low : bits v 0 10 % 2 ^ k = v % 2 ^ k := by simpa [bits] using Nat.mod_mod_of_dvd v (Nat.pow_dvd_pow 2 hk)
    simp only [Dev.given32, reg, List.foldl, Dev.given, hp, hm, mixBits_low _ _ hk, low]
    simp [R.SLT.MASK.MASK]
  refine ⟨bits (d.given32 (0x9000C + 0x100 * n.val) v be pass) 0 10, by simp [bits, given], ?_⟩
  have mode : 0x9000C + 0x100 * n.val ≠ 8 := by omega
  simp [Dev.writePart, table, touch, mode, Dev.specialWrite_slotMask, Dev.counted, catVal, reg]

/-- SEC.CTL with the thresholds of a word. -/
def Dev.withSecCtl (d : Dev) (v : Nat) : Dev := (d.set R.SEC.CTL.SEC_THRESH (v % 256)).set R.SEC.CTL.CUR_THRESH (v / 256 % 256)

theorem Dev.withSecCtl_secThresh (d : Dev) (v : Nat) : (d.withSecCtl v).get R.SEC.CTL.SEC_THRESH = v % 256 := by
  rw [Dev.withSecCtl, Dev.get_set_ne _ _ _ _ (by decide), Dev.get_set]
  exact Nat.mod_mod _ _

theorem Dev.withSecCtl_curThresh (d : Dev) (v : Nat) : (d.withSecCtl v).get R.SEC.CTL.CUR_THRESH = v / 256 % 256 := by
  rw [Dev.withSecCtl, Dev.get_set]
  exact Nat.mod_mod _ _

theorem Keeps.withSecCtl (d : Dev) (v : Nat) : Keeps (oneOf [R.SEC.CTL.SEC_THRESH, R.SEC.CTL.CUR_THRESH]) [] d (d.withSecCtl v) :=
  ((Keeps.refl _ _ d).set _ _ (by simp [oneOf])).set _ _ (by simp [oneOf])

theorem Dev.withSecCtl_cfgSeq (d : Dev) (v : Nat) : (d.withSecCtl v).cfgSeq = d.cfgSeq :=
  Dev.cfgSeq_congr ((Keeps.withSecCtl d v).1 _ (by simp only [oneOf]; decide)) ((Keeps.withSecCtl d v).1 _ (by simp only [oneOf]; decide))

theorem catVal_secCtl (d : Dev) : catVal d.regs 0x1000C = d.get R.SEC.CTL.SEC_THRESH + 256 * d.get R.SEC.CTL.CUR_THRESH := by
  simp [catVal, findReg_secCtl, Dev.get, R.SEC.CTL.SEC_THRESH, R.SEC.CTL.CUR_THRESH, Fld.mk3, Nat.mul_comm]

/-- SEC.CTL takes a whole word where CAT state takes writes, and a word that differs is one change of configuration. -/
theorem Dev.writePart_secCtl {d : Dev} {pass : Dom → Bool} (hp : pass .cat = true) (v : Nat) :
    d.writePart 0x1000C v 15 pass =
      if v % 2 ^ 16 = d.get R.SEC.CTL.SEC_THRESH + 256 * d.get R.SEC.CTL.CUR_THRESH then d.withSecCtl v else (d.withSecCtl v).cfgChange := by
  have touch : touches 0x1000C pass = true := by simp [touches, findReg_secCtl, hp]
  have given : d.given32 0x1000C v 15 pass = v % 256 + v / 256 % 256 * 256 := by
    have m0 : bits (beMask 15) 0 8 = 2 ^ 8 - 1 := by decide
    have m8 : bits (beMask 15) 8 8 = 2 ^ 8 - 1 := by decide
    simp only [Dev.given32, findReg_secCtl, List.foldl, Dev.given, hp, m0, m8, mixBits_low _ _ (Nat.le_refl 8)]
    simp [bits]
  have special : d.specialWrite 0x1000C (v % 256 + v / 256 % 256 * 256) = d.withSecCtl v := by
    have lo : bits (v % 256 + v / 256 % 256 * 256) 0 8 = v % 256 := by simp [bits]
    have hi : bits (v % 256 + v / 256 % 256 * 256) 8 8 = v / 256 % 256 := by simp only [bits]; omega
    rw [Dev.specialWrite_secCtl, lo, hi, Dev.withSecCtl]
  have wrote : catVal (d.withSecCtl v).regs 0x1000C = v % 2 ^ 16 := by
    rw [catVal_secCtl, Dev.withSecCtl_secThresh, Dev.withSecCtl_curThresh]
    omega
  have part : d.writePart 0x1000C v 15 pass = d.counted (d.withSecCtl v) (d.get R.SEC.CTL.SEC_THRESH + 256 * d.get R.SEC.CTL.CUR_THRESH != v % 2 ^ 16) := by
    simp only [Dev.writePart, touch, given, special, wrote, catVal_secCtl d]
    rfl
  rw [part, Dev.counted_of_cfgSeq (d.withSecCtl_cfgSeq v)]
  by_cases h : v % 2 ^ 16 = d.get R.SEC.CTL.SEC_THRESH + 256 * d.get R.SEC.CTL.CUR_THRESH
  · simp only [h, bne_self_eq_false, Bool.false_eq_true, if_false, if_true]
  · rw [if_pos (bne_iff_ne.2 (Ne.symm h)), if_neg h]

/-! ### Register writes (O45) -/

/-- A full or partial write of a slot's mask, of its lowest `k` bits. -/
theorem registerWrite_slotMask {s : State} (live : s.live) (settled : s.dev.settled) (alone : s.dev.committing = false) (on : ∀ k, s.dev.domSt k = .on) (w : s.writable)
    (n : Fin 32) (v : Word) {be k : Nat} (hbe : be % 16 = be) (h0 : be ≠ 0) (hk : k ≤ 10) (hm : bits (beMask be) 0 10 = 2 ^ k - 1) :
    Gives (.registerWrite (0x9000C + 0x100 * n.val) v be) s (fun d =>
      d.get (R.SLT.MASK.MASK n) = (s.dev.get (R.SLT.MASK.MASK n) % 2 ^ 10 / 2 ^ k * 2 ^ k + v.toNat % 2 ^ k) % 2 ^ 10 ∧ Keeps (oneOf [R.SLT.MASK.MASK n]) [] s.dev d) := by
  have off : (0x9000C + 0x100 * n.val) / 4 * 4 = 0x9000C + 0x100 * n.val := by omega
  have word : (s.dev.readWord ((0x9000C + 0x100 * n.val) / 4 * 4)).isSome := by
    have target : (bar0Target (0x9000C + 0x100 * n.val)).isSome := by revert n; decide
    rw [off]
    exact Dev.readWord_isSome target (by rw [findReg_slotMask]; rfl) _
  have sq : isSqBlock (0x9000C + 0x100 * n.val) = false := by simp [isSqBlock]; omega
  obtain ⟨x, hx, wrote⟩ := Dev.writePart_slotMask (d := s.dev) n hk hm (pass := fun x => x != .cat || !s.dev.saving) rfl v.toNat
  have k : Keeps (oneOf [R.SLT.MASK.MASK n]) [] s.dev (s.dev.set (R.SLT.MASK.MASK n) x) := (Keeps.refl _ _ _).set _ _ (by simp [oneOf])
  refine registerWrite_gives live settled (n := s.dev.set (R.SLT.MASK.MASK n) x) ?_ k ?_ (by simp) ⟨(Dev.get_set _ _ _).trans hx, k⟩
  · rw [Dev.regWrite_word on live.2 word, off, hbe, Dev.bar0Write_alone w (by omega) sq alone, wrote]
  · intro p f hf
    simp only [oneOf, List.mem_singleton] at hf
    simp only [hf, R.SLT.MASK.MASK, R.PU.CFG.ROLE, Fld.mk3]
    omega

/-- A whole write of SEC.CTL, a CAT register, in service or during a restore. -/
theorem registerWrite_secCtl {s : State} (live : s.live) (settled : s.dev.settled) (alone : s.dev.committing = false) (on : ∀ k, s.dev.domSt k = .on) (c : s.configurable) (v : Word) :
    Gives (.registerWrite 0x1000C v 15) s (fun d => d.get R.SEC.CTL.SEC_THRESH = v.toNat % 256 ∧ d.get R.SEC.CTL.CUR_THRESH = v.toNat / 256 % 256 ∧
      (v.toNat % 2 ^ 16 ≠ s.dev.get R.SEC.CTL.SEC_THRESH + 256 * s.dev.get R.SEC.CTL.CUR_THRESH → s.dev.changedOnce d) ∧
      Keeps (oneOf ([R.SEC.CTL.SEC_THRESH, R.SEC.CTL.CUR_THRESH] ++ cmdRegs)) [.prs] s.dev d) := by
  have w : s.dev.get R.PRS.STATE.SEQ < 7 := by have : s.dev.get R.PRS.STATE.SEQ ≤ 1 := c; omega
  have word : (s.dev.readWord 0x1000C).isSome := Dev.readWord_isSome (by decide) (by rw [findReg_secCtl]; rfl) _
  have write : s.dev.regWrite 0x1000C v.toNat 15 =
      if v.toNat % 2 ^ 16 = s.dev.get R.SEC.CTL.SEC_THRESH + 256 * s.dev.get R.SEC.CTL.CUR_THRESH then s.dev.withSecCtl v.toNat else (s.dev.withSecCtl v.toNat).cfgChange := by
    rw [← Dev.writePart_secCtl (pass := fun x => x != .cat || !s.dev.saving) (by simp [State.not_saving c]), ← Dev.bar0Write_alone w (by decide) rfl alone]
    exact Dev.regWrite_word on live.2 word _ _
  have same : Keeps (oneOf ([R.SEC.CTL.SEC_THRESH, R.SEC.CTL.CUR_THRESH] ++ cmdRegs)) [.prs] s.dev (s.dev.withSecCtl v.toNat) :=
    (Keeps.withSecCtl s.dev v.toNat).mono (fun f hf => List.mem_append_left _ hf) (by simp)
  have notRole : ∀ p f, oneOf ([R.SEC.CTL.SEC_THRESH, R.SEC.CTL.CUR_THRESH] ++ cmdRegs) f → f.key ≠ (R.PU.CFG.ROLE p).key := by
    intro p f hf
    have below : ∀ g ∈ [R.SEC.CTL.SEC_THRESH, R.SEC.CTL.CUR_THRESH] ++ cmdRegs, g.key < 32 * 0x100000 := by decide
    have := below f hf
    simp only [R.PU.CFG.ROLE, Fld.mk3]
    omega
  by_cases h : v.toNat % 2 ^ 16 = s.dev.get R.SEC.CTL.SEC_THRESH + 256 * s.dev.get R.SEC.CTL.CUR_THRESH
  · exact registerWrite_gives live settled (write.trans (if_pos h)) same notRole (by simp)
      ⟨Dev.withSecCtl_secThresh _ _, Dev.withSecCtl_curThresh _ _, fun ne => absurd h ne, same⟩
  · have changed : Keeps (oneOf ([R.SEC.CTL.SEC_THRESH, R.SEC.CTL.CUR_THRESH] ++ cmdRegs)) [.prs] s.dev (s.dev.withSecCtl v.toNat).cfgChange :=
      same.cfgChange (by simp [oneOf, cmdRegs]) (by simp [oneOf, cmdRegs]) (by simp [oneOf, cmdRegs]) (by simp)
    have once : s.dev.changedOnce (s.dev.withSecCtl v.toNat).cfgChange := by
      have := (s.dev.withSecCtl v.toNat).changedOnce_cfgChange
      rwa [Dev.changedOnce, Dev.withSecCtl_cfgSeq] at this
    have sec : (s.dev.withSecCtl v.toNat).cfgChange.get R.SEC.CTL.SEC_THRESH = v.toNat % 256 := by
      rw [Dev.get_cfgChange_ne _ _ (by decide), Dev.withSecCtl_secThresh]
    have cur : (s.dev.withSecCtl v.toNat).cfgChange.get R.SEC.CTL.CUR_THRESH = v.toNat / 256 % 256 := by
      rw [Dev.get_cfgChange_ne _ _ (by decide), Dev.withSecCtl_curThresh]
    exact registerWrite_gives live settled (write.trans (if_neg h)) changed notRole (by simp) ⟨sec, cur, fun _ => (Dev.changedOnce_inject _ _ _).2 once, changed.inject s.dev⟩

/-- A write that meets no field it may act on has no effect. -/
theorem registerWrite_untouched {s : State} (live : s.live) (settled : s.dev.settled) (alone : s.dev.committing = false) (on : ∀ k, s.dev.domSt k = .on) {off : Nat}
    (aligned : off / 4 * 4 = off) (table : isTable off = false) (sq : isSqBlock off = false) (h : touches off (fun x => x != .cat || !s.dev.saving) = false) (v : Word) (be : Nat) :
    Gives (.registerWrite off v be) s (fun d => Keeps (oneOf []) [] s.dev d) := by
  refine registerWrite_idle live settled (Dev.regWrite_ignored on live.2 fun _ => ?_)
  rw [aligned]
  by_cases out : 7 ≤ s.dev.get R.PRS.STATE.SEQ ∨ be % 16 % 16 = 0
  · exact Dev.bar0Write_ignored out _ _
  · rw [not_or, Nat.not_le] at out
    exact (Dev.bar0Write_alone out.1 out.2 sq alone _).trans (Dev.writePart_untouched table h _ _)

/-- Settles O45. -/
theorem registerWrites : Obligations.RegisterWrites := by
  intro s v be live settled alone on
  refine ⟨fun w => ⟨fun n => ?_, fun n => ?_, ?_⟩, fun c => registerWrite_secCtl live settled alone on c v, fun saving => ?_, fun off ignored => ?_⟩
  · obtain ⟨t, ht, hp, value, keeps⟩ := registerWrite_slotMask live settled alone on w n v (be := 15) (k := 10) rfl (by decide) (Nat.le_refl 10) (by decide)
    exact ⟨t, ht, hp, by omega, keeps⟩
  · obtain ⟨t, ht, hp, value, keeps⟩ := registerWrite_slotMask live settled alone on w n v (be := 1) (k := 8) rfl (by decide) (by decide) (by decide)
    exact ⟨t, ht, hp, by omega, keeps⟩
  · exact registerWrite_untouched live settled alone on rfl rfl rfl (by simp [touches, findReg_cmdCnt]) v be
  · exact registerWrite_untouched live settled alone on rfl rfl rfl (by simp [touches, findReg_secCtl, saving]) v be
  · refine registerWrite_idle live settled (Dev.regWrite_ignored on live.2 fun word => Dev.bar0Write_ignored ?_ _ _)
    rcases ignored with nowhere | out | no
    · simp [nowhere] at word
    · exact .inl out
    · exact .inr (by omega)

end Sys2Proof.Machine
end

section
/-! PROOFS. The refutations of O46 and O47: a state each, and what the model makes of it. -/
namespace Sys2Proof.Machine

/-- What a command of the logic outside AON gives is what its effect and injection make of the device. -/
theorem Gives.of_core {c : Instr} {s : State} {f : Dev → Dev} {P : Dev → Prop} (h : exec c s = Machine.core s f) (live : s.live) (g : Gives c s P) : P (inject s.dev (f s.dev)) := by
  obtain ⟨t, ht, -, p⟩ := g
  rw [h, core_next s f live.1 live.2] at ht
  cases ht
  exact p

/-! ### A refused selector's fault bit is cleared (R353, R364) -/

/-- Out of reset, after a refused write of counter selector 5: CFG_REJ is set, and CTRERR holds the number. -/
def selectorRefused : State := ⟨({ clk := { locked := true } } : Dev).ctrRefuse 5, []⟩

/-- Clearing CFG_REJ returns CTRERR to 0 with it. -/
theorem selectorRefused_cleared :
    selectorRefused.dev.get R.TLY.CTRERR.VALID = 1 ∧ (selectorRefused.dev.faultClear 0x50004 8 0).get R.TLY.CTRERR.VALID = 0 := by decide +kernel

/-- Refutes O46: CTRERR.VALID returns to 0 when CFG_REJ of TLY.STS is cleared (R364), so a register beside the status register changes. -/
theorem not_faultBitsAndInjection : ¬ Obligations.FaultBitsAndInjection := by
  intro h
  have live : selectorRefused.live := by decide +kernel
  have writable : selectorRefused.writable := by decide +kernel
  obtain ⟨clear, -⟩ := (h selectorRefused live writable).1 0x50004 .tly 8 rfl
  have effect : exec (.faultBitClear 0x50004 8 0) selectorRefused =
      core selectorRefused (fun d => if 7 ≤ d.get R.PRS.STATE.SEQ then d else d.faultClear 0x50004 8 0) := rfl
  obtain ⟨-, -, -, keeps⟩ := Gives.of_core effect live clear
  have beside : ∀ f ∈ Sts.tly.firstF :: (List.range 32).map Sts.tly.bit, f.key ≠ R.TLY.CTRERR.VALID.key := by decide
  have kept := keeps.1 R.TLY.CTRERR.VALID beside
  rw [Dev.get_inject, if_neg (Nat.not_le.2 writable), selectorRefused_cleared.1, selectorRefused_cleared.2] at kept
  exact absurd kept (by decide)

/-! ### A queue halts for a status that four bits do not hold (R188, R208) -/

/-- Out of reset, with system queue 1,024 in a stop of kind ERROR whose status fills more than four bits of ERRQ.STATUS. -/
def stoppedForSixteen : State := ⟨{ clk := { locked := true }, queues := [(1024, { st := 2 })], skid := { rt := [(1024, { stop := 3, why := 16 })] } }, []⟩

/-- Refutes O47: ERRQ.STATUS has eight bits and takes the status 16 whole, where the statement takes it modulo 16. No hypothesis keeps a queue's recorded status
below 16; the statuses of R203 all lie there. -/
theorem not_skidderQueues : ¬ Obligations.SkidderQueues := by
  intro h
  have live : stoppedForSixteen.live := by decide +kernel
  have settled : stoppedForSixteen.dev.settled := by decide +kernel
  obtain ⟨-, -, -, -, -, -, -, -, -, -, -, -, -, -, -, -, stop, -⟩ := h 1024 stoppedForSixteen live settled (by decide +kernel)
  have halt := (stop (by decide +kernel) (by decide +kernel) (by decide +kernel)).2 (by decide +kernel) (by decide +kernel)
  have effect : exec (.stopComplete 1024) stoppedForSixteen = core stoppedForSixteen (fun d => (d.mirrorQueue (d.stopComplete 1024) 1024).settle) := rfl
  obtain ⟨-, -, -, -, record, -⟩ := Gives.of_core effect live halt
  obtain ⟨-, status, -⟩ := record (by decide +kernel) (by decide +kernel)
  have whole : (stoppedForSixteen.dev.mirrorQueue (stoppedForSixteen.dev.stopComplete 1024) 1024).settle.get R.DMV.ERRQ.STATUS = 16 := by decide +kernel
  rw [Dev.get_inject, whole] at status
  exact absurd status (by decide +kernel)

end Sys2Proof.Machine
end
